-- ==== Sys2Proof/Word.lean ====
section
/-! DEFINITION. The word types: bytes and the wider fields of the layouts (chapter 10). -/

namespace Sys2Proof

/-- One byte of a link, of a buffer or of a descriptor copy. -/
abbrev Byte := BitVec 8

/-- A 16-bit field: a descriptor generation, a class code, a detail, a sequence number (R172). -/
abbrev Word16 := BitVec 16

/-- A 32-bit field: a roster generation, a join stamp, a rack id (R172). -/
abbrev Word32 := BitVec 32

/-- A serial id (R1, R172). -/
abbrev Serial := BitVec 48

/-- A timer of 1 ms resolution: `none` when stopped, `some n` when running with `n` ms remaining. -/
abbrev Timer := Option Nat

end Sys2Proof
end

