-- ==== Sys2Proof/Syntax.lean ====
section
/-! DEFINITION. The words of the block's commands: ports, paths, entries as they travel, link messages, and `Instr`,
one constructor for each row of spec/opcode_table.json. -/

namespace Sys2Proof

/-- ROLE strap (00_scope.md, R173). -/
inductive Role where
  | root
  | branch
  deriving DecidableEq, Repr

/-- The two RATE straps as sampled, first and second (R157); `true` is high. -/
structure Rate where
  first : Bool
  second : Bool
  deriving DecidableEq, Repr

/-- A slot; the index `i` stands for slot number `i + 1` (slots are numbered 1 to 10). -/
abbrev SlotId := Fin 10

/-- A downstream port, D1 or D2. -/
inductive DPort where
  | d1
  | d2
  deriving DecidableEq, Repr

/-- An expansion port: the upstream port U or a downstream port. -/
inductive Port where
  | u
  | d (p : DPort)
  deriving DecidableEq, Repr

/-- A path, read from the part that holds the record downward (00_scope.md, conventions). -/
abbrev Path := List DPort

/-- A raw input line with a presence filter: PRESENT of a slot, or CARRIER of a port (R27). -/
inductive Line where
  | slot (i : SlotId)
  | carrier (p : Port)
  deriving DecidableEq, Repr

/-- The state of a roster entry (R3). -/
inductive EntryState where
  | online
  | returning
  | leaving
  | conflict
  deriving DecidableEq, Repr

/-- The full-power allowance of an entry (R93). -/
inductive Grant where
  | none
  | waiting
  | granted
  deriving DecidableEq, Repr

/-- The key of a roster entry (R2). -/
structure Key where
  path : Path
  slot : SlotId
  deriving DecidableEq, Repr

/-- Where an event happened (00_scope.md, R140): path, slot 0 to 10, op id. -/
structure Locus where
  path : Path
  slot : Nat
  op : Byte
  deriving DecidableEq, Repr

/-- The seventeen event kinds (R141). -/
inductive EvKind where
  | slotOccupied
  | slotVacated
  | moduleJoined
  | moduleLeft
  | checkinRefused
  | burstStall
  | opDone
  | branchJoined
  | branchLost
  | branchResync
  | hostFrameError
  | branchEventsLost
  | slotParked
  | serialConflict
  | grantBlocked
  | rosterOverflow
  | depthExceeded
  deriving DecidableEq, Repr

/-- The style of an event record (R140). -/
inductive EvStyle where
  | latched
  | condition
  deriving DecidableEq, Repr

/-- The four completeness flags (R21). -/
structure Flags where
  overflowed : Bool
  belowIncomplete : Bool
  depthRefused : Bool
  linkPending : Bool
  deriving DecidableEq, Repr

/-- All four completeness flags clear. -/
def Flags.clear : Flags :=
  { overflowed := false, belowIncomplete := false, depthRefused := false, linkPending := false }

/-- Why a dump began (7.2). -/
inductive DumpCause where
  | first
  | requested
  | queueFull
  | noAck
  deriving DecidableEq, Repr

/-- The record that carries an entry upward (R127), with the draw class and the capability words as received: the
owning rule R17 judges them. -/
structure LinkRecord where
  key : Key
  serial : Serial
  classCode : Word16
  revision : Byte
  draw : Byte
  state : EntryState
  grant : Grant
  caps : List Word16
  deriving DecidableEq, Repr

/-- What a SYNC ENTRY carries: a record, or a vacant key (R129). -/
inductive SyncBody where
  | present (r : LinkRecord)
  | vacant (k : Key)
  deriving DecidableEq, Repr

/-- What a DELTA carries (R126, R127). -/
inductive DeltaBody where
  | add (r : LinkRecord)
  | update (r : LinkRecord)
  | remove (k : Key)
  | flags (f : Flags)
  deriving DecidableEq, Repr

/-- The contents of an EVENT UP (R151, R175, R176): the event record with the child's sequence number, and the
lost count. -/
structure EventUp where
  seq : Word16
  kind : EvKind
  priority : Byte
  style : EvStyle
  locus : Locus
  detail : Word16
  count : Byte
  origin : Path
  lost : Byte
  deriving DecidableEq, Repr

/-- The sort of item an EVENT ACK answers (R151). -/
inductive AckItem where
  | record
  | clear
  deriving DecidableEq, Repr

/-- The three kinds of reply to a request (R163, R176). -/
inductive ReplyKind where
  | ok
  | accepted
  | refused
  deriving DecidableEq, Repr

/-- The link messages (R108, R176). The remaining path and the inner request of a FORWARD REQUEST are carried as
bytes. -/
inductive LinkMsg where
  | probe (tier : Byte) (path : Path)
  | probeReply (rackId : Word32) (rackClass : Word16) (revision : Byte)
  | keepalive
  | syncBegin (count : Byte) (cause : DumpCause)
  | syncEntry (ordinal : Byte) (body : SyncBody)
  | syncEnd (count : Byte) (flags : Flags)
  | syncAck
  | delta (seq : Byte) (body : DeltaBody)
  | deltaAck (seq : Byte)
  | resync
  | eventUp (e : EventUp)
  | eventAck (item : AckItem) (seq : Word16)
  | conditionClear (kind : EvKind) (locus : Locus) (seq : Word16)
  | info (rackId : Word32) (rackClass : Word16)
  | forwardRequest (tag : Byte) (path : Byte) (kind : Byte) (payload : List Byte)
  | forwardReply (tag : Byte) (kind : ReplyKind) (payload : List Byte)
  | linkReset
  deriving DecidableEq, Repr

/-- The commands, in the order of spec/opcode_table.json. A host request row is a good frame of that kind with the
given tag and the payload fields of R174; a link message row is a good frame received on the given port; a slot link
row is a write transfer (or one byte clocked) on the given slot's wires. -/
inductive Instr where
  | hardwareReset (role : Role) (rate : Rate)
  | presenceInputChange (line : Line) (level : Bool)
  | settleTimerExpiry (line : Line)
  | enableDelayExpiry (slot : SlotId)
  | checkinLimitExpiry (slot : SlotId)
  | ejectTimerExpiry (slot : SlotId)
  | pulseTimerExpiry (slot : SlotId)
  | hostByteReceived (b : Byte)
  | hostGapTimerExpiry
  | hostFrameSent
  | requestUnknownKind (kind tag : Byte) (payload : List Byte)
  | hello (tag : Byte)
  | partReset (tag keep : Byte)
  | forward (tag path kind : Byte) (payload : List Byte)
  | slotConfigure (tag slot policy settle delay limit : Byte)
  | slotPermit (tag slot value : Byte)
  | slotResume (tag slot : Byte)
  | slotEject (tag slot : Byte)
  | slotStatus (tag slot : Byte)
  | rackConfigure (tag width timeout : Byte)
  | descWrite (tag page offset length : Byte) (data : List Byte)
  | descRead (tag copy page offset length : Byte)
  | descCommit (tag reannounce : Byte)
  | copyingTimerExpiry
  | rosterRead (tag start count : Byte) (expected : Option Word32)
  | rosterSummary (tag : Byte)
  | budgetSet (tag budget : Byte)
  | budgetStatus (tag : Byte)
  | branchStatus (tag : Byte)
  | linkRestart (tag port : Byte)
  | rescan (tag : Byte)
  | eventFetch (tag maximum : Byte)
  | eventAck (tag count : Byte) (seqs : List Word16)
  | eventSetup (tag kind setting : Byte)
  | status (slot : SlotId)
  | pageRead (slot : SlotId) (page offset length : Byte)
  | checkIn (slot : SlotId) (record : List Byte)
  | release (slot : SlotId)
  | badCommand (slot : SlotId) (command : Byte) (args : List Byte)
  | slotLinkByteRead (slot : SlotId)
  | stallTimerExpiry (slot : SlotId)
  | linkByteReceived (port : Port) (b : Byte)
  | linkGapTimerExpiry (port : Port)
  | linkFrameSent (port : Port)
  | probe (port : Port) (tier : Byte) (path : Path)
  | probeReply (port : Port) (rackId : Word32) (rackClass : Word16) (revision : Byte)
  | keepalive (port : Port)
  | syncBegin (port : Port) (count : Byte) (cause : DumpCause)
  | syncEntry (port : Port) (ordinal : Byte) (body : SyncBody)
  | syncEnd (port : Port) (count : Byte) (flags : Flags)
  | syncAck (port : Port)
  | resync (port : Port)
  | delta (port : Port) (seq : Byte) (body : DeltaBody)
  | deltaAck (port : Port) (seq : Byte)
  | linkEventAck (port : Port) (item : AckItem) (seq : Word16)
  | eventUp (port : Port) (e : EventUp)
  | conditionClear (port : Port) (kind : EvKind) (locus : Locus) (seq : Word16)
  | info (port : Port) (rackId : Word32) (rackClass : Word16)
  | forwardRequest (port : Port) (tag path kind : Byte) (payload : List Byte)
  | forwardReply (port : Port) (tag : Byte) (kind : ReplyKind) (payload : List Byte)
  | linkReset (port : Port)
  | probeTimerExpiry (port : DPort)
  | keepaliveTimerExpiry (port : Port)
  | lossTimerExpiry (port : Port)
  | ackTimerExpiry
  | syncTimerExpiry (port : DPort)
  | deltaRetransmitExpiry
  | eventRetransmitExpiry
  | hopTimerExpiry (op : Byte)
  deriving DecidableEq, Repr

end Sys2Proof
end

