-- ==== Sys2Proof/Decode.lean ====
section
/-! DEFINITION. The commands a table word spells. No row of spec/opcode_table.json gives bits: a command reaches the
block as a line change, a byte, a frame, a transfer or a timer's end, and no word spells one (log 25). -/

namespace Sys2Proof

/-- The command that a word spells by the table's bits: none, since no row gives bits (log 25). -/
def decodeTableWord (_nbits _w : Nat) : Option Instr := none

end Sys2Proof
end

