-- ==== Sys2Proof/Config.lean ====
section
/-! DEFINITION. What an implementation fixes and the free values: constants without a body, so that no proof
can see what they are. -/

namespace Sys2Proof

/-- FREE VALUE (log 12). The hardware revision byte, the same in HELLO and in PROBE REPLY (R166); the spec names no
value. -/
opaque Config.hardwareRevision : Byte

/-- FREE VALUE (log 11). The tier a part reckons with where a rule speaks of 'this part's tier' while the tier is
unknown (R107, R121). -/
opaque Config.unknownTier : Nat

end Sys2Proof
end

