-- ==== Sys2Proof/Machine/State.lean ====
section
/-! DEFINITION. The state of the part: every register, buffer, queue, counter, mode and line the spec gives it, as
plain data, and the state right after hardware reset. -/

namespace Sys2Proof.Machine

/-- Who raises a fault: nobody. The part has no command that stops it (INVENTORY.md, Faults), so the type has no
constructor. Safe: no step answers a fault. -/
inductive Fault where
  deriving DecidableEq, Repr

/-- The reasons for which the model turns a command away. -/
inductive Refusal where
  /-- Raised by an arm of `exec` for a row that has no meaning yet. Safe: the machine stops there. -/
  | notModelled (mnemonic : String)
  /-- Raised by a row that stands for a frame whose payload exceeds 200 bytes: no host or link frame carries it (R157,
  R108), so no sender can give the command. Safe: the machine stops there. -/
  | oversizeFrame
  deriving DecidableEq, Repr

/-! ### Chapter 2: lines, filters and slots -/

/-- The state of a presence filter (R27). -/
inductive FilterState where
  | empty
  | settling
  | present
  deriving DecidableEq, Repr

/-- A presence filter with the level of its raw line (R27). -/
structure Filter where
  raw : Bool
  state : FilterState
  timer : Timer
  deriving DecidableEq, Repr

/-- The state of a slot sequencer (R29). -/
inductive SlotState where
  | idle
  | held
  | delaying
  | enabled
  | online
  | leaving
  | announcing
  | parked
  deriving DecidableEq, Repr

/-- Why a slot is parked (R40). -/
inductive ParkReason where
  | none
  | ejected
  | checkinTimeout
  | rejected
  deriving DecidableEq, Repr

/-- A slot's attach policy (R31). -/
inductive Policy where
  | auto
  | descriptor
  | permit
  | manual
  deriving DecidableEq, Repr

/-- The record of a slot sequencer (R29). The EN line is `SlotState.en` of its state (R30). -/
structure Slot where
  state : SlotState
  parkReason : ParkReason
  policy : Policy
  settle : Byte
  enableDelay : Byte
  checkinLimit : Byte
  permit : Bool
  lastRead : Word16
  ejectRequested : Bool
  ejectOp : Byte
  timer : Timer
  deriving DecidableEq, Repr

/-- The two rack-wide settings (R50). -/
structure Rack where
  pulseWidth : Byte
  ejectTimeout : Byte
  deriving DecidableEq, Repr

/-! ### Chapter 3: slot link targets -/

/-- Bank 0 or bank 1 of the descriptor store. -/
inductive Bank where
  | bank0
  | bank1
  deriving DecidableEq, Repr

/-- A slot link result (R173). -/
inductive SlotResult where
  | ok
  | accepted
  | conflict
  | full
  | malformed
  | notEnabled
  | ejecting
  | notEjecting
  | noPage
  | badRange
  | badCommand
  deriving DecidableEq, Repr

/-- A burst being served (R54, R59). `headerRead` counts the bytes of the response's three-byte header that have been
clocked out. -/
structure Burst where
  bank : Bank
  generation : Word16
  page : Nat
  offset : Nat
  remaining : Nat
  headerRead : Nat
  deriving DecidableEq, Repr

/-- The phase of a slot link target with what is present in it (R54). -/
inductive TargetPhase where
  | ready
  | holding (response : List Byte) (position : Nat)
  | burst (b : Burst)
  deriving DecidableEq, Repr

/-- The record of a slot link target (R54). `lastByte` is the model's own: the byte last clocked out to the module
(log 19). -/
structure Target where
  phase : TargetPhase
  stall : Timer
  lastResult : Option SlotResult
  lastByte : Option Byte
  deriving DecidableEq, Repr

/-! ### Chapter 4: the descriptor store -/

/-- One copy of the descriptor: the cells, by address, that differ from what hardware reset leaves. -/
abbrev Memory := List Host.Cell

/-- The held phases of a commit in flight (R78). -/
inductive CommitPhase where
  | draining
  | copying
  | announcing
  deriving DecidableEq, Repr

/-- The record of the commit engine while a commit is in flight (R78). `newGen` is 0 until COPYING computes it. -/
structure Commit where
  phase : CommitPhase
  op : Byte
  reannounce : Bool
  target : Bank
  timer : Timer
  newGen : Word16
  selected : List SlotId
  deriving DecidableEq, Repr

/-- The descriptor store (R73). `commit` is `none` while the engine is IDLE. -/
structure Desc where
  staging : Memory
  bank0 : Memory
  bank1 : Memory
  live : Bank
  commit : Option Commit
  deriving DecidableEq, Repr

/-! ### Chapter 1: the roster -/

/-- A roster entry (R1). `reported` is absent, and `stale` clear, for a local entry. -/
structure Entry where
  key : Key
  serial : Serial
  classCode : Word16
  revision : Byte
  draw : Fin 4
  caps : List Word16
  state : EntryState
  reported : Option EntryState
  grant : Grant
  joinStamp : Word32
  stale : Bool
  deriving DecidableEq, Repr

/-- The roster (R2, R6, R20 to R22). -/
structure Roster where
  entries : List Entry
  generation : Word32
  joinCounter : Word32
  marker1 : Bool
  marker2 : Bool
  flags : Flags
  deriving DecidableEq, Repr

/-! ### Chapter 5: the budget unit -/

/-- The budget unit (R93). The grants themselves are fields of the entries. -/
structure Budget where
  units : Nat
  waiting : List SlotId
  pwr : Vector Bool 10
  deriving DecidableEq, Repr

/-! ### Chapter 9: the operation table and the host link -/

/-- The kind of an operation table entry (R167). -/
inductive OpKind where
  | commit
  | eject
  | rescan
  | forward
  deriving DecidableEq, Repr

/-- The origin of an operation table entry (R167). -/
inductive Origin where
  | host (tag : Byte)
  | upstream (tag : Byte)
  deriving DecidableEq, Repr

/-- An operation table entry (R167); the hop fields are for FORWARD entries only. -/
structure OpEntry where
  op : Byte
  kind : OpKind
  origin : Origin
  hopPort : Option DPort
  hopTimer : Timer
  deriving DecidableEq, Repr

/-- The operation table and the op id counter (R167). -/
structure OpTable where
  entries : List OpEntry
  counter : Byte
  deriving DecidableEq, Repr

/-- The phase of a frame receiver (R158, R108) with the bytes gathered: kind, tag, payload and CRC so far. -/
inductive RxPhase where
  | hunting
  | length
  | body (length : Byte) (got : List Byte)
  deriving DecidableEq, Repr

/-- A frame receiver (R158, R108). -/
structure Rx where
  phase : RxPhase
  gap : Timer
  deriving DecidableEq, Repr

/-- A host link frame, less START, length and CRC, which follow from it (R157). -/
structure HostFrame where
  kind : Byte
  tag : Byte
  payload : List Byte
  deriving DecidableEq, Repr

/-- The sort of a frame on the send list (R161). -/
inductive SendSort where
  | reply
  | late
  | overrun
  | attention
  deriving DecidableEq, Repr

/-- A frame handed to the host transmitter. `resets` marks the reply to a taken PART RESET with its KEEP_DESCRIPTOR
flag: the soft reset begins when it has been sent (R170). -/
structure SendItem where
  sort : SendSort
  frame : HostFrame
  resets : Option Bool
  deriving DecidableEq, Repr

/-- The reply held by the repeat memory: a frame, or pending while the FORWARD with that op id waits (R164). -/
inductive MemReply where
  | frame (f : HostFrame)
  | pending (op : Byte)
  deriving DecidableEq, Repr

/-- The record of the repeat memory (R164). -/
structure RepeatRec where
  tag : Byte
  kind : Byte
  crc : Word16
  reply : MemReply
  deriving DecidableEq, Repr

/-- The host link (R158, R160, R161, R164). -/
structure HostLink where
  rx : Rx
  buffer : List HostFrame
  cur : Option SendItem
  sendList : List SendItem
  memory : Option RepeatRec
  deriving DecidableEq, Repr

/-! ### Chapters 6 and 7: the expansion links -/

/-- The state of a link; REFUSED on D ports only (R107). -/
inductive LinkState where
  | down
  | probing
  | syncing
  | up
  | refused
  deriving DecidableEq, Repr

/-- A frame handed to a port. `resets` marks the FORWARD REPLY to a taken PART RESET (R170). -/
structure TxFrame where
  msg : LinkMsg
  resets : Option Bool
  deriving DecidableEq, Repr

/-- The transmitter of a port: the frame being sent and the frames waiting (R108). -/
structure LinkTx where
  cur : Option TxFrame
  waiting : List TxFrame
  deriving DecidableEq, Repr

/-- Where the child's dump stands (7.2). -/
inductive DumpPhase where
  | none
  | sending
  | awaitingAck
  deriving DecidableEq, Repr

/-- A delta of the outbound delta queue, with its sequence number once sent (R133). -/
structure Delta where
  body : DeltaBody
  seq : Option Byte
  deriving DecidableEq, Repr

/-- The U port: its link controller (R107) and the child's side of propagation (7.2, R133). -/
structure ULink where
  state : LinkState
  filter : Filter
  rx : Rx
  tx : LinkTx
  keepalive : Timer
  loss : Timer
  recTier : Option Nat
  recPath : Option Path
  tierKnown : Bool
  dumpPhase : DumpPhase
  dumpCause : DumpCause
  dumpList : List Key
  cursor : Nat
  ackTimer : Timer
  deltas : List Delta
  nextSeq : Byte
  retransmit : Timer
  deriving DecidableEq, Repr

/-- A filled branch table entry (R117); `reported` is `none` while the child has reported no flags. -/
structure Child where
  rackId : Word32
  rackClass : Word16
  revision : Byte
  tier : Nat
  reported : Option Flags
  deriving DecidableEq, Repr

/-- Where the dump on a D port stands (7.3). -/
inductive SyncPhase where
  | none
  | awaiting
  | receiving
  deriving DecidableEq, Repr

/-- A D port: its link controller (R107, R117), the parent's side of propagation (7.3), and the child sequence number
last taken (R154). -/
structure DLink where
  state : LinkState
  filter : Filter
  rx : Rx
  tx : LinkTx
  probe : Timer
  keepalive : Timer
  loss : Timer
  child : Option Child
  everUp : Bool
  syncPhase : SyncPhase
  announced : Nat
  nextOrdinal : Nat
  syncTimer : Timer
  expected : Byte
  recent : List Byte
  lastChildSeq : Option Word16
  deriving DecidableEq, Repr

/-- A RESCAN in flight (R138). -/
structure Rescan where
  op : Byte
  ports : List DPort
  synced : Nat
  deriving DecidableEq, Repr

/-! ### Chapter 8: the event unit -/

/-- An event record in the queue (R140). -/
structure EvRecord where
  seq : Word16
  kind : EvKind
  priority : Fin 4
  style : EvStyle
  locus : Locus
  detail : Word16
  count : Nat
  origin : Path
  deriving DecidableEq, Repr

/-- A condition instance: a condition kind together with a locus (R142). -/
structure CondId where
  kind : EvKind
  locus : Locus
  deriving DecidableEq, Repr

/-- An entry of the remote condition set (R155). -/
structure RemoteCond where
  port : DPort
  kind : EvKind
  locus : Locus
  detail : Word16
  origin : Path
  deriving DecidableEq, Repr

/-- An entry of the reported-condition set (R152). The entries waiting to be cleared stand in the order in which they
were marked. -/
structure Reported where
  kind : EvKind
  locus : Locus
  seq : Word16
  waiting : Bool
  deriving DecidableEq, Repr

/-- The item in flight upward (R151): an event record as first sent, or a clear of a reported condition. -/
inductive InFlight where
  | record (e : EventUp)
  | clear (kind : EvKind) (locus : Locus) (seq : Word16)
  deriving DecidableEq, Repr

/-- The event unit with the drain state of a branch (R140 to R156). -/
structure EventUnit where
  queue : List EvRecord
  counter : Word16
  lost : Nat
  kinds : Vector (Option (Fin 4)) 17
  localConds : List CondId
  remoteConds : List RemoteCond
  announced : Option (Fin 4)
  inFlight : Option InFlight
  retransmit : Timer
  reported : List Reported
  deriving DecidableEq, Repr

/-- The state of the part. `pending` is the queue of commands that are waiting, first in, first out. -/
structure State where
  role : Role
  rate : Rate
  filters : Vector Filter 10
  slots : Vector Slot 10
  rack : Rack
  targets : Vector Target 10
  desc : Desc
  roster : Roster
  budget : Budget
  ops : OpTable
  host : HostLink
  u : ULink
  d1 : DLink
  d2 : DLink
  rescan : Option Rescan
  ev : EventUnit
  pending : List Instr
  deriving DecidableEq, Repr

/-! ### Values after hardware reset -/

/-- A filter after reset over an inactive line (R52). -/
def Filter.reset : Filter := { raw := false, state := .empty, timer := none }

/-- A slot after reset (R51). -/
def Slot.reset : Slot :=
  { state := .idle, parkReason := .none, policy := .descriptor, settle := 20, enableDelay := 10, checkinLimit := 20,
    permit := false, lastRead := 0, ejectRequested := false, ejectOp := 0, timer := none }

/-- The rack-wide settings after reset (R51). -/
def Rack.reset : Rack := { pulseWidth := 10, ejectTimeout := 50 }

/-- A slot link target after reset (R70). -/
def Target.reset : Target := { phase := .ready, stall := none, lastResult := none, lastByte := none }

/-- The descriptor store after hardware reset (R91): nothing listed in any copy. -/
def Desc.reset : Desc := { staging := [], bank0 := [], bank1 := [], live := .bank0, commit := none }

/-- The roster after reset (R26). -/
def Roster.reset : Roster :=
  { entries := [], generation := 0, joinCounter := 0, marker1 := false, marker2 := false, flags := .clear }

/-- The budget unit after reset (R106). -/
def Budget.reset : Budget := { units := 0, waiting := [], pwr := Vector.replicate 10 false }

/-- The operation table after reset (R171). -/
def OpTable.reset : OpTable := { entries := [], counter := 1 }

/-- A receiver after reset (R125, R171). -/
def Rx.reset : Rx := { phase := .hunting, gap := none }

/-- The host link after reset (R171). -/
def HostLink.reset : HostLink := { rx := .reset, buffer := [], cur := none, sendList := [], memory := none }

/-- A port's transmitter after reset (R125). -/
def LinkTx.reset : LinkTx := { cur := none, waiting := [] }

/-- The U port after reset (R125, R139); the dump cause and the cursor are DESIGN CHOICE (log 20). -/
def ULink.reset : ULink :=
  { state := .down, filter := .reset, rx := .reset, tx := .reset, keepalive := none, loss := none, recTier := none,
    recPath := none, tierKnown := false, dumpPhase := .none, dumpCause := .first, dumpList := [], cursor := 1,
    ackTimer := none, deltas := [], nextSeq := 1, retransmit := none }

/-- A D port after reset (R125, R139, R156). -/
def DLink.reset : DLink :=
  { state := .down, filter := .reset, rx := .reset, tx := .reset, probe := none, keepalive := none, loss := none,
    child := none, everUp := false, syncPhase := .none, announced := 0, nextOrdinal := 1, syncTimer := none,
    expected := 1, recent := [], lastChildSeq := none }

/-- The default kind table, in the order of R141. -/
def EventUnit.defaultKinds : Vector (Option (Fin 4)) 17 :=
  #v[some 1, some 1, some 1, some 2, some 2, some 1, some 1, some 1, some 3, some 1, some 0, some 2, some 2, some 3,
     some 1, some 3, some 3]

/-- The event unit after reset (R156). -/
def EventUnit.reset : EventUnit :=
  { queue := [], counter := 1, lost := 0, kinds := EventUnit.defaultKinds, localConds := [], remoteConds := [],
    announced := none, inFlight := none, retransmit := none, reported := [] }

/-- The part right after hardware reset. The strap levels and the raw line levels are DESIGN CHOICE (log 1, 2, 3). -/
def State.reset : State :=
  { role := .root, rate := { first := false, second := false }, filters := Vector.replicate 10 .reset,
    slots := Vector.replicate 10 .reset, rack := .reset, targets := Vector.replicate 10 .reset, desc := .reset,
    roster := .reset, budget := .reset, ops := .reset, host := .reset, u := .reset, d1 := .reset, d2 := .reset,
    rescan := none, ev := .reset, pending := [] }

end Sys2Proof.Machine
end

