-- ==== Sys2Proof/Machine/Codes.lean ====
section
/-! DEFINITION. The enumerations of chapter 10 as code values (R173). -/

namespace Sys2Proof.Machine

/-- The code of a slot state (R173). -/
def slotStateCode : SlotState → Byte
  | .idle => 0
  | .held => 1
  | .delaying => 2
  | .enabled => 3
  | .online => 4
  | .leaving => 5
  | .announcing => 6
  | .parked => 7

/-- The code of a park reason (R173). -/
def parkReasonCode : ParkReason → Byte
  | .none => 0
  | .ejected => 1
  | .checkinTimeout => 2
  | .rejected => 3

/-- The code of a attach policy (R173). -/
def policyCode : Policy → Byte
  | .auto => 0
  | .descriptor => 1
  | .permit => 2
  | .manual => 3

/-- The attach policy that a code names (R173). -/
def policyOf (b : Byte) : Option Policy :=
  match b.toNat with
  | 0 => some .auto
  | 1 => some .descriptor
  | 2 => some .permit
  | 3 => some .manual
  | _ => none

/-- The code of a filter state (R173). -/
def filterStateCode : FilterState → Byte
  | .empty => 0
  | .settling => 1
  | .present => 2

/-- The code of a entry state or reported state (R173). -/
def entryStateCode : EntryState → Byte
  | .online => 0
  | .returning => 1
  | .leaving => 2
  | .conflict => 3

/-- The entry state or reported state that a code names (R173). -/
def entryStateOf (b : Byte) : Option EntryState :=
  match b.toNat with
  | 0 => some .online
  | 1 => some .returning
  | 2 => some .leaving
  | 3 => some .conflict
  | _ => none

/-- The code of a grant (R173). -/
def grantCode : Grant → Byte
  | .none => 0
  | .waiting => 1
  | .granted => 2

/-- The grant that a code names (R173). -/
def grantOf (b : Byte) : Option Grant :=
  match b.toNat with
  | 0 => some .none
  | 1 => some .waiting
  | 2 => some .granted
  | _ => none

/-- The code of a link state (R173). -/
def linkStateCode : LinkState → Byte
  | .down => 0
  | .probing => 1
  | .syncing => 2
  | .up => 3
  | .refused => 4

/-- The code of a role (R173). -/
def roleCode : Role → Byte
  | .root => 0
  | .branch => 1

/-- The code of a operation kind (R173). -/
def opKindCode : OpKind → Byte
  | .commit => 0
  | .eject => 1
  | .rescan => 2
  | .forward => 3

/-- The code of a dump cause (R173). -/
def dumpCauseCode : DumpCause → Byte
  | .first => 0
  | .requested => 1
  | .queueFull => 2
  | .noAck => 3

/-- The dump cause that a code names (R173). -/
def dumpCauseOf (b : Byte) : Option DumpCause :=
  match b.toNat with
  | 0 => some .first
  | 1 => some .requested
  | 2 => some .queueFull
  | 3 => some .noAck
  | _ => none

/-- The code of a event style (R173). -/
def evStyleCode : EvStyle → Byte
  | .latched => 0
  | .condition => 1

/-- The event style that a code names (R173). -/
def evStyleOf (b : Byte) : Option EvStyle :=
  match b.toNat with
  | 0 => some .latched
  | 1 => some .condition
  | _ => none

/-- The code of a event kind (R173). -/
def evKindCode : EvKind → Byte
  | .slotOccupied => 1
  | .slotVacated => 2
  | .moduleJoined => 3
  | .moduleLeft => 4
  | .checkinRefused => 5
  | .burstStall => 6
  | .opDone => 7
  | .branchJoined => 8
  | .branchLost => 9
  | .branchResync => 10
  | .hostFrameError => 11
  | .branchEventsLost => 12
  | .slotParked => 13
  | .serialConflict => 14
  | .grantBlocked => 15
  | .rosterOverflow => 16
  | .depthExceeded => 17

/-- The event kind that a code names (R173). -/
def evKindOf (b : Byte) : Option EvKind :=
  match b.toNat with
  | 1 => some .slotOccupied
  | 2 => some .slotVacated
  | 3 => some .moduleJoined
  | 4 => some .moduleLeft
  | 5 => some .checkinRefused
  | 6 => some .burstStall
  | 7 => some .opDone
  | 8 => some .branchJoined
  | 9 => some .branchLost
  | 10 => some .branchResync
  | 11 => some .hostFrameError
  | 12 => some .branchEventsLost
  | 13 => some .slotParked
  | 14 => some .serialConflict
  | 15 => some .grantBlocked
  | 16 => some .rosterOverflow
  | 17 => some .depthExceeded
  | _ => none

/-- The code of a slot link result (R173). -/
def slotResultCode : SlotResult → Byte
  | .ok => 0
  | .accepted => 1
  | .conflict => 2
  | .full => 3
  | .malformed => 4
  | .notEnabled => 5
  | .ejecting => 6
  | .notEjecting => 7
  | .noPage => 8
  | .badRange => 9
  | .badCommand => 10

/-- The code of a item of an EVENT ACK (R176) (R173). -/
def ackItemCode : AckItem → Byte
  | .record => 0
  | .clear => 1

/-- The item of an EVENT ACK (R176) that a code names (R173). -/
def ackItemOf (b : Byte) : Option AckItem :=
  match b.toNat with
  | 0 => some .record
  | 1 => some .clear
  | _ => none

/-- Why a local or remote entry is removed (R12, R18, R173). `reported` is a removal a child has reported; it raises
nothing and has no code of its own. -/
inductive Cause where
  | vacated
  | gate
  | ejected
  | checkinTimeout
  | replaced
  | linkLost
  | reported
  deriving DecidableEq, Repr

/-- The code of a removal cause (R173). -/
def causeCode : Cause → Byte
  | .vacated => 1
  | .gate => 2
  | .ejected => 3
  | .checkinTimeout => 4
  | .replaced => 5
  | .linkLost => 6
  | .reported => 0

/-- How an eject ended (R43, R173). -/
inductive EjectResult where
  | released
  | forced
  | vacated
  | gate
  deriving DecidableEq, Repr

/-- The code of an eject result (R173). -/
def ejectResultCode : EjectResult → Byte
  | .released => 1
  | .forced => 2
  | .vacated => 3
  | .gate => 4

/-- Why a D port's link was lost (R115, R173). -/
inductive LossReason where
  | carrier
  | silence
  | restart
  | upstream
  deriving DecidableEq, Repr

/-- The code of a link loss reason (R173). -/
def lossReasonCode : LossReason → Byte
  | .carrier => 1
  | .silence => 2
  | .restart => 3
  | .upstream => 4

/-- Refusal codes (R163, R173). -/
inductive RefCode where
  | unknownKind
  | badLength
  | badArgument
  | badTag
  | busy
  | stagingBusy
  | protectedBytes
  | budgetBelowGranted
  | notPermittedInState
  | badPath
  | noRoute
  | forwardTimeout
  | forwardLinkLost
  | overrun
  | stale
  | notRoot
  | notAtBranch
  deriving DecidableEq, Repr

/-- The code of a refusal (R173). -/
def refCode : RefCode → Byte
  | .unknownKind => 1
  | .badLength => 2
  | .badArgument => 3
  | .badTag => 4
  | .busy => 5
  | .stagingBusy => 6
  | .protectedBytes => 7
  | .budgetBelowGranted => 8
  | .notPermittedInState => 9
  | .badPath => 10
  | .noRoute => 11
  | .forwardTimeout => 12
  | .forwardLinkLost => 13
  | .overrun => 14
  | .stale => 15
  | .notRoot => 16
  | .notAtBranch => 17

/-- The reply kinds of R174. -/
def replyKindCode : ReplyKind → Byte
  | .ok => 0x80
  | .accepted => 0x81
  | .refused => 0x82

/-- The reply kind that a code names (R174, R176). -/
def replyKindOf (b : Byte) : Option ReplyKind :=
  match b.toNat with
  | 0x80 => some .ok
  | 0x81 => some .accepted
  | 0x82 => some .refused
  | _ => none

/-- The frame kind of ATTENTION (R174). -/
def attentionKind : Byte := 0x8F

/-- Set-or-clear values are 1 and 0 (R172). -/
def boolCode (b : Bool) : Byte := if b then 1 else 0

/-- The set-or-clear value that a code names (R172). -/
def boolOf (b : Byte) : Option Bool :=
  match b.toNat with
  | 0 => some false
  | 1 => some true
  | _ => none

/-- The number of a slot, 1 to 10, as a byte. -/
def slotByte (i : SlotId) : Byte := BitVec.ofNat 8 (i.val + 1)

/-- The slot that a number 1 to 10 names. -/
def slotOf (b : Byte) : Option SlotId :=
  if h : 1 ≤ b.toNat ∧ b.toNat ≤ 10 then some ⟨b.toNat - 1, by omega⟩ else none

/-- The number of a downstream port. -/
def dportByte : DPort → Byte
  | .d1 => 1
  | .d2 => 2

/-- The downstream port that a number names. -/
def dportOf (b : Byte) : Option DPort :=
  match b.toNat with
  | 1 => some .d1
  | 2 => some .d2
  | _ => none

/-- The place of a kind in the kind table, and its order in R141. -/
def kindIndex (k : EvKind) : Fin 17 :=
  match k with
  | .slotOccupied => 0
  | .slotVacated => 1
  | .moduleJoined => 2
  | .moduleLeft => 3
  | .checkinRefused => 4
  | .burstStall => 5
  | .opDone => 6
  | .branchJoined => 7
  | .branchLost => 8
  | .branchResync => 9
  | .hostFrameError => 10
  | .branchEventsLost => 11
  | .slotParked => 12
  | .serialConflict => 13
  | .grantBlocked => 14
  | .rosterOverflow => 15
  | .depthExceeded => 16

/-- The style of a kind (R141). -/
def kindStyle : EvKind → EvStyle
  | .slotParked | .serialConflict | .grantBlocked | .rosterOverflow | .depthExceeded => .condition
  | .slotOccupied | .slotVacated | .moduleJoined | .moduleLeft | .checkinRefused | .burstStall | .opDone
  | .branchJoined | .branchLost | .branchResync | .hostFrameError | .branchEventsLost => .latched

end Sys2Proof.Machine
end

