-- ==== Sys2Proof/Machine/Layout.lean ====
section
/-! DEFINITION. Byte order, CRC, path bytes, records and frames (chapter 10). -/

namespace Sys2Proof.Machine

/-! ### Bytes, most significant first (R172) -/

/-- Two bytes of a 16-bit field. -/
def be16 (w : Word16) : List Byte := [w.extractLsb' 8 8, w.extractLsb' 0 8]

/-- Four bytes of a 32-bit field. -/
def be32 (w : Word32) : List Byte :=
  [w.extractLsb' 24 8, w.extractLsb' 16 8, w.extractLsb' 8 8, w.extractLsb' 0 8]

/-- Six bytes of a serial id. -/
def be48 (w : Serial) : List Byte :=
  [w.extractLsb' 40 8, w.extractLsb' 32 8, w.extractLsb' 24 8, w.extractLsb' 16 8, w.extractLsb' 8 8, w.extractLsb' 0 8]

/-- The 16-bit field of two bytes. -/
def of16 (a b : Byte) : Word16 := a ++ b

/-- The 32-bit field of four bytes. -/
def of32 (a b c d : Byte) : Word32 := a ++ b ++ c ++ d

/-- The serial id of six bytes. -/
def of48 (a b c d e f : Byte) : Serial := a ++ b ++ c ++ d ++ e ++ f

/-- A number as one byte. -/
def byteOf (n : Nat) : Byte := BitVec.ofNat 8 n

/-- A number as a 16-bit field. -/
def word16Of (n : Nat) : Word16 := BitVec.ofNat 16 n

/-- A code as a 16-bit detail: its low byte (R173). -/
def detailOf (b : Byte) : Word16 := of16 0 b

/-- The words of a list of byte pairs; none when a byte is left over. -/
def words16 : List Byte → Option (List Word16)
  | [] => some []
  | [_] => none
  | a :: b :: t =>
    match words16 t with
    | some ws => some (of16 a b :: ws)
    | none => none

/-! ### CRC-16 (R83, R172) -/

/-- One bit of the CRC register: shift left, and subtract the polynomial where a one is shifted out. -/
def crcBit (c : Word16) : Word16 := if c.msb then (c <<< 1) ^^^ 0x1021 else c <<< 1

/-- One byte into the CRC register, most significant bit first. -/
def crcByte (c : Word16) (b : Byte) : Word16 :=
  crcBit (crcBit (crcBit (crcBit (crcBit (crcBit (crcBit (crcBit (c ^^^ of16 b 0))))))))

/-- The CRC of a list of bytes: polynomial 0x1021, initial value 0xFFFF, no final inversion. -/
def crc16 (bs : List Byte) : Word16 := bs.foldl crcByte 0xFFFF

/-! ### Path bytes, keys and loci (R172) -/

/-- The element bits of a path, the first element in bit `i`. -/
def pathBits : Path → Nat → Nat
  | [], _ => 0
  | .d1 :: t, i => pathBits t (i - 1)
  | .d2 :: t, i => 2 ^ i + pathBits t (i - 1)

/-- A path of 0 to 4 elements as a byte: length in bits 6 to 4, elements from bit 3 down. -/
def pathByte (p : Path) : Byte := byteOf (16 * p.length + pathBits p 3)

/-- The port that an element bit names. -/
def portBit (b : Byte) (i : Nat) : DPort := if b.getLsbD i then .d2 else .d1

/-- The path a byte encodes; none when bit 7 is set, the length is above 4, or a bit beyond the length is set. -/
def pathOf (b : Byte) : Option Path :=
  match b.toNat / 16 with
  | 0 => if b.toNat % 16 = 0 then some [] else none
  | 1 => if b.toNat % 8 = 0 then some [portBit b 3] else none
  | 2 => if b.toNat % 4 = 0 then some [portBit b 3, portBit b 2] else none
  | 3 => if b.toNat % 2 = 0 then some [portBit b 3, portBit b 2, portBit b 1] else none
  | 4 => some [portBit b 3, portBit b 2, portBit b 1, portBit b 0]
  | _ => none

/-- A key as its two bytes. -/
def keyBytes (k : Key) : List Byte := [pathByte k.path, slotByte k.slot]

/-- The key of two bytes; a slot outside 1 to 10 is no key (log 16). -/
def keyOf (p s : Byte) : Option Key :=
  match pathOf p, slotOf s with
  | some path, some slot => some { path := path, slot := slot }
  | _, _ => none

/-- A locus as its three bytes. -/
def locusBytes (l : Locus) : List Byte := [pathByte l.path, byteOf l.slot, l.op]

/-- The locus of three bytes; a slot above 10 is no locus (log 16). -/
def locusOf (p s o : Byte) : Option Locus :=
  match pathOf p with
  | some path => if s.toNat ≤ 10 then some { path := path, slot := s.toNat, op := o } else none
  | none => none

/-- The flags byte (R172). -/
def flagsByte (f : Flags) : Byte :=
  byteOf ((if f.overflowed then 1 else 0) + (if f.belowIncomplete then 2 else 0) + (if f.depthRefused then 4 else 0)
    + (if f.linkPending then 8 else 0))

/-- The flags of a flags byte; its other bits are not judged (log 17). -/
def flagsOf (b : Byte) : Flags :=
  { overflowed := b.getLsbD 0, belowIncomplete := b.getLsbD 1, depthRefused := b.getLsbD 2, linkPending := b.getLsbD 3 }

/-! ### Records (R175) -/

/-- The link form of an entry record. -/
def linkRecordBytes (r : LinkRecord) : List Byte :=
  keyBytes r.key ++ be48 r.serial ++ be16 r.classCode ++
    [r.revision, r.draw, entryStateCode r.state, grantCode r.grant, byteOf r.caps.length] ++ r.caps.flatMap be16

/-- The entry record of its link form; none when it does not fit (R172). -/
def linkRecordOf : List Byte → Option LinkRecord
  | p :: sl :: s0 :: s1 :: s2 :: s3 :: s4 :: s5 :: c0 :: c1 :: rev :: draw :: st :: gr :: n :: rest =>
    match keyOf p sl, entryStateOf st, grantOf gr, words16 rest with
    | some key, some state, some grant, some caps =>
      if caps.length = n.toNat then
        some { key := key, serial := of48 s0 s1 s2 s3 s4 s5, classCode := of16 c0 c1, revision := rev, draw := draw,
               state := state, grant := grant, caps := caps }
      else none
    | _, _, _, _ => none
  | _ => none

/-- The host form of an entry (ROSTER READ). -/
def hostEntryBytes (e : Entry) : List Byte :=
  keyBytes e.key ++ be48 e.serial ++ be16 e.classCode ++
    [e.revision, byteOf e.draw.val, entryStateCode e.state,
      (match e.reported with
        | some r => entryStateCode r
        | none => 0xFF),
      grantCode e.grant] ++ be32 e.joinStamp ++ [byteOf e.caps.length] ++ e.caps.flatMap be16

/-- The twelve bytes of an event record in EVENT FETCH. -/
def evRecordBytes (r : EvRecord) : List Byte :=
  be16 r.seq ++ [evKindCode r.kind, byteOf r.priority.val, evStyleCode r.style] ++ locusBytes r.locus ++ be16 r.detail ++
    [byteOf r.count, pathByte r.origin]

/-! ### Link messages (R176) -/

/-- The kind byte of a link message. -/
def linkKind : LinkMsg → Byte
  | .probe .. => 0xA0
  | .probeReply .. => 0xA1
  | .keepalive => 0xA2
  | .syncBegin .. => 0xA3
  | .syncEntry .. => 0xA4
  | .syncEnd .. => 0xA5
  | .syncAck => 0xA6
  | .delta .. => 0xA7
  | .deltaAck .. => 0xA8
  | .resync => 0xA9
  | .eventUp .. => 0xAA
  | .eventAck .. => 0xAB
  | .conditionClear .. => 0xAC
  | .info .. => 0xAD
  | .forwardRequest .. => 0xAE
  | .forwardReply .. => 0xAF
  | .linkReset => 0xB0

/-- The tag byte of a link message: the forward tag, or 0. -/
def linkTag : LinkMsg → Byte
  | .forwardRequest tag _ _ _ => tag
  | .forwardReply tag _ _ => tag
  | _ => 0

/-- The payload of a link message. -/
def linkPayload : LinkMsg → List Byte
  | .probe tier path => [tier, pathByte path]
  | .probeReply rackId rackClass revision => be32 rackId ++ be16 rackClass ++ [revision]
  | .keepalive => []
  | .syncBegin count cause => [count, dumpCauseCode cause]
  | .syncEntry ordinal (.present r) => ordinal :: 1 :: linkRecordBytes r
  | .syncEntry ordinal (.vacant k) => ordinal :: 0 :: keyBytes k
  | .syncEnd count flags => [count, flagsByte flags]
  | .syncAck => []
  | .delta seq (.add r) => seq :: 0 :: linkRecordBytes r
  | .delta seq (.update r) => seq :: 1 :: linkRecordBytes r
  | .delta seq (.remove k) => seq :: 2 :: keyBytes k
  | .delta seq (.flags f) => [seq, 3, flagsByte f]
  | .deltaAck seq => [seq]
  | .resync => []
  | .eventUp e =>
    be16 e.seq ++ [evKindCode e.kind, e.priority, evStyleCode e.style] ++ locusBytes e.locus ++ be16 e.detail ++
      [e.count, pathByte e.origin, e.lost]
  | .eventAck item seq => ackItemCode item :: be16 seq
  | .conditionClear kind locus seq => evKindCode kind :: locusBytes locus ++ be16 seq
  | .info rackId rackClass => be32 rackId ++ be16 rackClass
  | .forwardRequest _ path kind payload => path :: kind :: payload
  | .forwardReply _ kind payload => replyKindCode kind :: payload
  | .linkReset => []

/-- The body of a DELTA by its type and the bytes behind it. -/
def deltaBodyOf (type : Byte) (rest : List Byte) : Option DeltaBody :=
  match type.toNat, rest with
  | 0, rest => (linkRecordOf rest).map DeltaBody.add
  | 1, rest => (linkRecordOf rest).map DeltaBody.update
  | 2, [p, s] => (keyOf p s).map DeltaBody.remove
  | 3, [f] => some (.flags (flagsOf f))
  | _, _ => none

/-- The body of a SYNC ENTRY by its present byte and the bytes behind it. -/
def syncBodyOf (present : Byte) (rest : List Byte) : Option SyncBody :=
  match present.toNat, rest with
  | 1, rest => (linkRecordOf rest).map SyncBody.present
  | 0, [p, s] => (keyOf p s).map SyncBody.vacant
  | _, _ => none

/-- The codes that R173 lists for the enumeration in an event's detail; none where the detail is no enumeration. DEDUCED
(log 46): an OP_DONE is an eject's where its locus names a slot, since a commit's and a RESCAN's name slot 0 (R43, R88,
R138); and a CHECKIN_REFUSED is judged by all the slot link results, not by the four that R141 names. -/
def detailCodes (kind : EvKind) (locus : Locus) : Option (List Byte) :=
  match kind with
  | .moduleLeft =>
    some ([Cause.vacated, .gate, .ejected, .checkinTimeout, .replaced, .linkLost].map causeCode)
  | .checkinRefused =>
    some ([SlotResult.ok, .accepted, .conflict, .full, .malformed, .notEnabled, .ejecting, .notEjecting, .noPage, .badRange,
      .badCommand].map slotResultCode)
  | .opDone =>
    if locus.slot = 0 then none else some ([EjectResult.released, .forced, .vacated, .gate].map ejectResultCode)
  | .branchLost => some ([LossReason.carrier, .silence, .restart, .upstream].map lossReasonCode)
  | .branchResync => some ([DumpCause.first, .requested, .queueFull, .noAck].map dumpCauseCode)
  | .hostFrameError => some [1, 2]
  | .slotParked => some ([ParkReason.none, .ejected, .checkinTimeout, .rejected].map parkReasonCode)
  | .slotOccupied | .slotVacated | .moduleJoined | .burstStall | .branchJoined | .branchEventsLost | .serialConflict
  | .grantBlocked | .rosterOverflow | .depthExceeded => none

/-- A code in an event's detail: in the low byte beside an upper byte of 0, but for HOST_FRAME_ERROR in the upper byte,
beside any low byte (R173). -/
def carriesCode (kind : EvKind) (detail : Word16) (code : Byte) : Bool :=
  decide (detail = if kind = .hostFrameError then of16 code (detail.extractLsb' 0 8) else detailOf code)

/-- Whether an event's detail is one that its kind can carry: any, or where R173 has it carry an enumeration one of its
codes (R172). -/
def detailFits (kind : EvKind) (locus : Locus) (detail : Word16) : Bool :=
  match detailCodes kind locus with
  | none => true
  | some codes => codes.any (carriesCode kind detail)

/-- The contents of an EVENT UP by its thirteen bytes; none where a code, of its detail too, is outside its
enumeration (R172). -/
def eventUpOf (rest : List Byte) : Option EventUp :=
  match rest with
  | [s0, s1, k, pr, st, lp, ls, lo, d0, d1, n, og, lost] =>
    match evKindOf k, evStyleOf st, locusOf lp ls lo, pathOf og with
    | some kind, some style, some locus, some origin =>
      if !detailFits kind locus (of16 d0 d1) then none else
      some { seq := of16 s0 s1, kind := kind, priority := pr, style := style, locus := locus, detail := of16 d0 d1,
             count := n, origin := origin, lost := lost }
    | _, _, _, _ => none
  | _ => none

/-- Whether a refusal code is one of R173. -/
def refusalCode (code : Byte) : Bool := decide (1 ≤ code.toNat) && decide (code.toNat ≤ 17)

/-- Whether the payload of a FORWARD REPLY is one of its reply kind (R172, R174, R176): any data with OK, one op id with
ACCEPTED, and with REFUSED a code of R173 and a detail, and four bytes more for STALE. -/
def replyFits (kind : ReplyKind) (payload : List Byte) : Bool :=
  match kind with
  | .ok => true
  | .accepted => decide (payload.length = 1)
  | .refused =>
    match payload with
    | code :: _ :: _ :: more => refusalCode code && decide (more.length = if code = refCode .stale then 4 else 0)
    | _ => false

/-- The reply of a FORWARD REPLY by its reply kind byte and the bytes behind it (R176). -/
def forwardReplyOf (tag kind : Byte) (inner : List Byte) : Option LinkMsg :=
  match replyKindOf kind with
  | some r => if replyFits r inner then some (.forwardReply tag r inner) else none
  | none => none

/-- The link message of a frame's kind, tag and payload; none when the kind is no link message or the payload does not
fit it (R108, R172). -/
def linkMsgOf (kind tag : Byte) (payload : List Byte) : Option LinkMsg :=
  match kind.toNat, payload with
  | 0xA0, [tier, path] => (pathOf path).map (LinkMsg.probe tier)
  | 0xA1, [a, b, c, d, e, f, r] => some (.probeReply (of32 a b c d) (of16 e f) r)
  | 0xA2, [] => some .keepalive
  | 0xA3, [count, cause] => (dumpCauseOf cause).map (LinkMsg.syncBegin count)
  | 0xA4, ordinal :: present :: rest => (syncBodyOf present rest).map (LinkMsg.syncEntry ordinal)
  | 0xA5, [count, flags] => some (.syncEnd count (flagsOf flags))
  | 0xA6, [] => some .syncAck
  | 0xA7, seq :: type :: rest => (deltaBodyOf type rest).map (LinkMsg.delta seq)
  | 0xA8, [seq] => some (.deltaAck seq)
  | 0xA9, [] => some .resync
  | 0xAA, rest => (eventUpOf rest).map LinkMsg.eventUp
  | 0xAB, [item, a, b] => (ackItemOf item).map fun i => LinkMsg.eventAck i (of16 a b)
  | 0xAC, [k, p, s, o, a, b] =>
    match evKindOf k, locusOf p s o with
    | some kind, some locus => some (.conditionClear kind locus (of16 a b))
    | _, _ => none
  | 0xAD, [a, b, c, d, e, f] => some (.info (of32 a b c d) (of16 e f))
  | 0xAE, path :: k :: inner => some (.forwardRequest tag path k inner)
  | 0xAF, k :: inner => forwardReplyOf tag k inner
  | 0xB0, [] => some .linkReset
  | _, _ => none

/-! ### Frames (R157, R108) -/

/-- The START byte. -/
def startByte : Byte := 0xC3

/-- The largest payload of a frame. -/
def maxPayload : Nat := 200

/-- The bytes a frame's CRC covers: length, kind, tag and payload. -/
def coveredBytes (kind tag : Byte) (payload : List Byte) : List Byte := byteOf payload.length :: kind :: tag :: payload

/-- The CRC of a frame. -/
def frameCrc (kind tag : Byte) (payload : List Byte) : Word16 := crc16 (coveredBytes kind tag payload)

/-- A frame on the wire, from START to CRC. -/
def frameBytes (kind tag : Byte) (payload : List Byte) : List Byte :=
  startByte :: coveredBytes kind tag payload ++ be16 (frameCrc kind tag payload)

/-- A link message on the wire. -/
def linkFrameBytes (m : LinkMsg) : List Byte := frameBytes (linkKind m) (linkTag m) (linkPayload m)

/-- A host frame on the wire. -/
def hostFrameBytes (f : HostFrame) : List Byte := frameBytes f.kind f.tag f.payload

/-- What a complete frame's gathered bytes hold (kind, tag, payload, CRC as received), for a frame of `n` payload
bytes. -/
structure RxFrame where
  kind : Byte
  tag : Byte
  payload : List Byte
  crc : Word16
  deriving DecidableEq, Repr

/-- The frame that the gathered bytes make; `n` is the length byte's value. -/
def rxFrame (n : Nat) (got : List Byte) : RxFrame :=
  { kind := got.getD 0 0, tag := got.getD 1 0, payload := (got.drop 2).take n,
    crc := of16 (got.getD (n + 2) 0) (got.getD (n + 3) 0) }

/-- What a byte makes of a receiver: its next record, and the frame that the byte completes, if any. -/
structure RxOut where
  rx : Rx
  done : Option RxFrame
  deriving DecidableEq, Repr

/-- The gap limit inside a frame, in ms (R158). -/
def gapLimit : Nat := 2

/-- A byte reaches a receiver (R158; R108 for a port). -/
def Rx.take (rx : Rx) (b : Byte) : RxOut :=
  match rx.phase with
  | .hunting =>
    if b = startByte then { rx := { phase := .length, gap := some gapLimit }, done := none }
    else { rx := rx, done := none }
  | .length =>
    if b.toNat > maxPayload then { rx := { phase := .hunting, gap := none }, done := none }
    else { rx := { phase := .body b [], gap := some gapLimit }, done := none }
  | .body n got =>
    if got.length + 1 < n.toNat + 4 then { rx := { phase := .body n (got ++ [b]), gap := some gapLimit }, done := none }
    else { rx := { phase := .hunting, gap := none }, done := some (rxFrame n.toNat (got ++ [b])) }

/-- The gap timer of a receiver runs out: inside a frame the bytes gathered are discarded (R158). -/
def Rx.gapExpired (rx : Rx) : Rx :=
  match rx.gap with
  | none => rx
  | some _ => { phase := .hunting, gap := none }

/-- Whether a complete frame's CRC matches (R159). -/
def RxFrame.good (f : RxFrame) : Bool := decide (f.crc = frameCrc f.kind f.tag f.payload)

end Sys2Proof.Machine
end

