-- ==== Sys2Proof/Machine/Memory.lean ====
section
/-! DEFINITION. The one addressed memory: a copy of the descriptor, 8 pages of 128 bytes, in one canonical form
(R73, R74, R91). -/

namespace Sys2Proof.Machine

/-- The number of bytes of a copy (R74). -/
def copySize : Nat := 1024

/-- What hardware reset leaves at an address, and so what an unlisted address reads as: 0x00 in bytes 0, 1 and 2 of
page 0, 0xFF elsewhere (R91). -/
def resetByte (a : Nat) : Byte := if a < 3 then 0 else 0xFF

/-- Reading one byte of a copy. -/
def Memory.read (m : Memory) (a : Nat) : Byte :=
  match m with
  | [] => resetByte a
  | (b, v) :: t => if a = b then v else Memory.read t a

/-- Listing a byte, or leaving it unlisted where reset would leave the same. -/
def Memory.cell (a : Nat) (v : Byte) (t : Memory) : Memory := if v = resetByte a then t else (a, v) :: t

/-- Writing one byte of a copy, keeping the canonical form. -/
def Memory.write (m : Memory) (a : Nat) (v : Byte) : Memory :=
  match m with
  | [] => Memory.cell a v []
  | (b, w) :: t =>
    if a < b then Memory.cell a v ((b, w) :: t)
    else if a = b then Memory.cell a v t
    else (b, w) :: Memory.write t a v

/-- Writing bytes one after another from an address. -/
def Memory.writeAll (m : Memory) (a : Nat) (bs : List Byte) : Memory :=
  match bs with
  | [] => m
  | b :: t => Memory.writeAll (Memory.write m a b) (a + 1) t

/-- The bytes from an address, `n` of them. -/
def Memory.readAll (m : Memory) (a n : Nat) : List Byte := (List.range n).map fun i => Memory.read m (a + i)

/-- The copy that holds `f a` at every address. -/
def Memory.build (f : Nat → Byte) : Memory :=
  (List.range copySize).filterMap fun a => if f a = resetByte a then none else some (a, f a)

/-- Every listed address is at least `lo`, addresses rise, none is beyond the copy, and no entry equals what an unlisted
address reads as. -/
def Memory.wfFrom (lo : Nat) : Memory → Bool
  | [] => true
  | (a, v) :: t => decide (lo ≤ a ∧ a < copySize ∧ v ≠ resetByte a) && Memory.wfFrom (a + 1) t

/-- The canonical form. -/
def Memory.wf (m : Memory) : Bool := Memory.wfFrom 0 m

/-- The address of a byte of a page (R74). -/
def pageAddr (page offset : Nat) : Nat := 128 * page + offset

end Sys2Proof.Machine
end

