-- ==== Sys2Proof/Machine/Ops.lean ====
section
/-! DEFINITION. The happening in progress, and the named reads and writes of the state that every chapter's rules
share. -/

namespace Sys2Proof.Machine

/-- A happening in progress: the state as it stands, and what the end of the happening has to do. These fields are the
model's own scratch; no step leaves them behind. -/
structure Hap extends State where
  /-- the waiting list, the budget or a grant has changed: settle the list (R96) -/
  settleDue : Bool
  /-- a cause of a completeness flag has changed: recompute the flags (R21) -/
  flagsDue : Bool
  /-- the roster has changed: advance its generation and hand the change upward (R20, R126) -/
  dirty : Bool
  /-- the outbound delta queue, its window or the U state has changed: send deltas (R133) -/
  deltaDue : Bool
  /-- the event queue, the waiting clears or the U state has changed: send the next item (R151) -/
  drainDue : Bool
  /-- the priorities of the records that have entered the queue (R150) -/
  entered : List (Fin 4)
  /-- the queue was empty before the happening (R150) -/
  wasEmpty : Bool
  /-- the entries against which this happening's deltas are taken (R126) -/
  base : List Entry
  /-- the completeness flags against which this happening's FLAGS delta is taken (R126) -/
  baseFlags : Flags
  /-- U has gone DOWN with a PART RESET's reply unsent: the soft reset begins, with its KEEP_DESCRIPTOR flag (R170) -/
  resetDue : Option Bool

/-- The beginning of a happening. -/
def Hap.start (s : State) : Hap :=
  { toState := s, settleDue := false, flagsDue := false, dirty := false, deltaDue := false, drainDue := false,
    entered := [], wasEmpty := s.ev.queue.isEmpty, base := s.roster.entries, baseFlags := s.roster.flags,
    resetDue := none }

/-! ### Slots, filters, targets and ports -/

/-- The sequencer of a slot. -/
def State.slot (s : State) (i : SlotId) : Slot := s.slots[i]

/-- The presence filter of a slot. -/
def State.filter (s : State) (i : SlotId) : Filter := s.filters[i]

/-- The slot link target of a slot. -/
def State.target (s : State) (i : SlotId) : Target := s.targets[i]

/-- The PWR line of a slot (R97). -/
def State.pwrLine (s : State) (i : SlotId) : Bool := s.budget.pwr[i]

/-- The link controller of a D port. -/
def State.dl (s : State) : DPort → DLink
  | .d1 => s.d1
  | .d2 => s.d2

/-- Storing a slot's record. -/
def Hap.setSlot (i : SlotId) (x : Slot) (h : Hap) : Hap := { h with slots := h.slots.set i x }

/-- Storing a slot's filter. -/
def Hap.setFilter (i : SlotId) (x : Filter) (h : Hap) : Hap := { h with filters := h.filters.set i x }

/-- Storing a slot's target. -/
def Hap.setTarget (i : SlotId) (x : Target) (h : Hap) : Hap := { h with targets := h.targets.set i x }

/-- Driving a slot's PWR line. -/
def Hap.setPwr (i : SlotId) (x : Bool) (h : Hap) : Hap :=
  { h with budget := { h.budget with pwr := h.budget.pwr.set i x } }

/-- Storing a D port's record. -/
def Hap.setD (p : DPort) (x : DLink) (h : Hap) : Hap :=
  match p with
  | .d1 => { h with d1 := x }
  | .d2 => { h with d2 := x }

/-- EN is high in ENABLED, ONLINE and LEAVING (R30). -/
def SlotState.en : SlotState → Bool
  | .enabled | .online | .leaving => true
  | .idle | .held | .delaying | .announcing | .parked => false

/-- The EN line of a slot (R30). -/
def State.enLine (s : State) (i : SlotId) : Bool := (s.slot i).state.en

/-- A link in SYNCING or UP. -/
def LinkState.active : LinkState → Bool
  | .syncing | .up => true
  | .down | .probing | .refused => false

/-- A port's carrier is present while its filter is in PRESENT (R107). -/
def Filter.carrier (f : Filter) : Bool := decide (f.state = .present)

/-! ### Tier and path (R107) -/

/-- The part's tier, when known. -/
def State.tier (s : State) : Option Nat :=
  match s.role with
  | .root => some 0
  | .branch => if s.u.tierKnown then s.u.recTier else none

/-- 'This part's tier' where a rule reckons with it; a free value while the tier is unknown (log 11). -/
def State.ownTier (s : State) : Nat := s.tier.getD Config.unknownTier

/-- The part's own path: empty at a root and while the tier is unknown. -/
def State.ownPath (s : State) : Path :=
  match s.role with
  | .root => []
  | .branch => if s.u.tierKnown then s.u.recPath.getD [] else []

/-- A tier as a byte of a reply; 0xFF when unknown (R172). -/
def tierByte : Option Nat → Byte
  | some t => byteOf t
  | none => 0xFF

/-! ### The descriptor banks (R73 to R75) -/

/-- The other bank. -/
def Bank.other : Bank → Bank
  | .bank0 => .bank1
  | .bank1 => .bank0

/-- The contents of a bank. -/
def Desc.bank (d : Desc) : Bank → Memory
  | .bank0 => d.bank0
  | .bank1 => d.bank1

/-- Storing a bank's contents. -/
def Desc.setBank (d : Desc) (b : Bank) (m : Memory) : Desc :=
  match b with
  | .bank0 => { d with bank0 := m }
  | .bank1 => { d with bank1 := m }

/-- The live bank. -/
def Desc.liveBank (d : Desc) : Memory := d.bank d.live

/-- The generation in the header of a copy (R74). -/
def headerGeneration (m : Memory) : Word16 := of16 (m.read 0) (m.read 1)

/-- The page count in the header of a copy (R74). -/
def headerPages (m : Memory) : Nat := (m.read 2).toNat

/-- The rack id in the header of a copy (R74). -/
def headerRackId (m : Memory) : Word32 := of32 (m.read 3) (m.read 4) (m.read 5) (m.read 6)

/-- The rack class in the header of a copy (R74). -/
def headerRackClass (m : Memory) : Word16 := of16 (m.read 7) (m.read 8)

/-- The live generation (R73). -/
def Desc.generation (d : Desc) : Word16 := headerGeneration d.liveBank

/-- The live page count (R73). -/
def Desc.pages (d : Desc) : Nat := headerPages d.liveBank

/-- The bank a target's burst is pinned to, if it holds a burst (R69). -/
def Target.pin (t : Target) : Option Bank :=
  match t.phase with
  | .burst b => some b.bank
  | .ready | .holding _ _ => none

/-- The pin count of a bank (R69, R73). -/
def State.pinCount (s : State) (b : Bank) : Nat := s.targets.toList.countP fun t => decide (t.pin = some b)

/-! ### The operation table (R167, R168) -/

/-- The number of operation table entries. -/
def opTableSize : Nat := 4

/-- The successor of an op id or of a delta sequence number: from 255 to 1, skipping 0. -/
def nextByte (b : Byte) : Byte := if b = 0xFF then 1 else b + 1

/-- The op id that a value stands for: itself, advanced past any value in use. -/
def freeOp (used : List Byte) : Nat → Byte → Byte
  | 0, b => b
  | n + 1, b => if used.contains b then freeOp used n (nextByte b) else b

/-- The op ids in use. -/
def OpTable.ids (t : OpTable) : List Byte := t.entries.map OpEntry.op

/-- The op id the table gives next. -/
def OpTable.nextOp (t : OpTable) : Byte := freeOp t.ids opTableSize t.counter

/-- Whether the table has a free entry. -/
def OpTable.free (t : OpTable) : Bool := decide (t.entries.length < opTableSize)

/-- Taking an entry (R167): the new entry has the table's next op id, and the counter moves to one past it. -/
def OpTable.take (t : OpTable) (kind : OpKind) (origin : Origin) (port : Option DPort) (timer : Timer) : OpTable :=
  { entries := t.entries ++ [{ op := t.nextOp, kind := kind, origin := origin, hopPort := port, hopTimer := timer }],
    counter := nextByte t.nextOp }

/-- Freeing the entry with an op id (R168). -/
def OpTable.release (t : OpTable) (op : Byte) : OpTable := { t with entries := t.entries.filter fun e => decide (e.op ≠ op) }

/-- Freeing an operation table entry. -/
def freeOpEntry (op : Byte) (h : Hap) : Hap := { h with ops := h.ops.release op }

/-! ### Loci (R140) -/

/-- A slot locus. -/
def slotLocus (i : SlotId) : Locus := { path := [], slot := i.val + 1, op := 0 }

/-- A key locus. -/
def keyLocus (k : Key) : Locus := { path := k.path, slot := k.slot.val + 1, op := 0 }

/-- A port locus. -/
def portLocus (p : DPort) : Locus := { path := [p], slot := 0, op := 0 }

/-- The rack locus. -/
def rackLocus : Locus := { path := [], slot := 0, op := 0 }

/-- An operation locus of a slot, or of the rack for none. -/
def opLocus (i : Option SlotId) (op : Byte) : Locus :=
  { path := [],
    slot := (match i with
      | some i => i.val + 1
      | none => 0),
    op := op }

/-- The key of a slot's local entry. -/
def localKey (i : SlotId) : Key := { path := [], slot := i }

/-! ### Canonical order (R5) -/

/-- A port before a port. -/
def portLt : DPort → DPort → Bool
  | .d1, .d2 => true
  | .d1, .d1 | .d2, .d1 | .d2, .d2 => false

/-- A path before a path: element by element, a leading part first. -/
def pathLt : Path → Path → Bool
  | [], [] => false
  | [], _ :: _ => true
  | _ :: _, [] => false
  | a :: s, b :: t => portLt a b || (decide (a = b) && pathLt s t)

/-- A key before a key. -/
def keyLt (a b : Key) : Bool := pathLt a.path b.path || (decide (a.path = b.path) && decide (a.slot < b.slot))

/-- A locus before a locus: paths as roster keys are ordered, then slot, then op id. -/
def locusLt (a b : Locus) : Bool :=
  pathLt a.path b.path ||
    (decide (a.path = b.path) && (decide (a.slot < b.slot) || (decide (a.slot = b.slot) && decide (a.op.toNat < b.op.toNat))))

/-- Inserting into a list ordered by `lt`. -/
def insertBy {α : Type} (lt : α → α → Bool) (x : α) : List α → List α
  | [] => [x]
  | y :: t => if lt x y then x :: y :: t else y :: insertBy lt x t

/-- Ordering a list by `lt`, keeping equal elements in their order. -/
def sortBy {α : Type} (lt : α → α → Bool) (xs : List α) : List α := xs.foldl (fun acc x => insertBy lt x acc) []

/-! ### Entries and draw units (R2, R93) -/

/-- The entry of a roster under a key. -/
def findEntry (k : Key) (es : List Entry) : Option Entry := es.find? fun e => decide (e.key = k)

/-- The local entry of a slot. -/
def State.localEntry (s : State) (i : SlotId) : Option Entry := findEntry (localKey i) s.roster.entries

/-- A local entry has the empty path. -/
def Entry.isLocal (e : Entry) : Bool := e.key.path.isEmpty

/-- A holder: ONLINE, RETURNING or LEAVING (R3). -/
def isHolder : EntryState → Bool
  | .online | .returning | .leaving => true
  | .conflict => false

/-- The budget cost of a draw class (R93). -/
def drawUnits (c : Fin 4) : Nat := 2 ^ c.val

/-- The draw units an entry holds of the budget: those of a GRANTED local entry. -/
def Entry.grantedUnits (e : Entry) : Nat := if e.isLocal && decide (e.grant = .granted) then drawUnits e.draw else 0

/-- The granted sum (R93). -/
def grantedSum (es : List Entry) : Nat := (es.map Entry.grantedUnits).sum

/-- The available units (R93). -/
def State.available (s : State) : Nat := s.budget.units - grantedSum s.roster.entries

/-- The slot at the head of the waiting list with its entry's draw units. -/
def State.waitingHead (s : State) : Option (SlotId × Nat) :=
  match s.budget.waiting with
  | [] => none
  | i :: _ => (s.localEntry i).map fun e => (i, drawUnits e.draw)

/-- Whether the head of the waiting list does not fit within the available units (R103). -/
def State.blocked (s : State) : Bool :=
  match s.waitingHead with
  | some (_, u) => decide (s.available < u)
  | none => false

/-- The number of refused markers set (R141). -/
def Roster.markerCount (r : Roster) : Nat := (if r.marker1 then 1 else 0) + (if r.marker2 then 1 else 0)

/-- The refused marker of a port (R22). -/
def Roster.marker (r : Roster) : DPort → Bool
  | .d1 => r.marker1
  | .d2 => r.marker2

/-- Storing the refused marker of a port. -/
def Roster.setMarker (r : Roster) (p : DPort) (b : Bool) : Roster :=
  match p with
  | .d1 => { r with marker1 := b }
  | .d2 => { r with marker2 := b }

end Sys2Proof.Machine
end

