-- ==== Sys2Proof/Machine/Events.lean ====
section
/-! DEFINITION. The event unit: occurrences, the queue, conditions, and the host's three event requests on the queue
(chapter 8, R140 to R149). What is carried up the tree is in Drain.lean. -/

namespace Sys2Proof.Machine

/-- The number of records the queue holds (R145). -/
def queueSize : Nat := 32

/-- The number of entries of the remote condition set (R155). -/
def remoteSize : Nat := 32

/-- An occurrence handed to the event unit (R143, R144). -/
structure Occ where
  kind : EvKind
  style : EvStyle
  locus : Locus
  detail : Word16
  count : Nat
  origin : Path
  deriving DecidableEq, Repr

/-- A LATCHED occurrence as an owning rule of this part raises it (R143). -/
def latchedOcc (k : EvKind) (l : Locus) (detail : Word16) : Occ :=
  { kind := k, style := .latched, locus := l, detail := detail, count := 1, origin := [] }

/-- A CONDITION occurrence of an instance. -/
def conditionOcc (k : EvKind) (l : Locus) (detail : Word16) (origin : Path) : Occ :=
  { kind := k, style := .condition, locus := l, detail := detail, count := 1, origin := origin }

/-- A kind's setting in the kind table: a priority, or `none` for OFF (R141). -/
def EventUnit.setting (ev : EventUnit) (k : EvKind) : Option (Fin 4) := ev.kinds[kindIndex k]

/-- Whether a record stands for a kind and locus. -/
def EvRecord.stands (k : EvKind) (l : Locus) (r : EvRecord) : Bool := decide (r.kind = k) && decide (r.locus = l)

/-- Whether a record of a kind and locus is pending. -/
def EventUnit.isPending (ev : EventUnit) (k : EvKind) (l : Locus) : Bool := ev.queue.any (EvRecord.stands k l)

/-- The sequence number after a number: from 65535 to 1, skipping 0. -/
def nextWord (w : Word16) : Word16 := if w = 0xFFFF then 1 else w + 1

/-- A number advanced past every number held by a pending record (R140). -/
def freeSeq (held : List Word16) : Nat → Word16 → Word16
  | 0, w => w
  | n + 1, w => if held.contains w then freeSeq held n (nextWord w) else w

/-- The event sequence counter after a record took its current value, with these records pending (R140). -/
def counterAfter (counter : Word16) (queue : List EvRecord) : Word16 :=
  freeSeq (queue.map EvRecord.seq) (queueSize + 1) (nextWord counter)

/-- The sequence number of the record in flight upward, if a record is (R151). -/
def EventUnit.flightSeq (ev : EventUnit) : Option Word16 :=
  match ev.inFlight with
  | some (.record e) => some e.seq
  | some (.clear ..) => none
  | none => none

/-- The lost count rises by one, stopping at 255 (R146). -/
def lostPlus (n : Nat) : Nat := min 255 (n + 1)

/-- A record takes the last place in the order of entry, with the counter's current value as its number (R140, R145). -/
def EventUnit.push (ev : EventUnit) (o : Occ) (p : Fin 4) : EventUnit :=
  let q := ev.queue ++ [{ seq := ev.counter, kind := o.kind, priority := p, style := o.style, locus := o.locus,
                          detail := o.detail, count := o.count, origin := o.origin }]
  { ev with queue := q, counter := counterAfter ev.counter q }

/-- The candidate of the lowest priority that entered most recently (R146), among records in order of entry. -/
def lowestLatest : List EvRecord → Option EvRecord
  | [] => none
  | r :: t =>
    match lowestLatest t with
    | none => some r
    | some x => if r.priority < x.priority then some r else some x

/-- The records that may be discarded to make room: all but the one in flight upward (R146). -/
def EventUnit.candidates (ev : EventUnit) : List EvRecord :=
  ev.queue.filter fun r => decide (some r.seq ≠ ev.flightSeq)

/-- A record has entered the queue. -/
def noteEntry (p : Fin 4) (h : Hap) : Hap := { h with entered := p :: h.entered, drainDue := true }

/-- A new record enters by R145, or by R146 when the queue is full. -/
def enter (o : Occ) (p : Fin 4) (h : Hap) : Hap :=
  if h.ev.queue.length < queueSize then noteEntry p { h with ev := h.ev.push o p }
  else
    match lowestLatest h.ev.candidates with
    | none => { h with ev := { h.ev with lost := lostPlus h.ev.lost } }
    | some x =>
      if x.priority < p then
        noteEntry p { h with ev := { ({ h.ev with queue := h.ev.queue.filter fun r => decide (r.seq ≠ x.seq) }).push o p
                                     with lost := lostPlus h.ev.lost } }
      else { h with ev := { h.ev with lost := lostPlus h.ev.lost } }

/-- An occurrence is coalesced into a pending record (R143). -/
def EvRecord.coalesce (o : Occ) (r : EvRecord) : EvRecord :=
  { r with
    count := min 255 (r.count + o.count),
    detail := if r.kind = .branchEventsLost then word16Of (min 65535 (r.detail.toNat + o.detail.toNat)) else o.detail,
    origin := o.origin }

/-- An occurrence is handed to the event unit (R143; R144 for style CONDITION). -/
def raise (o : Occ) (h : Hap) : Hap :=
  match h.ev.setting o.kind with
  | none => h
  | some p =>
    if h.ev.isPending o.kind o.locus then
      match o.style with
      | .latched =>
        { h with ev := { h.ev with queue := h.ev.queue.map fun r =>
                                     if r.stands o.kind o.locus then r.coalesce o else r } }
      | .condition => h
    else enter o p h

/-- A LATCHED occurrence of this part. -/
def raiseLatched (k : EvKind) (l : Locus) (detail : Word16) (h : Hap) : Hap := raise (latchedOcc k l detail) h

/-! ### Conditions (R142, R144, R152) -/

/-- Whether a local owner claims an instance. -/
def EventUnit.localHolds (ev : EventUnit) (k : EvKind) (l : Locus) : Bool :=
  ev.localConds.contains { kind := k, locus := l }

/-- Whether an entry of the remote condition set claims an instance. -/
def EventUnit.remoteHolds (ev : EventUnit) (k : EvKind) (l : Locus) : Bool :=
  ev.remoteConds.any fun c => decide (c.kind = k) && decide (c.locus = l)

/-- Whether an instance is in the holding set (R142). -/
def EventUnit.holds (ev : EventUnit) (k : EvKind) (l : Locus) : Bool := ev.localHolds k l || ev.remoteHolds k l

/-- Whether an entry of the reported-condition set is that of an instance. -/
def Reported.is (k : EvKind) (l : Locus) (r : Reported) : Bool := decide (r.kind = k) && decide (r.locus = l)

/-- Whether the item in flight is the clear of an instance. -/
def EventUnit.clearInFlight (ev : EventUnit) (k : EvKind) (l : Locus) : Bool :=
  match ev.inFlight with
  | some (.clear k' l' _) => decide (k' = k) && decide (l' = l)
  | some (.record _) => false
  | none => false

/-- An instance begins: a waiting clear of it not yet sent is withdrawn and its entry removed (R144, R152). -/
def withdrawClear (k : EvKind) (l : Locus) (h : Hap) : Hap :=
  if h.ev.clearInFlight k l then h
  else { h with ev := { h.ev with reported := h.ev.reported.filter fun r => !(r.is k l && r.waiting) } }

/-- An instance has ended: its entry in the reported-condition set is marked as waiting to be cleared, behind those
marked before it (R152). -/
def markEnded (k : EvKind) (l : Locus) (h : Hap) : Hap :=
  match h.ev.reported.find? (Reported.is k l) with
  | none => h
  | some r =>
    if r.waiting then h
    else { h with
           ev := { h.ev with reported := (h.ev.reported.filter fun x => !(x.is k l)) ++ [{ r with waiting := true }] },
           drainDue := true }

/-- The detail a local owner gives an instance now (R141). -/
def ownerDetail (s : State) (k : EvKind) (l : Locus) : Word16 :=
  match k with
  | .slotParked =>
    match slotOf (byteOf l.slot) with
    | some i => detailOf (parkReasonCode (s.slot i).parkReason)
    | none => 0
  | .grantBlocked =>
    match s.waitingHead with
    | some (i, u) => of16 (slotByte i) (byteOf u)
    | none => 0
  | .rosterOverflow => word16Of s.roster.markerCount
  | _ => 0

/-- A local claim begins (R142, R144). -/
def beginCond (k : EvKind) (l : Locus) (h : Hap) : Hap :=
  if h.ev.localHolds k l then h
  else
    let held := h.ev.remoteHolds k l
    let h := { h with ev := { h.ev with localConds := h.ev.localConds ++ [{ kind := k, locus := l }] } }
    if held then h else raise (conditionOcc k l (ownerDetail h.toState k l) []) (withdrawClear k l h)

/-- A local claim ends (R142, R152). -/
def endCond (k : EvKind) (l : Locus) (h : Hap) : Hap :=
  if h.ev.localHolds k l then
    let h := { h with ev := { h.ev with localConds := h.ev.localConds.filter fun c =>
                                          !(decide (c.kind = k) && decide (c.locus = l)) } }
    if h.ev.remoteHolds k l then h else markEnded k l h
  else h

/-- A condition begins or ends with a Boolean the owner reckons. -/
def setCond (k : EvKind) (l : Locus) (b : Bool) (h : Hap) : Hap := if b then beginCond k l h else endCond k l h

/-- The remote claims of an instance end; with them the instance, unless a local claim still holds it (R155). -/
def endRemote (k : EvKind) (l : Locus) (h : Hap) : Hap :=
  if h.ev.remoteHolds k l then
    let h := { h with ev := { h.ev with remoteConds := h.ev.remoteConds.filter fun c =>
                                          !(decide (c.kind = k) && decide (c.locus = l)) } }
    if h.ev.localHolds k l then h else markEnded k l h
  else h

/-- The teardown of a port removes every remote condition that arrived through it (R115 step 4, R155). DESIGN CHOICE (log
35): in the order in which they were stored, which is that of their CONDITION CLEARs; no rule orders them. -/
def endRemotesOf (p : DPort) (h : Hap) : Hap :=
  (h.ev.remoteConds.filter fun c => decide (c.port = p)).foldl (fun h c => endRemote c.kind c.locus h) h

/-- Storing a CONDITION record in the remote condition set, where its entry is present or the set has room (R155). -/
def storeRemote (c : RemoteCond) (h : Hap) : Hap :=
  if h.ev.remoteHolds c.kind c.locus then
    { h with ev := { h.ev with remoteConds := h.ev.remoteConds.map fun x =>
                                 if decide (x.kind = c.kind) && decide (x.locus = c.locus) then c else x } }
  else
    let held := h.ev.localHolds c.kind c.locus
    let h := { h with ev := { h.ev with remoteConds := h.ev.remoteConds ++ [c] } }
    if held then h else withdrawClear c.kind c.locus h

/-- Whether the remote condition set has a place for an instance (R155). -/
def EventUnit.remoteRoom (ev : EventUnit) (k : EvKind) (l : Locus) : Bool :=
  ev.remoteHolds k l || decide (ev.remoteConds.length < remoteSize)

/-- The detail and the origin a record queued anew for an instance takes: the local claim's, or else the remote
entry's (R142, R148). -/
def instanceOcc (s : State) (k : EvKind) (l : Locus) : Occ :=
  if s.ev.localHolds k l then conditionOcc k l (ownerDetail s k l) []
  else
    match s.ev.remoteConds.find? fun c => decide (c.kind = k) && decide (c.locus = l) with
    | some c => conditionOcc k l c.detail c.origin
    | none => conditionOcc k l 0 []

/-- The holding set: the local conditions, and the remote ones that no local owner claims (R142). -/
def EventUnit.holdingSet (ev : EventUnit) : List CondId :=
  ev.localConds ++
    ((ev.remoteConds.filter fun c => !(ev.localHolds c.kind c.locus)).map fun c => { kind := c.kind, locus := c.locus })

/-- The instances of a kind in the holding set, in the canonical order of their loci. -/
def EventUnit.instancesOf (ev : EventUnit) (k : EvKind) : List CondId :=
  sortBy (fun a b => locusLt a.locus b.locus) (ev.holdingSet.filter fun c => decide (c.kind = k))

/-- A record is queued anew for an instance, where its kind is not OFF and none is pending. -/
def requeue (k : EvKind) (l : Locus) (h : Hap) : Hap := raise (instanceOcc h.toState k l) h

/-! ### The queue in delivery order -/

/-- The pending records in delivery order: by priority, highest first, then by order of entry (R145). -/
def deliveryOrder (q : List EvRecord) : List EvRecord := sortBy (fun a b => decide (b.priority < a.priority)) q

/-- The highest priority of a list of priorities. -/
def topPriority : List (Fin 4) → Option (Fin 4)
  | [] => none
  | p :: t =>
    match topPriority t with
    | none => some p
    | some q => if q < p then some p else some q

/-- EVENT FETCH's effect (R147): the lost count and the announced priority are reset. -/
def fetchEffect (h : Hap) : Hap := { h with ev := { h.ev with lost := 0, announced := none } }

/-- EVENT ACK's effect (R148): the listed records are removed, and those whose condition instances still hold are
queued anew, in the delivery order they had. -/
def ackEffect (seqs : List Word16) (h : Hap) : Hap :=
  let gone := h.ev.queue.filter fun r => seqs.contains r.seq
  let h := { h with ev := { h.ev with queue := h.ev.queue.filter fun r => !(seqs.contains r.seq) }, drainDue := true }
  (deliveryOrder gone).foldl
    (fun h r => if decide (r.style = .condition) && h.ev.holds r.kind r.locus then requeue r.kind r.locus h else h) h

/-- Whether the reported-condition set has an entry of an instance. -/
def EventUnit.isReported (ev : EventUnit) (k : EvKind) (l : Locus) : Bool := ev.reported.any (Reported.is k l)

/-- A record of a kind in flight upward ceases to be in flight (R149, R151). DESIGN CHOICE (log 44): the lost count held with
it is not added back. -/
def dropFlightOf (k : EvKind) (ev : EventUnit) : EventUnit :=
  match ev.inFlight with
  | some (.record e) => if e.kind = k then { ev with inFlight := none, retransmit := none } else ev
  | some (.clear ..) => ev
  | none => ev

/-- EVENT SETUP's effect (R149). -/
def setupEffect (k : EvKind) (setting : Option (Fin 4)) (h : Hap) : Hap :=
  let old := h.ev.setting k
  let kinds := h.ev.kinds.set (kindIndex k) setting
  match setting with
  | none =>
    { h with
      ev := dropFlightOf k { h.ev with kinds := kinds, queue := h.ev.queue.filter fun r => decide (r.kind ≠ k) },
      drainDue := true }
  | some p =>
    let h := { h with ev := { h.ev with kinds := kinds, queue := h.ev.queue.map fun r =>
                                          if r.kind = k then { r with priority := p } else r } }
    if decide (old = none) && decide (kindStyle k = .condition) then
      (h.ev.instancesOf k).foldl
        (fun h c => if decide (h.role = .branch) && h.ev.isReported k c.locus then h else requeue k c.locus h) h
    else h

end Sys2Proof.Machine
end

