-- ==== Sys2Proof/Machine/Budget.lean ====
section
/-! DEFINITION. The budget unit: joining, release, settling and the GRANT_BLOCKED condition (chapter 5). -/

namespace Sys2Proof.Machine

/-- Changing the entry under a key. -/
def updateEntry (k : Key) (f : Entry → Entry) (es : List Entry) : List Entry :=
  es.map fun e => if e.key = k then f e else e

/-- Changing the entry under a key, as a change to the roster (R20). -/
def changeEntry (k : Key) (f : Entry → Entry) (h : Hap) : Hap :=
  { h with roster := { h.roster with entries := updateEntry k f h.roster.entries }, dirty := true }

/-- Writing the grant of a slot's local entry (R93, R99). -/
def setGrant (i : SlotId) (g : Grant) (h : Hap) : Hap := changeEntry (localKey i) (fun e => { e with grant := g }) h

/-- A local entry joins the tail of the waiting list, once (R95). -/
def budgetJoin (i : SlotId) (h : Hap) : Hap :=
  if h.budget.waiting.contains i then h
  else
    let h := setGrant i .waiting h
    { h with budget := { h.budget with waiting := h.budget.waiting ++ [i] }, settleDue := true }

/-- A grant is released, or a waiting entry taken off the list (R98). -/
def budgetRelease (i : SlotId) (h : Hap) : Hap :=
  match h.localEntry i with
  | none => h
  | some e =>
    match e.grant with
    | .none => h
    | .granted => { (setGrant i .none h).setPwr i false with settleDue := true }
    | .waiting =>
      let h := setGrant i .none h
      { h with budget := { h.budget with waiting := h.budget.waiting.filter fun j => decide (j ≠ i) }, settleDue := true }

/-- The head of the list is granted: its grant, its place, its PWR line (R96). -/
def grantHead (i : SlotId) (h : Hap) : Hap :=
  let h := (setGrant i .granted h).setPwr i true
  { h with budget := { h.budget with waiting := h.budget.waiting.tail } }

/-- Granting from the head while its draw units fit (R96); `n` bounds the grants by the length of the list. -/
def grantLoop : Nat → Hap → Hap
  | 0, h => h
  | n + 1, h =>
    match h.waitingHead with
    | some (i, u) => if u ≤ h.available then grantLoop n (grantHead i h) else h
    | none => h

/-- Settling the list (R96), and reckoning GRANT_BLOCKED anew (R103). -/
def settle (h : Hap) : Hap :=
  let h := grantLoop h.budget.waiting.length h
  let h := setCond .grantBlocked rackLocus h.blocked h
  { h with settleDue := false }

/-- Settling the list where the happening calls for it (R96). -/
def settleIfDue (h : Hap) : Hap := if h.settleDue then settle h else h

/-- Storing a new budget and settling (R104). -/
def budgetSet (n : Nat) (h : Hap) : Hap := settle { h with budget := { h.budget with units := n } }

end Sys2Proof.Machine
end

