-- ==== Sys2Proof/Machine/Roster.lean ====
section
/-! DEFINITION. The roster: additions, promotion, removal, admission of a check-in, remote stores and removals
(chapter 1). -/

namespace Sys2Proof.Machine

/-- The number of entries a roster holds at most (R2). -/
def rosterCapacity : Nat := 96

/-- Whether the roster is full. -/
def Roster.full (r : Roster) : Bool := decide (rosterCapacity ≤ r.entries.length)

/-- Whether a holder in the roster claims a serial id (R3). -/
def claimed (serial : Serial) (es : List Entry) : Bool := es.any fun e => isHolder e.state && decide (e.serial = serial)

/-- A join stamp advanced past every stamp of an entry present (R6). -/
def freeStamp (used : List Word32) : Nat → Word32 → Word32
  | 0, w => w
  | n + 1, w => if used.contains w then freeStamp used n (w + 1) else w

/-- The join stamp of the next addition (R6). -/
def Roster.nextStamp (r : Roster) : Word32 :=
  freeStamp (r.entries.map Entry.joinStamp) (rosterCapacity + 1) (r.joinCounter + 1)

/-- An entry is added at its canonical position with a new join stamp (R5, R6). -/
def addEntry (e : Entry) (h : Hap) : Hap :=
  let stamp := h.roster.nextStamp
  { h with
    roster := { h.roster with
                entries := insertBy (fun a b => keyLt a.key b.key) { e with joinStamp := stamp } h.roster.entries,
                joinCounter := stamp },
    dirty := true }

/-- An entry is taken out of the roster. -/
def dropEntry (k : Key) (h : Hap) : Hap :=
  { h with roster := { h.roster with entries := h.roster.entries.filter fun e => decide (e.key ≠ k) }, dirty := true }

/-- Whether an entry stands in conflict by this roster's judgement (R3): a local CONFLICT entry, or a remote one with a
conflict overlay. -/
def Entry.inConflict (e : Entry) : Bool :=
  decide (e.state = .conflict) &&
    (match e.reported with
      | some r => isHolder r
      | none => true)

/-- How far an entry's join stamp lies behind the join counter (R6). -/
def stampAge (counter : Word32) (e : Entry) : Nat := (counter - e.joinStamp).toNat

/-- The earliest joined of a list of entries (R6). -/
def earliestJoined (counter : Word32) : List Entry → Option Entry
  | [] => none
  | e :: t =>
    match earliestJoined counter t with
    | none => some e
    | some x => if stampAge counter x ≤ stampAge counter e then some e else some x

/-- A promoted entry takes a holder state (R14). -/
def promoteEntry (e : Entry) (h : Hap) : Hap :=
  match e.reported with
  | some r => endCond .serialConflict (keyLocus e.key) (changeEntry e.key (fun x => { x with state := r }) h)
  | none =>
    match (h.slot e.key.slot).state with
    | .online =>
      endCond .serialConflict (keyLocus e.key)
        (budgetJoin e.key.slot (changeEntry e.key (fun x => { x with state := .online, grant := .none }) h))
    | .enabled | .announcing =>
      endCond .serialConflict (keyLocus e.key) (changeEntry e.key (fun x => { x with state := .returning }) h)
    | .leaving =>
      endCond .serialConflict (keyLocus e.key) (changeEntry e.key (fun x => { x with state := .leaving, grant := .none }) h)
    | .idle | .held | .delaying | .parked => h

/-- A serial id has lost its holder: the earliest joined CONFLICT entry with it that stands in conflict by this roster's
judgement is promoted (R14). -/
def promote (serial : Serial) (h : Hap) : Hap :=
  match earliestJoined h.roster.joinCounter
      (h.roster.entries.filter fun e => e.inConflict && decide (e.serial = serial)) with
  | none => h
  | some e => promoteEntry e h

/-- What a removal does beyond taking the entry out (R12, R18): the end of its SERIAL_CONFLICT, and promotion where it was
a holder. -/
def afterRemoval (e : Entry) (h : Hap) : Hap :=
  let h := if e.inConflict then endCond .serialConflict (keyLocus e.key) h else h
  if isHolder e.state then promote e.serial h else h

/-- A local entry is removed (R12). -/
def localRemove (i : SlotId) (cause : Cause) (h : Hap) : Hap :=
  match h.localEntry i with
  | none => h
  | some e =>
    let h := dropEntry e.key (budgetRelease i h)
    afterRemoval e (raiseLatched .moduleLeft (keyLocus e.key) (detailOf (causeCode cause)) h)

/-- A remote entry is removed (R18). -/
def remoteRemove (k : Key) (cause : Cause) (h : Hap) : Hap :=
  match findEntry k h.roster.entries with
  | none => h
  | some e =>
    let h := dropEntry k h
    let h := if cause = .linkLost then raiseLatched .moduleLeft (keyLocus k) (detailOf (causeCode cause)) h else h
    afterRemoval e h

/-- Removing several entries one after another (R14, R115, R132). -/
def remoteRemoveAll (ks : List Key) (cause : Cause) (h : Hap) : Hap := ks.foldl (fun h k => remoteRemove k cause h) h

/-- The slot sequencer's request at the start of an eject (R4, R101). -/
def ejectEntry (i : SlotId) (h : Hap) : Hap :=
  match h.localEntry i with
  | none => h
  | some e =>
    match e.state with
    | .online => changeEntry e.key (fun x => { x with state := .leaving }) h
    | .returning => changeEntry e.key (fun x => { x with state := .leaving, grant := .none }) (budgetRelease i h)
    | .leaving | .conflict => h

/-- The slot sequencer's request at the start of a re-announce pulse (R4). -/
def pulseEntry (i : SlotId) (h : Hap) : Hap :=
  match h.localEntry i with
  | none => h
  | some e =>
    match e.state with
    | .online => changeEntry e.key (fun x => { x with state := .returning }) (budgetRelease i h)
    | .returning | .leaving | .conflict => h

/-! ### Admission of a local check-in (R7 to R13) -/

/-- A well-formed check-in record (R64). -/
structure CheckInRec where
  classCode : Word16
  serial : Serial
  revision : Byte
  draw : Fin 4
  caps : List Word16
  deriving DecidableEq, Repr

/-- The outcome of an admission (R7). -/
inductive Admission where
  | accepted
  | conflict
  | full
  deriving DecidableEq, Repr

/-- An addition (R8) and what it hands on (R13). -/
def admitAddition (i : SlotId) (r : CheckInRec) (h : Hap) : Hap × Admission :=
  if h.roster.full then (h, .full)
  else
    let conflict := claimed r.serial h.roster.entries
    let e : Entry :=
      { key := localKey i, serial := r.serial, classCode := r.classCode, revision := r.revision, draw := r.draw,
        caps := r.caps, state := if conflict then .conflict else .online, reported := none, grant := .none,
        joinStamp := 0, stale := false }
    let h := addEntry e h
    if conflict then
      (beginCond .serialConflict (slotLocus i) (raiseLatched .moduleJoined (slotLocus i) r.classCode h), .conflict)
    else (raiseLatched .moduleJoined (slotLocus i) r.classCode (budgetJoin i h), .accepted)

/-- The fields a later check-in replaces (R9, R11). -/
def CheckInRec.refresh (r : CheckInRec) (e : Entry) : Entry :=
  { e with classCode := r.classCode, revision := r.revision, draw := r.draw, caps := r.caps }

/-- A return (R9) and what it hands on (R13). -/
def admitReturn (i : SlotId) (r : CheckInRec) (h : Hap) : Hap × Admission :=
  let h := changeEntry (localKey i) (fun e => { r.refresh e with state := .online, grant := .none }) h
  (raiseLatched .moduleJoined (slotLocus i) r.classCode (budgetJoin i h), .accepted)

/-- A refresh in place (R11, R100). -/
def admitRefresh (i : SlotId) (e : Entry) (r : CheckInRec) (h : Hap) : Hap × Admission :=
  if e.state = .conflict then
    (beginCond .serialConflict (slotLocus i) (changeEntry (localKey i) r.refresh h), .conflict)
  else if decide (e.draw ≠ r.draw) && decide (e.grant ≠ .none) then
    (budgetJoin i (changeEntry (localKey i) r.refresh (budgetRelease i h)), .accepted)
  else (changeEntry (localKey i) r.refresh h, .accepted)

/-- The admission of a checked local check-in (R7). A LEAVING entry is never found (R7); the model then answers FULL and
changes nothing (log 23). -/
def admission (i : SlotId) (r : CheckInRec) (h : Hap) : Hap × Admission :=
  match h.localEntry i with
  | none => admitAddition i r h
  | some e =>
    match e.state with
    | .leaving => (h, .full)
    | .returning =>
      if e.serial = r.serial then admitReturn i r h else admitAddition i r (localRemove i .replaced h)
    | .online | .conflict =>
      if e.serial = r.serial then admitRefresh i e r h else admitAddition i r (localRemove i .replaced h)

/-! ### Remote stores (R16, R17, R22) -/

/-- The ROSTER_OVERFLOW condition follows the markers (R22). -/
def reckonOverflow (h : Hap) : Hap :=
  setCond .rosterOverflow rackLocus (h.roster.marker1 || h.roster.marker2) { h with flagsDue := true }

/-- A port's refused marker is set; one already set changes nothing (R22). -/
def setRefused (p : DPort) (h : Hap) : Hap :=
  if h.roster.marker p then h else reckonOverflow { h with roster := h.roster.setMarker p true }

/-- A port's refused marker is cleared (R22). -/
def clearRefused (p : DPort) (h : Hap) : Hap :=
  if h.roster.marker p then reckonOverflow { h with roster := h.roster.setMarker p false } else h

/-- The record's key in this roster: the receiving port in front of the child's path (R127). -/
def remoteKey (p : DPort) (k : Key) : Key := { path := p :: k.path, slot := k.slot }

/-- The roster's check of a remote record (R17); the draw class it holds is the result. -/
def checkRecord (tier : Nat) (p : DPort) (r : LinkRecord) : Option (Fin 4) :=
  if decide (r.serial = 0) || decide (8 < r.caps.length) || decide (3 < (p :: r.key.path).length + tier) then none
  else if h : r.draw.toNat < 4 then some ⟨r.draw.toNat, h⟩
  else none

/-- The state of an added remote entry, or of one that comes to want a holder state (R16). -/
def derivedState (reported : EntryState) (serial : Serial) (es : List Entry) : EntryState :=
  if isHolder reported && claimed serial es then .conflict else reported

/-- A remote record is added (R17), or dropped for want of room. -/
def remoteAdd (p : DPort) (r : LinkRecord) (draw : Fin 4) (h : Hap) : Hap :=
  if h.roster.full then setRefused p h
  else
    let e : Entry :=
      { key := remoteKey p r.key, serial := r.serial, classCode := r.classCode, revision := r.revision, draw := draw,
        caps := r.caps, state := derivedState r.state r.serial h.roster.entries, reported := some r.state,
        grant := r.grant, joinStamp := 0, stale := false }
    let h := addEntry e h
    if e.inConflict then beginCond .serialConflict (keyLocus e.key) h else h

/-- The state a refresh gives a remote entry (R16, R17): a reported CONFLICT is taken over; an entry that comes to want a
holder state is judged against the others; an overlay stays; a holder moves with its reported state. -/
def refreshedState (e : Entry) (reported : EntryState) (others : List Entry) : EntryState :=
  if reported = .conflict then .conflict
  else if decide (e.reported = some .conflict) then derivedState reported e.serial others
  else if e.state = .conflict then .conflict
  else reported

/-- A remote record refreshes its entry (R17). -/
def remoteRefresh (e : Entry) (r : LinkRecord) (draw : Fin 4) (h : Hap) : Hap :=
  let others := h.roster.entries.filter fun x => decide (x.key ≠ e.key)
  let state := refreshedState e r.state others
  let new : Entry :=
    { e with classCode := r.classCode, revision := r.revision, draw := draw, caps := r.caps, state := state,
             reported := some r.state, grant := r.grant, stale := false }
  let h := changeEntry e.key (fun _ => new) h
  let h := if new.inConflict then beginCond .serialConflict (keyLocus e.key) h
           else if e.inConflict then endCond .serialConflict (keyLocus e.key) h else h
  if isHolder e.state && decide (state = .conflict) then promote e.serial h else h

/-- A remote store (R17). -/
def remoteStore (p : DPort) (r : LinkRecord) (h : Hap) : Hap :=
  match checkRecord h.ownTier p r with
  | none => h
  | some draw =>
    match findEntry (remoteKey p r.key) h.roster.entries with
    | none => remoteAdd p r draw h
    | some e =>
      if e.serial = r.serial then remoteRefresh e r draw h
      else remoteAdd p r draw (remoteRemove e.key .reported h)

/-- The port an entry came through: the first element of its path. -/
def Entry.via (p : DPort) (e : Entry) : Bool := decide (e.key.path.head? = some p)

/-- Marking every entry of a port stale (R19, R131); no change to the roster. -/
def markStale (p : DPort) (h : Hap) : Hap :=
  { h with roster := { h.roster with entries := h.roster.entries.map fun e =>
                                       if e.via p then { e with stale := true } else e } }

/-- The record that carries an entry upward (R127). -/
def Entry.record (e : Entry) : LinkRecord :=
  { key := e.key, serial := e.serial, classCode := e.classCode, revision := e.revision, draw := byteOf e.draw.val,
    state := e.state, grant := e.grant, caps := e.caps }

end Sys2Proof.Machine
end

