-- ==== Sys2Proof/Machine/Commit.lean ====
section
/-! DEFINITION. The commit engine up to its SWITCH: DRAINING, COPYING and the end of a commit (chapter 4, R78 to R84,
R88). The SWITCH itself, which moves slots, is in Switch.lean. -/

namespace Sys2Proof.Machine

/-- A long operation's end: OP_DONE, and its operation table entry freed (R168). -/
def opDone (slot : Option SlotId) (op : Byte) (detail : Word16) (h : Hap) : Hap :=
  freeOpEntry op (raiseLatched .opDone (opLocus slot op) detail h)

/-- A commit ends with the generation it published, or 0 (R88). -/
def commitEnd (detail : Word16) (h : Hap) : Hap :=
  match h.desc.commit with
  | none => h
  | some c => { opDone none c.op detail h with desc := { h.desc with commit := none } }

/-- The generation after a generation (R84). -/
def nextGeneration (g : Word16) : Word16 := if g = 0xFFFF then 1 else g + 1

/-- The copying time of a page count, in ms (R81). -/
def copyTime (pages : Nat) : Nat := if pages = 0 then 1 else 2 * pages

/-- Entry into COPYING (R81): nothing is published where the page count byte of staging is above 8. -/
def enterCopying (h : Hap) : Hap :=
  match h.desc.commit with
  | none => h
  | some c =>
    let pages := headerPages h.desc.staging
    if 8 < pages then commitEnd 0 h
    else
      let c := { c with phase := .copying, newGen := nextGeneration h.desc.generation, timer := some (copyTime pages) }
      { h with desc := { h.desc with commit := some c } }

/-- DRAINING ends in the happening that leaves the target bank without a pin (R80). -/
def drainingCheck (h : Hap) : Hap :=
  match h.desc.commit with
  | none => h
  | some c =>
    match c.phase with
    | .draining => if h.pinCount c.target = 0 then enterCopying h else h
    | .copying | .announcing => h

/-- A selected slot has left ANNOUNCING; the last one ends the commit (R88). -/
def slotLeft (i : SlotId) (h : Hap) : Hap :=
  match h.desc.commit with
  | none => h
  | some c =>
    if c.selected.contains i then
      let left := c.selected.filter fun j => decide (j ≠ i)
      let h := { h with desc := { h.desc with commit := some { c with selected := left } } }
      if left.isEmpty then commitEnd c.newGen h else h
    else h

/-- A taken DESC COMMIT (R79): the record is filled, and DRAINING ends at once where the target has no pin. -/
def beginCommit (op : Byte) (reannounce : Bool) (h : Hap) : Hap :=
  let c : Commit :=
    { phase := .draining, op := op, reannounce := reannounce, target := h.desc.live.other, timer := none, newGen := 0,
      selected := [] }
  drainingCheck { h with desc := { h.desc with commit := some c } }

/-! ### The copy (R82, R83) -/

/-- A byte 0 to 125 of a page as the copy writes it: staging's, with the new generation in bytes 0 and 1 of page 0. -/
def copyByte (staging : Memory) (gen : Word16) (page offset : Nat) : Byte :=
  if page = 0 && offset = 0 then gen.extractLsb' 8 8
  else if page = 0 && offset = 1 then gen.extractLsb' 0 8
  else staging.read (pageAddr page offset)

/-- The CRC the copy writes on a page: over its bytes 0 to 125 (R83). -/
def pageCrc (staging : Memory) (gen : Word16) (page : Nat) : Word16 :=
  crc16 ((List.range 126).map (copyByte staging gen page))

/-- The byte at an address of the finished copy, given each page's CRC (R82). -/
def imageByte (staging : Memory) (gen : Word16) (pages : Nat) (crcs : List Word16) (a : Nat) : Byte :=
  let page := a / 128
  let offset := a % 128
  if page < pages || page = 0 then
    if offset < 126 then copyByte staging gen page offset
    else if offset = 126 then (crcs.getD page 0).extractLsb' 8 8
    else (crcs.getD page 0).extractLsb' 0 8
  else 0xFF

/-- The finished copy (R82), `pages` being the page count read on entry into COPYING. -/
def copyImage (staging : Memory) (gen : Word16) (pages : Nat) : Memory :=
  let crcs := (List.range 8).map (pageCrc staging gen)
  Memory.build (imageByte staging gen pages crcs)

end Sys2Proof.Machine
end

