-- ==== Sys2Proof/Machine/Slots.lean ====
section
/-! DEFINITION. Presence filters and slot sequencers (chapter 2), with the end of a burst, which a drop of EN brings
about (R61). -/

namespace Sys2Proof.Machine

/-- A burst of a slot's target ends: its pin is released, its stall timer stops, the target returns to READY (R61). -/
def endBurst (i : SlotId) (h : Hap) : Hap :=
  match (h.target i).phase with
  | .burst _ => drainingCheck (h.setTarget i { h.target i with phase := .ready, stall := none })
  | .ready | .holding _ _ => h

/-- EN drops: a burst ends disabled (R61), and the budget unit releases the grant or takes the entry off the list (R30,
R98). -/
def enDrop (i : SlotId) (h : Hap) : Hap := budgetRelease i (endBurst i h)

/-! ### The gate (R31) -/

/-- The attach gate. -/
def State.gateOpen (s : State) (i : SlotId) : Bool :=
  let present := decide ((s.filter i).state = .present)
  let paged := decide (1 ≤ s.desc.pages)
  match (s.slot i).policy with
  | .auto => present
  | .descriptor => present && paged
  | .permit => present && paged && (s.slot i).permit
  | .manual => (s.slot i).permit

/-- The idle condition. -/
def State.idleCond (s : State) (i : SlotId) : Bool :=
  match (s.slot i).policy with
  | .auto | .descriptor | .permit => decide ((s.filter i).state ≠ .present)
  | .manual => !(s.slot i).permit

/-! ### Entering states -/

/-- Entry into ENABLED (R35). -/
def enterEnabled (i : SlotId) (h : Hap) : Hap :=
  let sl := h.slot i
  h.setSlot i { sl with state := .enabled, parkReason := .none,
                        timer := if sl.checkinLimit = 0 then none else some (100 * sl.checkinLimit.toNat) }

/-- Entry into DELAYING (R34); an enable delay of 0 runs out as it is loaded. -/
def enterDelaying (i : SlotId) (h : Hap) : Hap :=
  let sl := h.slot i
  if sl.enableDelay = 0 then enterEnabled i h
  else h.setSlot i { sl with state := .delaying, parkReason := .none, timer := some (10 * sl.enableDelay.toNat) }

/-- Entry into HELD. -/
def enterHeld (i : SlotId) (h : Hap) : Hap :=
  h.setSlot i { h.slot i with state := .held, parkReason := .none, timer := none, ejectRequested := false, ejectOp := 0 }

/-- Entry into IDLE: the last-read generation is set to 0 (R36) and the last check-in result to NONE (R66). -/
def enterIdle (i : SlotId) (h : Hap) : Hap :=
  let h := h.setSlot i { h.slot i with state := .idle, parkReason := .none, timer := none, lastRead := 0,
                                       ejectRequested := false, ejectOp := 0 }
  h.setTarget i { h.target i with lastResult := none }

/-- Entry into PARKED with a reason; SLOT_PARKED begins for CHECKIN_TIMEOUT and REJECTED (R40). -/
def enterParked (i : SlotId) (reason : ParkReason) (h : Hap) : Hap :=
  let h := h.setSlot i { h.slot i with state := .parked, parkReason := reason, timer := none, ejectRequested := false,
                                       ejectOp := 0 }
  match reason with
  | .checkinTimeout | .rejected => beginCond .slotParked (slotLocus i) h
  | .none | .ejected => h

/-! ### Leaving the enabled states (R36 to R39, R43) -/

/-- EN drops and the local entry, if any, is removed. -/
def shutSlot (i : SlotId) (cause : Cause) (h : Hap) : Hap := localRemove i cause (enDrop i h)

/-- An eject ends: EN drops, the entry is removed, OP_DONE is raised and the operation's entry freed (R43). -/
def endEject (i : SlotId) (cause : Cause) (result : EjectResult) (h : Hap) : Hap :=
  let op := (h.slot i).ejectOp
  opDone (some i) op (detailOf (ejectResultCode result)) (shutSlot i cause h)

/-- The idle rule (R36). -/
def idleRule (i : SlotId) (h : Hap) : Hap :=
  let manual := decide ((h.slot i).policy = .manual)
  let cause : Cause := if manual then .gate else .vacated
  let result : EjectResult := if manual then .gate else .vacated
  match (h.slot i).state with
  | .idle => h
  | .held | .delaying => enterIdle i h
  | .enabled | .online => enterIdle i (shutSlot i cause h)
  | .leaving => enterIdle i (endEject i cause result h)
  | .announcing => enterIdle i (slotLeft i (localRemove i cause h))
  | .parked => enterIdle i (endCond .slotParked (slotLocus i) h)

/-- The gate-closing rule (R37). -/
def closingRule (i : SlotId) (h : Hap) : Hap :=
  match (h.slot i).state with
  | .idle | .delaying => enterHeld i h
  | .enabled | .online => enterHeld i (shutSlot i .gate h)
  | .leaving => enterHeld i (endEject i .gate .gate h)
  | .held | .parked | .announcing => h

/-- The opening step (R33). -/
def openingRule (i : SlotId) (h : Hap) : Hap :=
  match (h.slot i).state with
  | .idle => if (h.slot i).policy = .manual then enterEnabled i h else enterDelaying i h
  | .held => enterDelaying i h
  | .delaying | .enabled | .online | .leaving | .announcing | .parked => h

/-- An evaluation of a slot's gate and idle condition (R32). -/
def evaluate (i : SlotId) (h : Hap) : Hap :=
  if h.idleCond i then idleRule i h
  else if h.gateOpen i then openingRule i h
  else closingRule i h

/-! ### Presence (R27, R28) -/

/-- The settle time of an expansion port's filter, in ms (R27). -/
def portSettle : Nat := 20

/-- A change of level reaches a filter (R27); `ms` is the settle time loaded where SETTLING begins. -/
def Filter.level (f : Filter) (ms : Nat) (b : Bool) : Filter :=
  if b then
    match f.state with
    | .empty => { raw := true, state := .settling, timer := some ms }
    | .settling | .present => { f with raw := true }
  else { raw := false, state := .empty, timer := none }

/-- A settle timer runs out (R27). -/
def Filter.expired (f : Filter) : Filter :=
  match f.state, f.timer with
  | .settling, some _ => { f with state := .present, timer := none }
  | _, _ => f

/-- Whether a change of a filter is presence arriving (R28). -/
def arrived (old new : Filter) : Bool := !old.carrier && new.carrier

/-- Whether a change of a filter is presence loss (R28). -/
def departed (old new : Filter) : Bool := old.carrier && !new.carrier

/-- A slot's filter changes: its happenings raise their events and reach the sequencer, which takes no step on them under
MANUAL (R28). -/
def slotFilterChange (i : SlotId) (new : Filter) (h : Hap) : Hap :=
  let old := h.filter i
  let h := h.setFilter i new
  let sequencer := fun (h : Hap) => if (h.slot i).policy = .manual then h else evaluate i h
  if arrived old new then sequencer (raiseLatched .slotOccupied (slotLocus i) 0 h)
  else if departed old new then sequencer (raiseLatched .slotVacated (slotLocus i) 0 h)
  else h

/-! ### Timers of a slot (R34, R38, R43, R45) -/

/-- Whether a slot is in a state with its timer running. -/
def Slot.timed (sl : Slot) (st : SlotState) : Bool := decide (sl.state = st) && sl.timer.isSome

/-- The enable delay runs out (R34). -/
def delayExpired (i : SlotId) (h : Hap) : Hap := if (h.slot i).timed .delaying then enterEnabled i h else h

/-- The check-in limit runs out (R38). -/
def limitExpired (i : SlotId) (h : Hap) : Hap :=
  if (h.slot i).timed .enabled then enterParked i .checkinTimeout (shutSlot i .checkinTimeout h) else h

/-- The eject timer runs out (R43). -/
def ejectExpired (i : SlotId) (h : Hap) : Hap :=
  if (h.slot i).timed .leaving then enterParked i .ejected (endEject i .ejected .forced h) else h

/-- The re-announce pulse ends (R45): the commit engine is told, then the gate is evaluated. -/
def pulseExpired (i : SlotId) (h : Hap) : Hap :=
  if (h.slot i).timed .announcing then
    let h := slotLeft i h
    if h.idleCond i then idleRule i h
    else if h.gateOpen i then enterEnabled i h
    else enterHeld i (localRemove i .gate h)
  else h

/-- A selected slot starts its re-announce pulse (R45). -/
def startPulse (i : SlotId) (h : Hap) : Hap :=
  let h := pulseEntry i (enDrop i h)
  h.setSlot i { h.slot i with state := .announcing, timer := some (10 * h.rack.pulseWidth.toNat) }

/-- A malformed check-in parks the slot (R39). -/
def rejectSlot (i : SlotId) (h : Hap) : Hap := enterParked i .rejected (shutSlot i .gate h)

/-- A RELEASE in LEAVING ends the eject (R43, R68). -/
def releaseSlot (i : SlotId) (h : Hap) : Hap := enterParked i .ejected (endEject i .ejected .released h)

/-! ### The slot requests' effects (R41, R42, R47, R48) -/

/-- SLOT CONFIGURE stores the four settings and evaluates the gate (R47); a change to MANUAL with the permit flag set ends
a running enable delay at once (R34). -/
def configureSlot (i : SlotId) (policy : Policy) (settleTime delay limit : Byte) (h : Hap) : Hap :=
  let old := h.slot i
  let h := h.setSlot i { old with policy := policy, settle := settleTime, enableDelay := delay, checkinLimit := limit }
  if decide (old.state = .delaying) && decide (old.policy ≠ .manual) && decide (policy = .manual) && old.permit then
    enterEnabled i h
  else evaluate i h

/-- SLOT PERMIT stores the flag and evaluates the gate (R48). -/
def permitSlot (i : SlotId) (v : Bool) (h : Hap) : Hap := evaluate i (h.setSlot i { h.slot i with permit := v })

/-- SLOT RESUME of a parked slot (R41). -/
def resumeSlot (i : SlotId) (h : Hap) : Hap :=
  let h := endCond .slotParked (slotLocus i) h
  let h := h.setSlot i { h.slot i with parkReason := .none }
  if h.idleCond i then enterIdle i h
  else if (h.slot i).policy = .manual then enterEnabled i h
  else if h.gateOpen i then enterDelaying i h
  else enterHeld i h

/-- SLOT EJECT with its op id (R42). -/
def ejectSlot (i : SlotId) (op : Byte) (h : Hap) : Hap :=
  let h := ejectEntry i h
  h.setSlot i { h.slot i with state := .leaving, timer := some (100 * h.rack.ejectTimeout.toNat), ejectRequested := true,
                              ejectOp := op }

end Sys2Proof.Machine
end

