-- ==== Sys2Proof/Machine/SlotLink.lean ====
section
/-! DEFINITION. The slot link targets: write transfers, bytes clocked out, and the stall timer (chapter 3, R177). -/

namespace Sys2Proof.Machine

/-- The filler byte (R53). -/
def filler : Byte := 0xFF

/-- The burst stall cut-off, in ms (R59). -/
def stallMs : Nat := 50

/-- A response is held from its first byte (R54). -/
def holdResponse (i : SlotId) (resp : List Byte) (h : Hap) : Hap :=
  h.setTarget i { h.target i with phase := .holding resp 0 }

/-- The visible slot state's code (R57, R173). -/
def visibleCode : SlotState → Byte
  | .idle | .held | .delaying | .announcing => 0
  | .enabled => 1
  | .online => 2
  | .leaving => 3
  | .parked => 4

/-- The grant of a slot's local entry, NONE where it has none (R56). -/
def State.slotGrant (s : State) (i : SlotId) : Grant :=
  match s.localEntry i with
  | some e => e.grant
  | none => .none

/-- A last check-in result as a byte; NONE is 0xFF (R177). -/
def lastResultByte : Option SlotResult → Byte
  | some r => slotResultCode r
  | none => 0xFF

/-- The response to STATUS (R56, R177). -/
def statusResponse (s : State) (i : SlotId) : List Byte :=
  [slotResultCode .ok, slotByte i, visibleCode (s.slot i).state] ++ be16 s.desc.generation ++
    [byteOf s.desc.pages, boolCode (s.slot i).ejectRequested, grantCode (s.slotGrant i),
      lastResultByte (s.target i).lastResult]

/-- STATUS (R56). -/
def slotStatusCmd (i : SlotId) (h : Hap) : Hap := holdResponse i (statusResponse h.toState i) h

/-- The response to a refused PAGE READ (R58, R177). -/
def pageRefusal (s : State) (r : SlotResult) : List Byte :=
  slotResultCode r :: be16 s.desc.generation ++ [byteOf s.desc.pages]

/-- The checks of a PAGE READ in their order (R58): the first refusal that applies. -/
def pageReadRefusal (s : State) (i : SlotId) (page offset length : Nat) : Option SlotResult :=
  if !(s.slot i).state.en then some .notEnabled
  else if s.desc.pages ≤ page || 8 ≤ page then some .noPage
  else if length = 0 || 32 < length || 128 < offset + length then some .badRange
  else none

/-- PAGE READ (R58, R59). -/
def pageReadCmd (i : SlotId) (page offset length : Nat) (h : Hap) : Hap :=
  match pageReadRefusal h.toState i page offset length with
  | some r => holdResponse i (pageRefusal h.toState r) h
  | none =>
    let gen := h.desc.generation
    let b : Burst := { bank := h.desc.live, generation := gen, page := page, offset := offset, remaining := length,
                       headerRead := 0 }
    let h := h.setTarget i { h.target i with phase := .burst b, stall := some stallMs }
    h.setSlot i { h.slot i with lastRead := gen }

/-- The record of a CHECK-IN, where its form is right (R64, R177). -/
def checkInRecOf (args : List Byte) : Option CheckInRec :=
  match args with
  | c0 :: c1 :: s0 :: s1 :: s2 :: s3 :: s4 :: s5 :: rev :: draw :: n :: rest =>
    match words16 rest with
    | none => none
    | some caps =>
      let serial := of48 s0 s1 s2 s3 s4 s5
      if 8 < n.toNat || serial = 0 || caps.length ≠ n.toNat then none
      else if hd : draw.toNat < 4 then
        some { classCode := of16 c0 c1, serial := serial, revision := rev, draw := ⟨draw.toNat, hd⟩, caps := caps }
      else none
  | _ => none

/-- The result of a CHECK-IN is recorded, a refusal raised, and the response held (R66). -/
def checkInResult (i : SlotId) (r : SlotResult) (gen : Word16) (h : Hap) : Hap :=
  let admitted := decide (r = .accepted) || decide (r = .conflict)
  let h := if admitted then h else raiseLatched .checkinRefused (slotLocus i) (detailOf (slotResultCode r)) h
  let grant := if admitted then h.slotGrant i else .none
  let h := h.setTarget i { h.target i with lastResult := some r }
  holdResponse i ([slotResultCode r, grantCode grant] ++ be16 gen) h

/-- The slot sequencer's step on an admission's outcome (R13, R35). -/
def admittedSlot (i : SlotId) (h : Hap) : Hap := h.setSlot i { h.slot i with state := .online, timer := none }

/-- A checked record goes to the roster (R65); what the admission hands on belongs to the same happening, the grants
included. -/
def checkInAdmit (i : SlotId) (r : CheckInRec) (h : Hap) : Hap × SlotResult :=
  match admission i r h with
  | (h, .accepted) => (settleIfDue (admittedSlot i h), .accepted)
  | (h, .conflict) => (settleIfDue (admittedSlot i h), .conflict)
  | (h, .full) => (h, .full)

/-- CHECK-IN (R63 to R66). -/
def checkInCmd (i : SlotId) (args : List Byte) (h : Hap) : Hap :=
  let gen := h.desc.generation
  match (h.slot i).state with
  | .enabled | .online =>
    match checkInRecOf args with
    | none => checkInResult i .malformed gen (rejectSlot i h)
    | some r => checkInResult i (checkInAdmit i r h).2 gen (checkInAdmit i r h).1
  | .leaving => checkInResult i .ejecting gen h
  | .idle | .held | .delaying | .announcing | .parked => checkInResult i .notEnabled gen h

/-- RELEASE (R68). -/
def releaseCmd (i : SlotId) (h : Hap) : Hap :=
  match (h.slot i).state with
  | .leaving => holdResponse i [slotResultCode .ok] (releaseSlot i h)
  | .idle | .held | .delaying | .enabled | .online | .announcing | .parked =>
    holdResponse i [slotResultCode .notEjecting] h

/-- A write transfer ends at a target (R53, R55): a burst is superseded (R61), and the command is handled. -/
def slotWrite (i : SlotId) (bytes : List Byte) (h : Hap) : Hap :=
  match bytes with
  | [] => h
  | cmd :: args =>
    let h := endBurst i h
    match cmd.toNat, args with
    | 1, [] => slotStatusCmd i h
    | 2, [p, o, l] => pageReadCmd i p.toNat o.toNat l.toNat h
    | 3, args => checkInCmd i args h
    | 4, [] => releaseCmd i h
    | _, _ => holdResponse i [slotResultCode .badCommand] h

/-- A byte goes out to the module; it is the model's own record of the wires (log 19). -/
def clockOut (i : SlotId) (b : Byte) (h : Hap) : Hap := h.setTarget i { h.target i with lastByte := some b }

/-- A header byte of a burst's response: result OK and the pinned generation (R59, R177). -/
def burstHeader (b : Burst) : Byte := (slotResultCode .ok :: be16 b.generation).getD b.headerRead 0

/-- The module clocks one byte (R53, R54, R60, R61). -/
def slotByteRead (i : SlotId) (h : Hap) : Hap :=
  let t := h.target i
  match t.phase with
  | .ready => clockOut i filler h
  | .holding resp pos =>
    if pos < resp.length then
      clockOut i (resp.getD pos filler) (h.setTarget i { t with phase := .holding resp (pos + 1) })
    else clockOut i filler h
  | .burst b =>
    if b.headerRead < 3 then
      clockOut i (burstHeader b)
        (h.setTarget i { t with phase := .burst { b with headerRead := b.headerRead + 1 }, stall := some stallMs })
    else
      let v := (h.desc.bank b.bank).read (pageAddr b.page b.offset)
      if b.remaining ≤ 1 then endBurst i (clockOut i v h)
      else
        clockOut i v (h.setTarget i
          { t with phase := .burst { b with offset := b.offset + 1, remaining := b.remaining - 1 }, stall := some stallMs })

/-- The stall timer runs out: the burst is cut off (R62). -/
def stallExpired (i : SlotId) (h : Hap) : Hap :=
  match (h.target i).phase, (h.target i).stall with
  | .burst b, some _ => raiseLatched .burstStall (slotLocus i) (word16Of b.remaining) (endBurst i h)
  | _, _ => h

end Sys2Proof.Machine
end

