-- ==== Sys2Proof/Machine/Send.lean ====
section
/-! DEFINITION. Handing frames to the host transmitter and to the ports' transmitters (R108, R161, R163, R169). -/

namespace Sys2Proof.Machine

/-! ### The host transmitter -/

/-- A frame is handed to the host transmitter: it begins at once where none is being sent; an ATTENTION replaces one that
waits (R161). -/
def HostLink.hand (l : HostLink) (x : SendItem) : HostLink :=
  match l.cur with
  | none => { l with cur := some x }
  | some _ =>
    if decide (x.sort = .attention) && l.sendList.any (fun y => decide (y.sort = .attention)) then
      { l with sendList := l.sendList.map fun y => if y.sort = .attention then x else y }
    else { l with sendList := l.sendList ++ [x] }

/-- Handing a frame to the host transmitter. -/
def handHost (x : SendItem) (h : Hap) : Hap := { h with host := h.host.hand x }

/-- What the handling of a request answers (R162, R163): OK with its data, ACCEPTED with an op id, REFUSED with a code, a
detail and further bytes, OK to a PART RESET with its flag, or no reply yet for a FORWARD sent down under an op id. -/
inductive Answer where
  | ok (data : List Byte)
  | accepted (op : Byte)
  | refused (code : RefCode) (detail : Word16) (more : List Byte)
  | resets (keep : Bool)
  | later (op : Byte)
  deriving DecidableEq, Repr

/-- A refusal with a detail. -/
def Answer.refuse (code : RefCode) (detail : Word16) : Answer := .refused code detail []

/-- The reply kind and payload of an answer, where it is a reply (R174). -/
def Answer.reply : Answer → Option (ReplyKind × List Byte)
  | .ok data => some (.ok, data)
  | .accepted op => some (.accepted, [op])
  | .refused code detail more => some (.refused, refCode code :: be16 detail ++ more)
  | .resets _ => some (.ok, [])
  | .later _ => none

/-- The mark a reply carries to the transmitter (R170). -/
def Answer.mark : Answer → Option Bool
  | .resets keep => some keep
  | .ok _ | .accepted _ | .refused .. | .later _ => none

/-- A reply frame (R163). -/
def replyFrame (tag : Byte) (kind : ReplyKind) (payload : List Byte) : HostFrame :=
  { kind := replyKindCode kind, tag := tag, payload := payload }

/-- A late reply stored in the repeat memory while the record still describes that FORWARD (R164). -/
def storeLate (op : Byte) (f : HostFrame) (h : Hap) : Hap :=
  match h.host.memory with
  | none => h
  | some m =>
    match m.reply with
    | .pending o => if o = op then { h with host := { h.host with memory := some { m with reply := .frame f } } } else h
    | .frame _ => h

/-- The number of frames of a sort that wait in the send list. -/
def HostLink.waitingOf (l : HostLink) (k : SendSort) : Nat := l.sendList.countP fun x => decide (x.sort = k)

/-- The number of late replies that wait at most (R161). -/
def lateSize : Nat := 4

/-- A late reply to a FORWARD goes out under the host's tag (R169). At most four wait (R161); DESIGN CHOICE (log 14): one
beyond them is not handed on, and the repeat memory has it all the same. -/
def lateReply (op tag : Byte) (kind : ReplyKind) (payload : List Byte) (h : Hap) : Hap :=
  let f := replyFrame tag kind payload
  let h := storeLate op f h
  if h.host.waitingOf .late < lateSize then handHost { sort := .late, frame := f, resets := none } h else h

/-! ### The ports' transmitters -/

/-- The KEEPALIVE interval, in ms (R114). -/
def keepaliveMs : Nat := 20

/-- The link loss time, in ms (R114). -/
def lossMs : Nat := 60

/-- A frame is handed to a port: it begins at once where none is being sent (R108). -/
def LinkTx.hand (t : LinkTx) (x : TxFrame) : LinkTx :=
  match t.cur with
  | none => { t with cur := some x }
  | some _ => { t with waiting := t.waiting ++ [x] }

/-- The keepalive timer of a port on which a frame begins or has gone out: restarted in SYNCING and UP (R108). -/
def restarted (st : LinkState) (old : Timer) : Timer := if st.active then some keepaliveMs else old

/-- Handing a frame to U, with the mark of a PART RESET's reply. -/
def sendUMarked (m : LinkMsg) (resets : Option Bool) (h : Hap) : Hap :=
  { h with u := { h.u with tx := h.u.tx.hand { msg := m, resets := resets },
                           keepalive := if h.u.tx.cur.isNone then restarted h.u.state h.u.keepalive else h.u.keepalive } }

/-- Handing a frame to U. -/
def sendU (m : LinkMsg) (h : Hap) : Hap := sendUMarked m none h

/-- A D port's record with a frame handed to it. -/
def DLink.send (d : DLink) (m : LinkMsg) : DLink :=
  { d with tx := d.tx.hand { msg := m, resets := none },
           keepalive := if d.tx.cur.isNone then restarted d.state d.keepalive else d.keepalive }

/-- Handing a frame to a D port. -/
def sendD (p : DPort) (m : LinkMsg) (h : Hap) : Hap := h.setD p ((h.dl p).send m)

/-! ### Replies of FORWARD entries (R115, R123, R124) -/

/-- A FORWARD entry's reply is passed upward, and the entry freed: to the host as a late reply, or up U as a FORWARD
REPLY. -/
def passUp (e : OpEntry) (kind : ReplyKind) (payload : List Byte) (h : Hap) : Hap :=
  let h := freeOpEntry e.op h
  match e.origin with
  | .host tag => lateReply e.op tag kind payload h
  | .upstream tag => sendU (.forwardReply tag kind payload) h

/-- A FORWARD entry is answered with a refusal of this part, with its own tier as detail. -/
def passRefusal (e : OpEntry) (code : RefCode) (h : Hap) : Hap :=
  passUp e .refused (refCode code :: be16 (word16Of h.ownTier)) h

end Sys2Proof.Machine
end

