-- ==== Sys2Proof/Machine/Flags.lean ====
section
/-! DEFINITION. The completeness flags (R21) and the roster generation (R20). -/

namespace Sys2Proof.Machine

/-- The flags the child on a D port last reported; none count as all clear (R117). -/
def DLink.reportedFlags (d : DLink) : Flags :=
  match d.child with
  | some c => c.reported.getD .clear
  | none => .clear

/-- Whether at least one flag is set. -/
def Flags.any (f : Flags) : Bool := f.overflowed || f.belowIncomplete || f.depthRefused || f.linkPending

/-- What a D port contributes to BELOW_INCOMPLETE (R21). -/
def DLink.below (d : DLink) : Bool := decide (d.state = .up) && Flags.any d.reportedFlags

/-- What a D port contributes to DEPTH_REFUSED (R21). -/
def DLink.depth (d : DLink) : Bool := decide (d.state = .refused) || d.reportedFlags.depthRefused

/-- What a D port contributes to LINK_PENDING (R21). -/
def DLink.pendingLink (d : DLink) : Bool := decide (d.state = .probing) || decide (d.state = .syncing)

/-- The completeness flags as their causes stand (R21). -/
def State.causedFlags (s : State) : Flags :=
  { overflowed := s.roster.marker1 || s.roster.marker2,
    belowIncomplete := s.d1.below || s.d2.below,
    depthRefused := s.d1.depth || s.d2.depth,
    linkPending := s.d1.pendingLink || s.d2.pendingLink }

/-- Recomputing the flags where a cause has changed; a flag that changes value is a change to the roster (R20, R21). -/
def recomputeFlags (h : Hap) : Hap :=
  if h.flagsDue then
    { h with roster := { h.roster with flags := h.causedFlags },
             dirty := h.dirty || decide (h.causedFlags ≠ h.roster.flags), flagsDue := false }
  else h

/-- The roster generation advances once for the changes of a happening (R20). -/
def advanceGeneration (h : Hap) : Hap :=
  if h.dirty then { h with roster := { h.roster with generation := h.roster.generation + 1 } } else h

end Sys2Proof.Machine
end

