-- ==== Sys2Proof/Machine/Propagate.lean ====
section
/-! DEFINITION. Roster propagation: the child's dump and deltas, the parent's sync, overflow recovery and RESCAN
(chapter 7). The entry of U into UP, which reaches further, is in Links.lean. -/

namespace Sys2Proof.Machine

/-! ### The child's dump (R126 to R130) -/

/-- The limits of the outbound delta queue and its window (R133). -/
def deltaQueueSize : Nat := 32

/-- The number of unacknowledged deltas at most (R133). -/
def deltaWindow : Nat := 8

/-- The retransmit interval of deltas and of event items, in ms (R133, R151). -/
def retransmitMs : Nat := 40

/-- The sync completion limit, in ms (R129, R131). -/
def syncMs : Nat := 500

/-- SYNC END is formed and sent, and the ack awaited (R129). -/
def sendSyncEnd (h : Hap) : Hap :=
  sendU (.syncEnd (byteOf h.u.dumpList.length) h.roster.flags)
    { h with u := { h.u with dumpPhase := .awaitingAck, ackTimer := some syncMs } }

/-- The steps of R128: SYNC BEGIN is sent and the dump is SENDING. The deltas of changes made before this moment are not
queued: the dump carries them. The loss timer keeps its time (DESIGN CHOICE, log 39). -/
def openDump (cause : DumpCause) (h : Hap) : Hap :=
  let h := recomputeFlags h
  let keys := h.roster.entries.map Entry.key
  let leavesUp := decide (h.u.state = .up)
  let u := { h.u with state := if leavesUp then .syncing else h.u.state, dumpPhase := .sending, dumpCause := cause,
                      dumpList := keys, cursor := 1, ackTimer := none, deltas := [], retransmit := none }
  let ev := if leavesUp then { h.ev with retransmit := none } else h.ev
  let h := { h with u := u, ev := ev, base := h.roster.entries, baseFlags := h.roster.flags }
  sendU (.syncBegin (byteOf keys.length) cause) h

/-- A dump begins (R128). One whose list is empty sends SYNC END at once, behind SYNC BEGIN (R129, log 21). -/
def beginDump (cause : DumpCause) (h : Hap) : Hap :=
  if h.roster.entries.isEmpty then sendSyncEnd (openDump cause h) else openDump cause h

/-- The body of the SYNC ENTRY for a key, as the roster stands when the frame is formed (R129). -/
def dumpBody (es : List Entry) (k : Key) : SyncBody :=
  match findEntry k es with
  | some e => .present e.record
  | none => .vacant k

/-- The next frame of the dump is formed and begins to be sent (R129): a SYNC ENTRY, or SYNC END, after which the ack
timer runs. -/
def formDumpFrame (h : Hap) : Hap :=
  match h.u.dumpPhase with
  | .sending =>
    match h.u.dumpList[h.u.cursor - 1]? with
    | some k =>
      sendU (.syncEntry (byteOf h.u.cursor) (dumpBody h.roster.entries k)) { h with u := { h.u with cursor := h.u.cursor + 1 } }
    | none => sendSyncEnd h
  | .none | .awaitingAck => h

/-! ### Deltas (R126, R133 to R135) -/

/-- What a delta of an entry compares: every field but the stale mark (R20, R126). -/
def Entry.unmarked (e : Entry) : Entry := { e with stale := false }

/-- The delta of an entry as it stands at the end of the happening (R126); none where it is unchanged (log 9). -/
def entryDelta (old : List Entry) (e : Entry) : Option (Key × DeltaBody) :=
  match findEntry e.key old with
  | none => some (e.key, .add e.record)
  | some o =>
    if o.serial ≠ e.serial then some (e.key, .add e.record)
    else if o.unmarked ≠ e.unmarked then some (e.key, .update e.record)
    else none

/-- The REMOVE of an entry that is gone (R126). -/
def entryGone (new : List Entry) (e : Entry) : Option (Key × DeltaBody) :=
  match findEntry e.key new with
  | none => some (e.key, .remove e.key)
  | some _ => none

/-- The deltas of a happening, in the canonical order of their keys, the FLAGS delta last (R126). -/
def happeningDeltas (old new : List Entry) (oldFlags newFlags : Flags) : List DeltaBody :=
  (sortBy (fun a b => keyLt a.1 b.1) (new.filterMap (entryDelta old) ++ old.filterMap (entryGone new))).map Prod.snd ++
    (if oldFlags = newFlags then [] else [.flags newFlags])

/-- The roster's change is handed to the U-link controller (R126): discarded in DOWN, queued in SYNCING and UP, and where
the queue would be exhausted a dump begins in its place (R135). -/
def handUpward (h : Hap) : Hap :=
  if h.dirty && decide (h.role = .branch) && h.u.state.active then
    let ds := happeningDeltas h.base h.roster.entries h.baseFlags h.roster.flags
    if ds.isEmpty then h
    else if deltaQueueSize < h.u.deltas.length + ds.length then beginDump .queueFull h
    else
      { h with u := { h.u with deltas := h.u.deltas ++ ds.map fun b => { body := b, seq := none } }, deltaDue := true }
  else h

/-- The number of unacknowledged deltas. -/
def unacked (ds : List Delta) : Nat := ds.countP fun d => d.seq.isSome

/-- The oldest unsent delta takes a sequence number. -/
def numberFirst (seq : Byte) : List Delta → List Delta
  | [] => []
  | d :: t =>
    match d.seq with
    | some _ => d :: numberFirst seq t
    | none => { d with seq := some seq } :: t

/-- Sending unsent deltas while the window allows (R133); `n` bounds the sends by the window. -/
def sendDeltas : Nat → Hap → Hap
  | 0, h => h
  | n + 1, h =>
    match h.u.deltas.find? fun d => d.seq.isNone with
    | none => h
    | some d =>
      if unacked h.u.deltas < deltaWindow then
        let first := decide (unacked h.u.deltas = 0)
        let seq := h.u.nextSeq
        let u := { h.u with deltas := numberFirst seq h.u.deltas, nextSeq := nextByte seq,
                            retransmit := if first then some retransmitMs else h.u.retransmit }
        sendDeltas n (sendU (.delta seq d.body) { h with u := u })
      else h

/-- The child's check whether a delta is to be sent, where the happening calls for it (R133). -/
def sendDeltasIfDue (h : Hap) : Hap :=
  if h.deltaDue && decide (h.u.state = .up) then sendDeltas deltaWindow h else h

/-- A DELTA ACK's effect on the queue (R134): the delta named and every delta ahead of it are removed. -/
def ackDeltas (seq : Byte) : List Delta → List Delta
  | [] => []
  | d :: t => if d.seq = some seq then t else ackDeltas seq t

/-- A DELTA ACK taken in UP (R134). -/
def takeDeltaAck (seq : Byte) (h : Hap) : Hap :=
  if decide (h.u.state = .up) && h.u.deltas.any (fun d => decide (d.seq = some seq)) then
    let ds := ackDeltas seq h.u.deltas
    { h with u := { h.u with deltas := ds, retransmit := if unacked ds = 0 then none else some retransmitMs },
             deltaDue := true }
  else h

/-- The retransmit timer runs out: every unacknowledged delta is sent again (R133). -/
def deltaRetransmit (h : Hap) : Hap :=
  match h.u.state, h.u.retransmit with
  | .up, some _ =>
    let h := { h with u := { h.u with retransmit := some retransmitMs } }
    h.u.deltas.foldl (fun h d =>
      match d.seq with
      | some seq => sendU (.delta seq d.body) h
      | none => h) h
  | _, _ => h

/-! ### RESCAN (R138) -/

/-- A port leaves the rescan, as synced or as lost; the last one ends it (R138). -/
def rescanLeave (p : DPort) (synced : Bool) (h : Hap) : Hap :=
  match h.rescan with
  | none => h
  | some r =>
    if r.ports.contains p then
      let ports := r.ports.filter fun q => decide (q ≠ p)
      let n := if synced then r.synced + 1 else r.synced
      if ports.isEmpty then opDone none r.op (word16Of n) { h with rescan := none }
      else { h with rescan := some { r with ports := ports, synced := n } }
    else h

/-! ### The parent's side (R131, R132, R134, R136) -/

/-- A D port asks for a dump (R131). The loss timer keeps its time (DESIGN CHOICE, log 39). -/
def askDump (p : DPort) (h : Hap) : Hap :=
  let d := h.dl p
  if d.state.active then
    let d := { d with state := .syncing, syncPhase := .awaiting, syncTimer := some syncMs }
    { h.setD p (d.send .resync) with flagsDue := true }
  else h

/-- Overflow recovery (R137): where the roster has room, the marked ports are asked for dumps, D1 before D2, and their
markers cleared. -/
def overflowRecovery (h : Hap) : Hap :=
  let recover := fun (p : DPort) (h : Hap) => if h.roster.marker p then clearRefused p (askDump p h) else h
  if h.dirty && !h.roster.full then recover .d2 (recover .d1 h) else h

/-- A RESCAN taken with its op id (R138). -/
def beginRescan (op : Byte) (h : Hap) : Hap :=
  let ports := [DPort.d1, DPort.d2].filter fun p => decide ((h.dl p).state = .up)
  if ports.isEmpty then opDone none op 0 h
  else ports.foldl (fun h p => askDump p h) { h with rescan := some { op := op, ports := ports, synced := 0 } }

/-- A SYNC BEGIN on a D port in SYNCING or UP (R131). -/
def takeSyncBegin (p : DPort) (count : Nat) (cause : DumpCause) (h : Hap) : Hap :=
  if rosterCapacity < count then h
  else
    let h := markStale p h
    let d := h.dl p
    let h := { h.setD p { d with state := .syncing, syncPhase := .receiving, announced := count, nextOrdinal := 1,
                                 recent := [], syncTimer := some syncMs } with flagsDue := true }
    if d.everUp then raiseLatched .branchResync (portLocus p) (detailOf (dumpCauseCode cause)) h else h

/-- A SYNC ENTRY on a D port in SYNCING or UP (R131). -/
def takeSyncEntry (p : DPort) (ordinal : Nat) (body : SyncBody) (h : Hap) : Hap :=
  let d := h.dl p
  match d.syncPhase with
  | .none | .awaiting => h
  | .receiving =>
    if ordinal = d.nextOrdinal ∧ ordinal ≤ d.announced then
      let h := h.setD p { d with nextOrdinal := d.nextOrdinal + 1 }
      match body with
      | .present r => remoteStore p r h
      | .vacant k => remoteRemove (remoteKey p k) .reported h
    else askDump p h

/-- Storing the flags a child reports (R136). -/
def storeReported (p : DPort) (f : Flags) (h : Hap) : Hap :=
  let d := h.dl p
  { h.setD p { d with child := d.child.map fun c => { c with reported := some f } } with flagsDue := true }

/-- A sync completes (R132). -/
def completeSync (p : DPort) (f : Flags) (h : Hap) : Hap :=
  let stale := (h.roster.entries.filter fun e => e.via p && e.stale).map Entry.key
  let h := storeReported p f (remoteRemoveAll stale .linkLost h)
  let d := (h.dl p).send .syncAck
  let first := !d.everUp
  let h := { h.setD p { d with state := .up, syncPhase := .none, syncTimer := none, expected := 1, everUp := true }
             with flagsDue := true }
  let h :=
    if first then
      raiseLatched .branchJoined (portLocus p)
        (match d.child with
          | some c => c.rackClass
          | none => 0) h
    else h
  rescanLeave p true h

/-- A SYNC END on a D port in SYNCING or UP (R131). -/
def takeSyncEnd (p : DPort) (count : Nat) (f : Flags) (h : Hap) : Hap :=
  let d := h.dl p
  match d.syncPhase with
  | .none | .awaiting => h
  | .receiving =>
    if count = d.announced ∧ d.nextOrdinal = count + 1 then completeSync p f h else askDump p h

/-- Applying a delta (R134). -/
def applyDelta (p : DPort) (body : DeltaBody) (h : Hap) : Hap :=
  match body with
  | .add r => remoteStore p r h
  | .update r => remoteStore p r h
  | .remove k => remoteRemove (remoteKey p k) .reported h
  | .flags f => storeReported p f h

/-- The last eight of a list (R134). -/
def lastEight (xs : List Byte) : List Byte := xs.drop (xs.length - deltaWindow)

/-- A DELTA on a D port in SYNCING or UP (R131, R134). -/
def takeDelta (p : DPort) (seq : Byte) (body : DeltaBody) (h : Hap) : Hap :=
  let d := h.dl p
  match d.syncPhase with
  | .awaiting | .receiving => h
  | .none =>
    if seq = d.expected then
      let h := applyDelta p body h
      let d := h.dl p
      h.setD p ({ d with recent := lastEight (d.recent ++ [seq]), expected := nextByte d.expected }.send (.deltaAck seq))
    else if d.recent.contains seq then sendD p (.deltaAck (d.recent.getLastD 0)) h
    else askDump p h

/-- A D port's sync timer runs out (R131). -/
def syncTimerExpired (p : DPort) (h : Hap) : Hap :=
  match (h.dl p).syncPhase, (h.dl p).syncTimer with
  | .awaiting, some _ => askDump p h
  | .receiving, some _ => askDump p h
  | _, _ => h

end Sys2Proof.Machine
end

