-- ==== Sys2Proof/Machine/Drain.lean ====
section
/-! DEFINITION. Carriage of events up the tree: the drain of a branch's queue, and the parent's taking of events and
clears (R151 to R155). -/

namespace Sys2Proof.Machine

/-! ### The child's side -/

/-- The EVENT UP of a record, with the part's lost count (R151). -/
def eventUpMsg (r : EvRecord) (lost : Nat) : EventUp :=
  { seq := r.seq, kind := r.kind, priority := byteOf r.priority.val, style := r.style, locus := r.locus,
    detail := r.detail, count := byteOf r.count, origin := r.origin, lost := byteOf lost }

/-- The message of an item in flight. -/
def flightMsg : InFlight → LinkMsg
  | .record e => .eventUp e
  | .clear k l seq => .conditionClear k l seq

/-- The next item: the waiting clear marked first, or else the record first in delivery order (R151). -/
def EventUnit.nextItem (ev : EventUnit) : Option InFlight :=
  match ev.reported.find? Reported.waiting with
  | some r => some (.clear r.kind r.locus r.seq)
  | none =>
    match deliveryOrder ev.queue with
    | [] => none
    | r :: _ => some (.record (eventUpMsg r ev.lost))

/-- The lost count after an item has been sent: 0 after a record (R146, R151). -/
def lostAfter (lost : Nat) : InFlight → Nat
  | .record _ => 0
  | .clear .. => lost

/-- The next item is sent (R151). -/
def sendItem (x : InFlight) (h : Hap) : Hap :=
  sendU (flightMsg x)
    { h with ev := { h.ev with inFlight := some x, retransmit := some retransmitMs, lost := lostAfter h.ev.lost x } }

/-- With U UP and no item in flight, the next item is sent in the same happening (R151). -/
def drainIfDue (h : Hap) : Hap :=
  if h.drainDue && decide (h.role = .branch) && decide (h.u.state = .up) && h.ev.inFlight.isNone then
    match h.ev.nextItem with
    | some x => sendItem x h
    | none => h
  else h

/-- The item in flight is sent again, and the timer reloaded (R151, R153). -/
def resendItem (h : Hap) : Hap :=
  match h.ev.inFlight with
  | some x => sendU (flightMsg x) { h with ev := { h.ev with retransmit := some retransmitMs } }
  | none => h

/-- The drain's retransmit timer runs out with U UP (R151). -/
def eventRetransmit (h : Hap) : Hap :=
  match h.u.state, h.ev.retransmit with
  | .up, some _ => resendItem h
  | _, _ => h

/-- U enters UP: an item still in flight is sent again at once, and otherwise the next item (R153). -/
def drainResumes (h : Hap) : Hap := { resendItem h with drainDue := true }

/-- On the first entry of U into UP a record is queued for each instance in the holding set, by kind in the order of R141
and by locus (R153). -/
def queueHolding (h : Hap) : Hap :=
  [EvKind.slotParked, .serialConflict, .grantBlocked, .rosterOverflow, .depthExceeded].foldl
    (fun h k => (h.ev.instancesOf k).foldl (fun h c => requeue k c.locus h) h) h

/-- A remote condition may stand under a kind of LATCHED style only by a child's malformed record; such instances are
queued last, in the order of R141 (log 17). -/
def queueOddHolding (h : Hap) : Hap :=
  [EvKind.slotOccupied, .slotVacated, .moduleJoined, .moduleLeft, .checkinRefused, .burstStall, .opDone, .branchJoined,
    .branchLost, .branchResync, .hostFrameError, .branchEventsLost].foldl
    (fun h k => (h.ev.instancesOf k).foldl (fun h c => requeue k c.locus h) h) h

/-- The parent has acknowledged a CONDITION record: its instance enters the reported-condition set, marked as waiting
where it has ended (R152). -/
def reportCondition (r : EvRecord) (h : Hap) : Hap :=
  let ended := !(h.ev.holds r.kind r.locus)
  { h with
    ev := { h.ev with
            reported := (h.ev.reported.filter fun x => !(x.is r.kind r.locus)) ++
                          [{ kind := r.kind, locus := r.locus, seq := r.seq, waiting := ended }] } }

/-- The record that stays after its acknowledgement, with the occurrences coalesced into it since: a new sequence
number, and for BRANCH_EVENTS_LOST the detail lowered by the detail sent (R151). -/
def EvRecord.renewed (r : EvRecord) (e : EventUp) (seq : Word16) : EvRecord :=
  { r with seq := seq, count := r.count - e.count.toNat,
           detail := if r.kind = .branchEventsLost then r.detail - e.detail else r.detail }

/-- The parent has acknowledged the record in flight (R151). DESIGN CHOICE (log 43): a record sent with a repeat count of 255
is removed though occurrences were coalesced into it since, for its count stopped at 255 and nothing is left of it. -/
def ackRecord (e : EventUp) (h : Hap) : Hap :=
  let h := { h with ev := { h.ev with inFlight := none, retransmit := none }, drainDue := true }
  match h.ev.queue.find? fun r => decide (r.seq = e.seq) with
  | none => h
  | some r =>
    if r.count ≤ e.count.toNat then
      let h := { h with ev := { h.ev with queue := h.ev.queue.filter fun x => decide (x.seq ≠ e.seq) } }
      match r.style with
      | .condition => reportCondition r h
      | .latched => h
    else
      let seq := h.ev.counter
      let q := h.ev.queue.map fun x => if x.seq = e.seq then x.renewed e seq else x
      { h with ev := { h.ev with queue := q, counter := counterAfter seq q } }

/-- The parent has acknowledged the clear in flight (R152). -/
def ackClear (k : EvKind) (l : Locus) (h : Hap) : Hap :=
  { h with ev := { h.ev with inFlight := none, retransmit := none,
                             reported := h.ev.reported.filter fun x => !(x.is k l) },
           drainDue := true }

/-- An EVENT ACK taken on U in SYNCING or UP (R151, R153). -/
def takeEventAck (item : AckItem) (seq : Word16) (h : Hap) : Hap :=
  match item, h.ev.inFlight with
  | .record, some (.record e) => if e.seq = seq then ackRecord e h else h
  | .clear, some (.clear k l n) => if n = seq then ackClear k l h else h
  | _, _ => h

/-- The upstream teardown's effect on the drain: the item in flight is dropped, the lost count it held is added back, and
the reported-condition set is emptied (R153). -/
def dropDrain (h : Hap) : Hap :=
  let back :=
    match h.ev.inFlight with
    | some (.record e) => e.lost.toNat
    | some (.clear ..) => 0
    | none => 0
  { h with ev := { h.ev with inFlight := none, retransmit := none, reported := [], lost := min 255 (h.ev.lost + back) } }

/-! ### The parent's side (R154, R155) -/

/-- An EVENT UP whose paths would grow beyond what a record holds, with the port in front (R154). -/
def EventUp.tooDeep (e : EventUp) : Bool := decide (4 < e.locus.path.length + 1) || decide (3 < e.origin.length + 1)

/-- A locus with the port in front (R154). -/
def Locus.under (l : Locus) (p : DPort) : Locus := { l with path := p :: l.path }

/-- A record brought up is raised into this part's queue (R154, R155). -/
def raiseBrought (p : DPort) (e : EventUp) (h : Hap) : Hap :=
  let locus := Locus.under e.locus p
  let origin := p :: e.origin
  let occ : Occ := { kind := e.kind, style := e.style, locus := locus, detail := e.detail, count := e.count.toNat,
                     origin := origin }
  match e.style with
  | .latched => raise occ h
  | .condition =>
    if h.ev.remoteRoom e.kind locus then
      raise occ (storeRemote { port := p, kind := e.kind, locus := locus, detail := e.detail, origin := origin } h)
    else raise { occ with style := .latched } h

/-- An EVENT UP on a D port in SYNCING or UP (R154). -/
def takeEventUp (p : DPort) (e : EventUp) (h : Hap) : Hap :=
  if EventUp.tooDeep e then h
  else
    let h' := sendD p (.eventAck .record e.seq) h
    if (h.dl p).lastChildSeq = some e.seq then h'
    else
      let h := h'.setD p { h'.dl p with lastChildSeq := some e.seq }
      let h :=
        if e.lost = 0 then h
        else raiseLatched .branchEventsLost (portLocus p) (word16Of e.lost.toNat) h
      raiseBrought p e h

/-- A CONDITION CLEAR on a D port in SYNCING or UP (R154). -/
def takeConditionClear (p : DPort) (k : EvKind) (l : Locus) (seq : Word16) (h : Hap) : Hap :=
  endRemote k (Locus.under l p) (sendD p (.eventAck .clear seq) h)

end Sys2Proof.Machine
end

