-- ==== Sys2Proof/Machine/Switch.lean ====
section
/-! DEFINITION. The SWITCH of a commit and the re-announce pulses it starts (chapter 4, R85 to R89). -/

namespace Sys2Proof.Machine

/-- The ten slots in order. -/
def allSlots : List SlotId := List.finRange 10

/-- The SWITCH evaluates the gate of a slot under DESCRIPTOR or PERMIT, and of no other (R85, R89). -/
def switchGate (h : Hap) (i : SlotId) : Hap :=
  match (h.slot i).policy with
  | .descriptor | .permit => evaluate i h
  | .auto | .manual => h

/-- INFO goes upward at the SWITCH on a branch whose U link is SYNCING or UP (R86). -/
def switchInfo (h : Hap) : Hap :=
  if decide (h.role = .branch) && h.u.state.active then
    sendU (.info (headerRackId h.desc.liveBank) (headerRackClass h.desc.liveBank)) h
  else h

/-- Whether a slot is selected for a re-announce pulse (R87). -/
def State.reads (s : State) (gen : Word16) (i : SlotId) : Bool :=
  (decide ((s.slot i).state = .enabled) || decide ((s.slot i).state = .online)) &&
    decide ((s.slot i).lastRead ≠ 0) && decide ((s.slot i).lastRead ≠ gen)

/-- The slots a SWITCH selects (R87). -/
def State.selection (s : State) (c : Commit) : List SlotId :=
  if c.reannounce && decide (1 ≤ s.desc.pages) then allSlots.filter (s.reads c.newGen) else []

/-- The target bank takes the whole copy and becomes the live bank (R82, R85). -/
def publish (c : Commit) (d : Desc) : Desc :=
  { d.setBank c.target (copyImage d.staging c.newGen (headerPages d.staging)) with live := c.target }

/-- The commit goes on to ANNOUNCING with its selected slots, or ends (R85, R87, R88). -/
def announce (c : Commit) (h : Hap) : Hap :=
  let chosen := h.selection c
  if chosen.isEmpty then commitEnd c.newGen h
  else
    let h := { h with desc := { h.desc with commit := some { c with phase := .announcing, timer := none,
                                                                    selected := chosen } } }
    chosen.foldl (fun h i => startPulse i h) h

/-- The SWITCH (R85). DESIGN CHOICE (log 33): the gates are evaluated, and the pulses started, from slot 1 to slot 10; no
rule orders them, and the order is that of the MODULE_LEFT and OP_DONE records of a withdrawal. -/
def switchCommit (c : Commit) (h : Hap) : Hap :=
  announce c (switchInfo (allSlots.foldl switchGate { h with desc := publish c h.desc }))

/-- The copying timer runs out in COPYING (R81, R85). -/
def copyingExpired (h : Hap) : Hap :=
  match h.desc.commit with
  | none => h
  | some c =>
    match c.phase, c.timer with
    | .copying, some _ => switchCommit c h
    | _, _ => h

end Sys2Proof.Machine
end

