-- ==== Sys2Proof/Machine/Links.lean ====
section
/-! DEFINITION. The expansion link controllers: probing, the start of a link, teardown, keepalive and loss, carrier, the
branch table, and the transmitters (chapter 6). Taking a FORWARD REQUEST, which executes requests, is in LinkIn.lean. -/

namespace Sys2Proof.Machine

/-- The PROBE interval, in ms (R109). -/
def probeMs : Nat := 50

/-- The PROBE a D port sends: the part's own tier, and its own path with the port at the end (R109). -/
def probeMsg (s : State) (p : DPort) : LinkMsg := .probe (byteOf s.ownTier) (s.ownPath ++ [p])

/-! ### Leaving DOWN (R109, R113) -/

/-- A D port enters PROBING: PROBE is sent at once and the probe timer starts. -/
def enterProbing (p : DPort) (h : Hap) : Hap :=
  { h.setD p ({ h.dl p with state := .probing, probe := some probeMs }.send (probeMsg h.toState p)) with flagsDue := true }

/-- A D port enters REFUSED, and its DEPTH_EXCEEDED begins. -/
def enterRefused (p : DPort) (h : Hap) : Hap :=
  beginCond .depthExceeded (portLocus p) { h.setD p { h.dl p with state := .refused } with flagsDue := true }

/-- A D port in DOWN is re-examined (R109). -/
def reexamine (p : DPort) (h : Hap) : Hap :=
  if decide ((h.dl p).state = .down) && (h.dl p).filter.carrier then
    match h.tier with
    | none => h
    | some t => if t ≤ 2 then enterProbing p h else enterRefused p h
  else h

/-! ### Teardown (R115, R116) -/

/-- A D port's record in DOWN: its filter, its receiver and the frame being sent stay; all else is as after reset (R107,
R108, R115, R139, R156). DESIGN CHOICE (log 45): a LINK RESET that still waits from the port's last entry into DOWN is
discarded with the other waiting frames. -/
def DLink.down (d : DLink) : DLink :=
  { DLink.reset with filter := d.filter, rx := d.rx, tx := { cur := d.tx.cur, waiting := [] } }

/-- The U port's record in DOWN (R108, R116, R139). -/
def ULink.down (u : ULink) : ULink :=
  { ULink.reset with filter := u.filter, rx := u.rx, tx := { cur := u.tx.cur, waiting := [] } }

/-- The FORWARD entries whose hop was sent on a D port are answered FORWARD_LINK_LOST and freed (R115 step 1, R169). DESIGN
CHOICE (log 34): in the order in which the entries were taken; no rule orders them. -/
def loseForwards (p : DPort) (h : Hap) : Hap :=
  (h.ops.entries.filter fun e => decide (e.kind = .forward) && decide (e.hopPort = some p)).foldl
    (fun h e => passRefusal e .forwardLinkLost h) h

/-- The keys of the roster's entries whose path begins with a port. -/
def portKeys (p : DPort) (es : List Entry) : List Key := (es.filter (Entry.via p)).map Entry.key

/-- The downstream teardown (R115); `reset` says whether LINK RESET is sent. -/
def downTeardown (p : DPort) (reason : LossReason) (reset : Bool) (h : Hap) : Hap :=
  let was := (h.dl p).state
  let h := loseForwards p h
  let h := remoteRemoveAll (portKeys p h.roster.entries) .linkLost h
  let h := rescanLeave p false (endRemotesOf p (clearRefused p h))
  let h := { h.setD p (h.dl p).down with flagsDue := true }
  let h := if reset then sendD p .linkReset h else h
  let h := if was.active then raiseLatched .branchLost (portLocus p) (detailOf (lossReasonCode reason)) h else h
  if was = .refused then endCond .depthExceeded (portLocus p) h else h

/-- Whether a part freed of its U link frees an operation table entry: a FORWARD of upstream origin (R116 step 1). -/
def OpEntry.upstreamForward (e : OpEntry) : Bool :=
  decide (e.kind = .forward) &&
    (match e.origin with
      | .upstream _ => true
      | .host _ => false)

/-- Step 3 of the upstream teardown for one D port (R116). -/
def tearBelow (h : Hap) (p : DPort) : Hap :=
  match (h.dl p).state with
  | .down => h
  | .refused => downTeardown p .upstream false h
  | .probing | .syncing | .up => downTeardown p .upstream true h

/-- The mark of a PART RESET's reply among the frames waiting on U (R170). DESIGN CHOICE (log 37): where the replies of
several wait, the flag is that of the first; the rule speaks of one. -/
def LinkTx.waitingReset (t : LinkTx) : Option Bool := t.waiting.findSome? TxFrame.resets

/-- The upstream teardown (R116). DESIGN CHOICE (log 42): the item in flight is dropped behind the teardown of the D ports,
so its record is no candidate for a full queue that the records of step 3 enter. -/
def upTeardown (h : Hap) : Hap :=
  let h := { h with ops := { h.ops with entries := h.ops.entries.filter fun e => !e.upstreamForward },
                    u := { h.u with tierKnown := false, recTier := none, recPath := none } }
  let h := dropDrain ([DPort.d1, DPort.d2].foldl tearBelow h)
  { h with u := h.u.down, resetDue := h.resetDue.or h.u.tx.waitingReset }

/-! ### The upstream side (R110, R111, R128, R130) -/

/-- Whether a PROBE passes the checks of R110. -/
def probePasses (s : State) (tier : Byte) (path : Path) : Bool :=
  s.u.filter.carrier && decide (tier.toNat ≤ 2) && decide (path.length = tier.toNat + 1)

/-- A PROBE is taken in DOWN (R110). -/
def startUplink (tier : Byte) (path : Path) (h : Hap) : Hap :=
  let h := { h with u := { h.u with recTier := some (tier.toNat + 1), recPath := some path } }
  let m := .probeReply (headerRackId h.desc.liveBank) (headerRackClass h.desc.liveBank) Config.hardwareRevision
  let h := sendU m h
  beginDump .first { h with u := { h.u with state := .syncing, keepalive := some keepaliveMs, loss := some lossMs } }

/-- A PROBE on the U port of a branch (R110). -/
def takeProbe (tier : Byte) (path : Path) (h : Hap) : Hap :=
  if probePasses h.toState tier path then
    startUplink tier path (if h.u.state.active then upTeardown h else h)
  else h

/-- The tier becomes known at the first UP of a link (R111, R153). DESIGN CHOICE (log 36): the D ports are re-examined
first, D1 before D2, and the records of the conditions that hold are queued after that; no rule orders the two. -/
def firstUp (h : Hap) : Hap :=
  let h := { h with u := { h.u with tierKnown := true } }
  queueOddHolding (queueHolding (reexamine .d2 (reexamine .d1 h)))

/-- A SYNC ACK on U (R130). The cursor goes to 1, the only place that the table of section 7.2 leaves it in an empty list
(DEDUCED, log 40). -/
def takeSyncAck (h : Hap) : Hap :=
  if decide (h.u.state = .syncing) && decide (h.u.dumpPhase = .awaitingAck) then
    let first := !h.u.tierKnown
    let u := { h.u with state := .up, dumpPhase := .none, dumpList := [], cursor := 1, ackTimer := none, nextSeq := 1 }
    let h := { h with u := u, deltaDue := true }
    drainResumes (if first then firstUp h else h)
  else h

/-- A RESYNC on U (R128). -/
def takeResync (h : Hap) : Hap := if h.u.state.active then beginDump .requested h else h

/-- The ack timer runs out in AWAITING_ACK (R130). -/
def ackExpired (h : Hap) : Hap :=
  match h.u.dumpPhase, h.u.ackTimer with
  | .awaitingAck, some _ => beginDump .noAck h
  | _, _ => h

/-- A LINK RESET on the U port of a branch (R116). -/
def takeLinkReset (h : Hap) : Hap := if h.u.state.active then upTeardown h else h

/-! ### The downstream side (R112, R117, R119) -/

/-- A PROBE REPLY on a D port (R112). -/
def takeProbeReply (p : DPort) (rackId : Word32) (rackClass : Word16) (revision : Byte) (h : Hap) : Hap :=
  let d := h.dl p
  match d.state with
  | .probing =>
    let child : Child :=
      { rackId := rackId, rackClass := rackClass, revision := revision, tier := h.ownTier + 1, reported := none }
    { h.setD p { d with state := .syncing, probe := none, keepalive := some keepaliveMs, loss := some lossMs,
                        child := some child, syncPhase := .awaiting, syncTimer := some syncMs } with flagsDue := true }
  | .down | .syncing | .up | .refused => h

/-- An INFO on a D port in SYNCING or UP (R117). -/
def takeInfo (p : DPort) (rackId : Word32) (rackClass : Word16) (h : Hap) : Hap :=
  let d := h.dl p
  h.setD p { d with child := d.child.map fun c => { c with rackId := rackId, rackClass := rackClass } }

/-- A LINK RESTART that is taken (R119). -/
def linkRestart (p : DPort) (h : Hap) : Hap :=
  match (h.dl p).state with
  | .syncing | .up => reexamine p (downTeardown p .restart true h)
  | .probing | .refused => reexamine p (downTeardown p .restart false h)
  | .down => reexamine p h

/-! ### Timers (R109, R114, R124) -/

/-- The probe timer runs out in PROBING (R109). -/
def probeExpired (p : DPort) (h : Hap) : Hap :=
  let d := h.dl p
  match d.state, d.probe with
  | .probing, some _ => h.setD p ({ d with probe := some probeMs }.send (probeMsg h.toState p))
  | _, _ => h

/-- The keepalive timer of U runs out (R114). -/
def keepaliveExpiredU (h : Hap) : Hap :=
  match h.u.keepalive with
  | some _ =>
    if h.u.state.active then sendU .keepalive { h with u := { h.u with keepalive := some keepaliveMs } } else h
  | none => h

/-- The keepalive timer of a D port runs out (R114). -/
def keepaliveExpiredD (p : DPort) (h : Hap) : Hap :=
  let d := h.dl p
  match d.keepalive with
  | some _ => if d.state.active then h.setD p ({ d with keepalive := some keepaliveMs }.send .keepalive) else h
  | none => h

/-- The loss timer of U runs out (R114). -/
def lossExpiredU (h : Hap) : Hap :=
  match h.u.loss with
  | some _ => if h.u.state.active then upTeardown h else h
  | none => h

/-- The loss timer of a D port runs out (R114, R115). -/
def lossExpiredD (p : DPort) (h : Hap) : Hap :=
  let d := h.dl p
  match d.loss with
  | some _ => if d.state.active then reexamine p (downTeardown p .silence false h) else h
  | none => h

/-- The FORWARD entry with an op id whose hop timer runs. -/
def OpTable.waitingForward (t : OpTable) (op : Byte) : Option OpEntry :=
  t.entries.find? fun e => decide (e.op = op) && decide (e.kind = .forward) && e.hopTimer.isSome

/-- A hop timer runs out (R124). -/
def hopExpired (op : Byte) (h : Hap) : Hap :=
  match h.ops.waitingForward op with
  | some e => passRefusal e .forwardTimeout h
  | none => h

/-- A FORWARD REPLY on a D port in SYNCING or UP (R123). -/
def takeForwardReply (p : DPort) (tag : Byte) (kind : ReplyKind) (payload : List Byte) (h : Hap) : Hap :=
  match h.ops.entries.find? fun e =>
      decide (e.kind = .forward) && decide (e.op = tag) && decide (e.hopPort = some p) with
  | some e => passUp e kind payload h
  | none => h

/-! ### Carrier (R28, R109, R114) -/

/-- U's filter changes; a root ignores its carrier. -/
def carrierChangeU (new : Filter) (h : Hap) : Hap :=
  let lost := departed h.u.filter new
  let h := { h with u := { h.u with filter := new } }
  if decide (h.role = .branch) && lost && h.u.state.active then upTeardown h else h

/-- A D port's filter changes. -/
def carrierChangeD (p : DPort) (new : Filter) (h : Hap) : Hap :=
  let d := h.dl p
  let old := d.filter
  let h := h.setD p { d with filter := new }
  if arrived old new then reexamine p h
  else if departed old new && decide (d.state ≠ .down) then downTeardown p .carrier false h
  else h

/-! ### The transmitters (R108, R129, R170) -/

/-- The frame being sent has gone out, and the next waiting one begins (R108). -/
def LinkTx.next (t : LinkTx) : LinkTx := { cur := t.waiting.head?, waiting := t.waiting.tail }

/-- U has sent a frame: a PART RESET's reply begins the reset; otherwise the next frame begins, one of the dump where
none waits. -/
def frameSentU (h : Hap) : Hap :=
  match h.u.tx.cur with
  | none => h
  | some f =>
    match f.resets with
    | some keep => { h with resetDue := some keep }
    | none =>
      let h := { h with u := { h.u with tx := h.u.tx.next, keepalive := restarted h.u.state h.u.keepalive } }
      if h.u.tx.cur.isNone then formDumpFrame h else h

/-- A D port has sent a frame. -/
def frameSentD (p : DPort) (h : Hap) : Hap :=
  let d := h.dl p
  match d.tx.cur with
  | none => h
  | some _ => h.setD p { d with tx := d.tx.next, keepalive := restarted d.state d.keepalive }

end Sys2Proof.Machine
end

