-- ==== Sys2Proof/Machine/Operands.lean ====
section
/-! DEFINITION. The host requests' kinds and payloads: which kinds are requests, which lengths fit them, and the fields
of each (R162 cases 4 and 5, R174). -/

namespace Sys2Proof.Machine

/-- A request with its payload fields as bytes; the owning rules judge their values. -/
inductive Req where
  | hello
  | partReset (keep : Byte)
  | forward (path kind : Byte) (payload : List Byte)
  | slotConfigure (slot policy settle delay limit : Byte)
  | slotPermit (slot value : Byte)
  | slotResume (slot : Byte)
  | slotEject (slot : Byte)
  | slotStatus (slot : Byte)
  | rackConfigure (width timeout : Byte)
  | descWrite (page offset : Byte) (data : List Byte)
  | descRead (copy page offset length : Byte)
  | descCommit (reannounce : Byte)
  | rosterRead (start count : Byte) (expected : Option Word32)
  | rosterSummary
  | budgetSet (budget : Byte)
  | budgetStatus
  | branchStatus
  | linkRestart (port : Byte)
  | rescan
  | eventFetch (maximum : Byte)
  | eventAck (seqs : List Word16)
  | eventSetup (kind setting : Byte)
  deriving DecidableEq, Repr

/-- The kind byte of HELLO (R174). -/
def helloKind : Byte := 0x01

/-- The kind byte of FORWARD (R174). -/
def forwardKind : Byte := 0x03

/-- Whether a kind byte is one of the requests (R162 case 4, R174). -/
def isRequest (kind : Byte) : Bool :=
  [(0x01 : Byte), 0x02, 0x03, 0x10, 0x11, 0x12, 0x13, 0x14, 0x15, 0x20, 0x21, 0x22, 0x30, 0x31, 0x38, 0x39, 0x40, 0x41,
    0x42, 0x50, 0x51, 0x52].contains kind

/-- The request of a kind and payload; none where the length is not one that the kind's layout allows (R162 case 5,
R174). -/
def reqOf (kind : Byte) (payload : List Byte) : Option Req :=
  match kind.toNat, payload with
  | 0x01, [] => some .hello
  | 0x02, [k] => some (.partReset k)
  | 0x03, p :: k :: inner => some (.forward p k inner)
  | 0x10, [s, p, t, d, l] => some (.slotConfigure s p t d l)
  | 0x11, [s, v] => some (.slotPermit s v)
  | 0x12, [s] => some (.slotResume s)
  | 0x13, [s] => some (.slotEject s)
  | 0x14, [s] => some (.slotStatus s)
  | 0x15, [w, t] => some (.rackConfigure w t)
  | 0x20, p :: o :: n :: data => if data.length = n.toNat then some (.descWrite p o data) else none
  | 0x21, [c, p, o, n] => some (.descRead c p o n)
  | 0x22, [r] => some (.descCommit r)
  | 0x30, [i, n] => some (.rosterRead i n none)
  | 0x30, [i, n, a, b, c, d] => some (.rosterRead i n (some (of32 a b c d)))
  | 0x31, [] => some .rosterSummary
  | 0x38, [b] => some (.budgetSet b)
  | 0x39, [] => some .budgetStatus
  | 0x40, [] => some .branchStatus
  | 0x41, [p] => some (.linkRestart p)
  | 0x42, [] => some .rescan
  | 0x50, [m] => some (.eventFetch m)
  | 0x51, n :: rest => if rest.length = 2 * n.toNat then (words16 rest).map Req.eventAck else none
  | 0x52, [k, v] => some (.eventSetup k v)
  | _, _ => none

end Sys2Proof.Machine
end

