-- ==== Sys2Proof/Machine/Requests.lean ====
section
/-! DEFINITION. The execution of each request by its owning rule, at a root for the host and at a branch for its parent
(chapters 1, 2, 4 to 9), with the replies' layouts (R174). -/

namespace Sys2Proof.Machine

/-! ### HELLO, PART RESET and FORWARD (R166, R170, R120, R169) -/

/-- The tag of an origin. -/
def originByte : Origin → Byte
  | .host tag => tag
  | .upstream tag => tag

/-- The HELLO reply's data (R166, R174). -/
def helloData (s : State) : List Byte :=
  let es := sortBy (fun a b : OpEntry => decide (a.op.toNat < b.op.toNat)) s.ops.entries
  [0x4A, 0x56, 0x10, 0x40, Config.hardwareRevision, roleCode s.role, tierByte s.tier, 10, byteOf rosterCapacity,
    byteOf queueSize, byteOf opTableSize, 3, byteOf es.length] ++
    es.flatMap fun e => [e.op, opKindCode e.kind, originByte e.origin]

/-- PART RESET (R170). -/
def reqPartReset (keep : Byte) (h : Hap) : Hap × Answer :=
  match boolOf keep with
  | some k => (h, .resets k)
  | none => (h, .refuse .badArgument 0)

/-- A FORWARD entry is taken and FORWARD REQUEST sent on its hop's port (R120, R121). -/
def relay (o : Origin) (p : DPort) (rest : Path) (kind : Byte) (payload : List Byte) (ms : Nat) (h : Hap) : Hap :=
  sendD p (.forwardRequest h.ops.nextOp (pathByte rest) kind payload)
    { h with ops := h.ops.take .forward o (some p) (some ms) }

/-- The hop timeout, in ms, of a part at a tier (R120, R121). -/
def hopMs (tier : Nat) : Nat := 250 - 50 * tier

/-- FORWARD at the root (R120). -/
def reqForward (o : Origin) (path kind : Byte) (payload : List Byte) (h : Hap) : Hap × Answer :=
  match pathOf path with
  | none => (h, .refuse .badPath 0)
  | some [] => (h, .refuse .badPath 0)
  | some (p :: rest) =>
    if 2 < rest.length then (h, .refuse .badPath 0)
    else if kind = forwardKind then (h, .refuse .badArgument 0)
    else if (h.dl p).state ≠ .up then (h, .refuse .noRoute 0)
    else if !h.ops.free then (h, .refuse .busy 0)
    else (relay o p rest kind payload (hopMs 0) h, .later h.ops.nextOp)

/-! ### Slot requests (R41, R42, R47 to R50) -/

/-- A slot request on the slot it names; a number outside 1 to 10 is refused before anything else (section 2.8). -/
def onSlot (slot : Byte) (f : SlotId → Hap → Hap × Answer) (h : Hap) : Hap × Answer :=
  match slotOf slot with
  | some i => f i h
  | none => (h, .refuse .badArgument 0)

/-- OK with a slot's state. -/
def slotStateAnswer (i : SlotId) (h : Hap) : Hap × Answer := (h, .ok [slotStateCode (h.slot i).state])

/-- SLOT CONFIGURE (R47). -/
def reqSlotConfigure (policy settleTime delay limit : Byte) (i : SlotId) (h : Hap) : Hap × Answer :=
  match policyOf policy with
  | none => (h, .refuse .badArgument 0)
  | some p =>
    if settleTime = 0 then (h, .refuse .badArgument 0)
    else slotStateAnswer i (configureSlot i p settleTime delay limit h)

/-- SLOT PERMIT (R48). -/
def reqSlotPermit (value : Byte) (i : SlotId) (h : Hap) : Hap × Answer :=
  match boolOf value with
  | none => (h, .refuse .badArgument 0)
  | some v => slotStateAnswer i (permitSlot i v h)

/-- SLOT RESUME (R41). -/
def reqSlotResume (i : SlotId) (h : Hap) : Hap × Answer :=
  if (h.slot i).state = .parked then slotStateAnswer i (resumeSlot i h) else (h, .refuse .notPermittedInState 0)

/-- SLOT EJECT (R42, R167). -/
def reqSlotEject (o : Origin) (i : SlotId) (h : Hap) : Hap × Answer :=
  match (h.slot i).state with
  | .enabled | .online =>
    if h.ops.free then
      (ejectSlot i h.ops.nextOp { h with ops := h.ops.take .eject o none none }, .accepted h.ops.nextOp)
    else (h, .refuse .busy 0)
  | .idle | .held | .delaying | .leaving | .announcing | .parked => (h, .refuse .notPermittedInState 0)

/-- The bits byte of SLOT STATUS (R174). -/
def slotBits (s : State) (i : SlotId) : Byte :=
  byteOf ((if (s.slot i).permit then 1 else 0) + (if s.gateOpen i then 2 else 0) + (if s.enLine i then 4 else 0)
    + (if s.pwrLine i then 8 else 0) + (if (s.slot i).ejectRequested then 16 else 0))

/-- The SLOT STATUS reply's data (R49, R174). -/
def slotStatusData (s : State) (i : SlotId) : List Byte :=
  let x := s.slot i
  [slotByte i, slotStateCode x.state, parkReasonCode x.parkReason, policyCode x.policy, x.settle, x.enableDelay,
    x.checkinLimit, filterStateCode (s.filter i).state, slotBits s i] ++ be16 x.lastRead ++ [x.ejectOp] ++
    be16 (word16Of (x.timer.getD 0))

/-- RACK CONFIGURE (R50). -/
def reqRackConfigure (width timeout : Byte) (h : Hap) : Hap × Answer :=
  if width = 0 ∨ 100 < width.toNat ∨ timeout = 0 then (h, .refuse .badArgument 0)
  else ({ h with rack := { pulseWidth := width, ejectTimeout := timeout } }, .ok [width, timeout])

/-! ### Descriptor requests (R76, R77, R79) -/

/-- Whether a write touches a part-written byte (R74, R76). -/
def touchesProtected (page offset n : Nat) : Bool := (page = 0 && offset < 2) || 126 < offset + n

/-- Whether the commit engine is in COPYING. -/
def Desc.copying (d : Desc) : Bool :=
  match d.commit with
  | some c => decide (c.phase = .copying)
  | none => false

/-- DESC WRITE (R76). -/
def reqDescWrite (page offset : Nat) (data : List Byte) (h : Hap) : Hap × Answer :=
  if 7 < page ∨ data.length = 0 ∨ 64 < data.length ∨ 128 < offset + data.length then (h, .refuse .badArgument 0)
  else if touchesProtected page offset data.length then (h, .refuse .protectedBytes 0)
  else if h.desc.copying then (h, .refuse .stagingBusy 0)
  else
    ({ h with desc := { h.desc with staging := h.desc.staging.writeAll (pageAddr page offset) data } }, .ok [])

/-- DESC READ (R77). -/
def reqDescRead (copy page offset n : Nat) (h : Hap) : Hap × Answer :=
  if 1 < copy ∨ 7 < page ∨ n = 0 ∨ 128 < n ∨ 128 < offset + n then (h, .refuse .badArgument 0)
  else if copy = 0 then (h, .ok ([(0 : Byte), 0, 0] ++ h.desc.staging.readAll (pageAddr page offset) n))
  else
    (h, .ok (be16 h.desc.generation ++ [byteOf h.desc.pages] ++ h.desc.liveBank.readAll (pageAddr page offset) n))

/-- DESC COMMIT (R79). -/
def reqDescCommit (o : Origin) (reannounce : Byte) (h : Hap) : Hap × Answer :=
  match boolOf reannounce with
  | none => (h, .refuse .badArgument 0)
  | some flag =>
    if h.desc.commit.isSome then (h, .refuse .busy 0)
    else if 8 < headerPages h.desc.staging then (h, .refuse .badArgument 0)
    else if !h.ops.free then (h, .refuse .busy 0)
    else (beginCommit h.ops.nextOp flag { h with ops := h.ops.take .commit o none none }, .accepted h.ops.nextOp)

/-! ### Roster requests (R23 to R25) -/

/-- The ROSTER READ reply's data (R23, R174). -/
def rosterReadData (r : Roster) (start count : Nat) (matched : Bool) : List Byte :=
  be32 r.generation ++ [byteOf r.entries.length, flagsByte r.flags, boolCode matched] ++
    ((r.entries.drop start).take count).flatMap hostEntryBytes

/-- ROSTER READ (R23, R24). -/
def reqRosterRead (start count : Nat) (expected : Option Word32) (h : Hap) : Hap × Answer :=
  if 5 < count then (h, .refuse .badArgument 0)
  else
    match expected with
    | none => (h, .ok (rosterReadData h.roster start count false))
    | some g =>
      if g = h.roster.generation then (h, .ok (rosterReadData h.roster start count true))
      else (h, .refused .stale (h.roster.generation.extractLsb' 0 16) (be32 h.roster.generation))

/-- The number of entries in a state. -/
def countState (st : EntryState) (es : List Entry) : Nat := es.countP fun e => decide (e.state = st)

/-- The ROSTER SUMMARY reply's data (R25, R174). -/
def rosterSummaryData (r : Roster) : List Byte :=
  [byteOf r.entries.length, byteOf (r.entries.countP Entry.isLocal)] ++ be32 r.generation ++
    [flagsByte r.flags, byteOf (countState .online r.entries), byteOf (countState .returning r.entries),
      byteOf (countState .leaving r.entries), byteOf (countState .conflict r.entries),
      byteOf ((if r.marker1 then 1 else 0) + (if r.marker2 then 2 else 0))]

/-! ### Budget requests (R104, R105) -/

/-- BUDGET SET (R104). -/
def reqBudgetSet (n : Nat) (h : Hap) : Hap × Answer :=
  if 80 < n then (h, .refuse .badArgument 0)
  else if n < grantedSum h.roster.entries then
    (h, .refuse .budgetBelowGranted (word16Of (grantedSum h.roster.entries)))
  else
    let h := budgetSet n h
    (h, .ok [byteOf n, byteOf (grantedSum h.roster.entries)])

/-- One place of the waiting or the granted list (R105, R174). -/
def placeBytes (s : State) (i : SlotId) : List Byte :=
  match s.localEntry i with
  | some e => [slotByte i, byteOf e.draw.val, byteOf (drawUnits e.draw)]
  | none => [slotByte i, 0, 0]

/-- The slots whose local entries are GRANTED, in slot order. -/
def State.grantedSlots (s : State) : List SlotId := allSlots.filter fun i => decide (s.slotGrant i = .granted)

/-- The BUDGET STATUS reply's data (R105, R174). -/
def budgetStatusData (s : State) : List Byte :=
  [byteOf s.budget.units, byteOf (grantedSum s.roster.entries), boolCode s.blocked, byteOf s.budget.waiting.length] ++
    s.budget.waiting.flatMap (placeBytes s) ++ [byteOf s.grantedSlots.length] ++ s.grantedSlots.flatMap (placeBytes s)

/-! ### Branch requests (R118, R119, R138) -/

/-- What BRANCH STATUS shows of a D port (R118, R174). -/
def portData (s : State) (p : DPort) : List Byte :=
  linkStateCode (s.dl p).state ::
    (match (s.dl p).child with
      | some c =>
        [(1 : Byte)] ++ be32 c.rackId ++ be16 c.rackClass ++
          [c.revision, byteOf c.tier,
            (match c.reported with
              | some f => flagsByte f
              | none => 0xFF)]
      | none => [0, 0, 0, 0, 0, 0, 0, 0, 0, 0xFF]) ++ [boolCode (s.roster.marker p)]

/-- The BRANCH STATUS reply's data (R118, R174). -/
def branchStatusData (s : State) : List Byte :=
  [roleCode s.role, linkStateCode s.u.state, tierByte s.tier, pathByte s.ownPath] ++ portData s .d1 ++ portData s .d2

/-- LINK RESTART (R119). -/
def reqLinkRestart (port : Byte) (h : Hap) : Hap × Answer :=
  match dportOf port with
  | none => (h, .refuse .badArgument 0)
  | some p =>
    let h := linkRestart p h
    (h, .ok [linkStateCode (h.dl p).state])

/-- RESCAN (R138). -/
def reqRescan (o : Origin) (h : Hap) : Hap × Answer :=
  if h.rescan.isSome || !h.ops.free then (h, .refuse .busy 0)
  else (beginRescan h.ops.nextOp { h with ops := h.ops.take .rescan o none none }, .accepted h.ops.nextOp)

/-! ### Event requests (R147 to R149) -/

/-- The EVENT FETCH reply's data (R147, R174). -/
def eventFetchData (ev : EventUnit) (maximum : Nat) : List Byte :=
  let rs := (deliveryOrder ev.queue).take maximum
  [byteOf ev.queue.length, byteOf ev.lost, byteOf rs.length] ++ rs.flatMap evRecordBytes

/-- EVENT FETCH (R147). -/
def reqEventFetch (maximum : Nat) (h : Hap) : Hap × Answer :=
  if maximum = 0 ∨ 12 < maximum then (h, .refuse .badArgument 0)
  else (fetchEffect h, .ok (eventFetchData h.ev maximum))

/-- The number of records that an EVENT ACK removes. -/
def EventUnit.ackCount (ev : EventUnit) (seqs : List Word16) : Nat := ev.queue.countP fun r => seqs.contains r.seq

/-- EVENT ACK (R148); the number then pending is reckoned after the new records are queued (log 28). -/
def reqEventAck (seqs : List Word16) (h : Hap) : Hap × Answer :=
  if 16 < seqs.length then (h, .refuse .badArgument 0)
  else
    let n := h.ev.ackCount seqs
    let h := ackEffect seqs h
    (h, .ok [byteOf n, byteOf h.ev.queue.length])

/-- A setting of the kind table by its byte: a priority 0 to 3, or 0xFF for OFF (R149, R172). -/
def settingOf (b : Byte) : Option (Option (Fin 4)) :=
  if b = 0xFF then some none
  else if h : b.toNat < 4 then some (some ⟨b.toNat, h⟩)
  else none

/-- EVENT SETUP (R149). -/
def reqEventSetup (kind setting : Byte) (h : Hap) : Hap × Answer :=
  match evKindOf kind, settingOf setting with
  | some k, some v => (setupEffect k v h, .ok [kind, setting])
  | _, _ => (h, .refuse .badArgument 0)

/-! ### Dispatch (R122, R162) -/

/-- Whether a request comes down U as an inner request. -/
def Origin.inner : Origin → Bool
  | .upstream _ => true
  | .host _ => false

/-- An inner FORWARD: a malformed path byte is refused with this part's tier (R163, R172), and any other FORWARD
BAD_ARGUMENT (R122). -/
def innerForward (path : Byte) (h : Hap) : Hap × Answer :=
  match pathOf path with
  | none => (h, .refuse .badPath (word16Of h.ownTier))
  | some _ => (h, .refuse .badArgument 0)

/-- The owning rule of each request (R162 case 6), with the two exceptions at a branch (R122). -/
def execute (o : Origin) (r : Req) (h : Hap) : Hap × Answer :=
  match r with
  | .hello => (h, .ok (helloData h.toState))
  | .partReset keep => reqPartReset keep h
  | .forward path kind payload => if o.inner then innerForward path h else reqForward o path kind payload h
  | .slotConfigure slot policy settleTime delay limit => onSlot slot (reqSlotConfigure policy settleTime delay limit) h
  | .slotPermit slot value => onSlot slot (reqSlotPermit value) h
  | .slotResume slot => onSlot slot reqSlotResume h
  | .slotEject slot => onSlot slot (reqSlotEject o) h
  | .slotStatus slot => onSlot slot (fun i h => (h, .ok (slotStatusData h.toState i))) h
  | .rackConfigure width timeout => reqRackConfigure width timeout h
  | .descWrite page offset data => reqDescWrite page.toNat offset.toNat data h
  | .descRead copy page offset n => reqDescRead copy.toNat page.toNat offset.toNat n.toNat h
  | .descCommit reannounce => reqDescCommit o reannounce h
  | .rosterRead start count expected => reqRosterRead start.toNat count.toNat expected h
  | .rosterSummary => (h, .ok (rosterSummaryData h.roster))
  | .budgetSet n => reqBudgetSet n.toNat h
  | .budgetStatus => (h, .ok (budgetStatusData h.toState))
  | .branchStatus => (h, .ok (branchStatusData h.toState))
  | .linkRestart port => reqLinkRestart port h
  | .rescan => reqRescan o h
  | .eventFetch maximum => if o.inner then (h, .refuse .notAtBranch 0) else reqEventFetch maximum.toNat h
  | .eventAck seqs => if o.inner then (h, .refuse .notAtBranch 0) else reqEventAck seqs h
  | .eventSetup kind setting => reqEventSetup kind setting h

/-- A request is judged by its kind, then by its length, and then by its owning rule (R162 cases 4 to 6, R122, log 22). -/
def judge (o : Origin) (kind : Byte) (payload : List Byte) (h : Hap) : Hap × Answer :=
  if !isRequest kind then (h, .refuse .unknownKind (detailOf kind))
  else
    match reqOf kind payload with
    | none => (h, .refuse .badLength (word16Of payload.length))
    | some r => execute o r h

end Sys2Proof.Machine
end

