-- ==== Sys2Proof/Machine/LinkIn.lean ====
section
/-! DEFINITION. What reaches a port: FORWARD REQUEST at a branch (R121, R122), each link message by the state of its
port (R108), and single bytes. -/

namespace Sys2Proof.Machine

/-- A reply a branch makes to a FORWARD REQUEST goes up U (R121, R122). -/
def answerUp (tag : Byte) (a : Answer) (h : Hap) : Hap :=
  match a.reply with
  | some (kind, payload) => sendUMarked (.forwardReply tag kind payload) a.mark h
  | none => h

/-- A relay refusal carries this part's tier (R121). -/
def relayRefusal (tag : Byte) (code : RefCode) (h : Hap) : Hap :=
  answerUp tag (.refuse code (word16Of h.ownTier)) h

/-- An inner request is executed here (R122). The replies of others that its execution passes up stand before its own
(DESIGN CHOICE, log 41). -/
def executeInner (tag kind : Byte) (payload : List Byte) (h : Hap) : Hap :=
  answerUp tag (judge (.upstream tag) kind payload h).2 (judge (.upstream tag) kind payload h).1

/-- A FORWARD REQUEST on U in SYNCING or UP (R121). DESIGN CHOICE (log 38): one with tag 0, which no part sends (R120,
R167), is taken like any other, its origin holding tag 0. -/
def takeForwardRequest (tag path kind : Byte) (payload : List Byte) (h : Hap) : Hap :=
  match pathOf path with
  | none => relayRefusal tag .badPath h
  | some [] => executeInner tag kind payload h
  | some (p :: rest) =>
    if 3 < rest.length + 1 + h.ownTier then relayRefusal tag .badPath h
    else if (h.dl p).state ≠ .up then relayRefusal tag .noRoute h
    else if !h.ops.free then relayRefusal tag .busy h
    else relay (.upstream tag) p rest kind payload (hopMs h.ownTier) h

/-- A good frame restarts the loss timer of U in SYNCING and UP (R108). -/
def heardU (h : Hap) : Hap := if h.u.state.active then { h with u := { h.u with loss := some lossMs } } else h

/-- A good frame restarts the loss timer of a D port in SYNCING and UP (R108). -/
def heardD (p : DPort) (h : Hap) : Hap :=
  if (h.dl p).state.active then h.setD p { h.dl p with loss := some lossMs } else h

/-- A message that U takes in SYNCING and UP; those that travel upward are discarded (R108). -/
def takeActiveU (m : LinkMsg) (h : Hap) : Hap :=
  match m with
  | .probe tier path => takeProbe tier path h
  | .syncAck => takeSyncAck h
  | .deltaAck seq => takeDeltaAck seq h
  | .resync => takeResync h
  | .eventAck item seq => takeEventAck item seq h
  | .forwardRequest tag path kind payload => takeForwardRequest tag path kind payload h
  | .linkReset => takeLinkReset h
  | .keepalive | .probeReply .. | .syncBegin .. | .syncEntry .. | .syncEnd .. | .delta .. | .eventUp .. | .conditionClear ..
  | .info .. | .forwardReply .. => h

/-- A message that U takes in DOWN: PROBE alone has an effect (R110, R116, R121). -/
def takeDownU (m : LinkMsg) (h : Hap) : Hap :=
  match m with
  | .probe tier path => takeProbe tier path h
  | .syncAck | .deltaAck _ | .resync | .eventAck .. | .forwardRequest .. | .linkReset | .keepalive | .probeReply ..
  | .syncBegin .. | .syncEntry .. | .syncEnd .. | .delta .. | .eventUp .. | .conditionClear .. | .info ..
  | .forwardReply .. => h

/-- A good frame on U; a root ignores it. -/
def linkInU (m : LinkMsg) (h : Hap) : Hap :=
  match h.role with
  | .root => h
  | .branch => if h.u.state.active then takeActiveU m (heardU h) else takeDownU m h

/-- A message that a D port takes in SYNCING and UP; those that travel downward, and a PROBE REPLY, are discarded (R108,
R112). -/
def takeActiveD (p : DPort) (m : LinkMsg) (h : Hap) : Hap :=
  match m with
  | .syncBegin count cause => takeSyncBegin p count.toNat cause h
  | .syncEntry ordinal body => takeSyncEntry p ordinal.toNat body h
  | .syncEnd count flags => takeSyncEnd p count.toNat flags h
  | .delta seq body => takeDelta p seq body h
  | .eventUp e => takeEventUp p e h
  | .conditionClear kind locus seq => takeConditionClear p kind locus seq h
  | .info rackId rackClass => takeInfo p rackId rackClass h
  | .forwardReply tag kind payload => takeForwardReply p tag kind payload h
  | .keepalive | .probeReply .. | .probe .. | .syncAck | .deltaAck _ | .resync | .eventAck .. | .forwardRequest ..
  | .linkReset => h

/-- A message that a D port takes in PROBING: PROBE REPLY alone (R109, R112). -/
def takeProbingD (p : DPort) (m : LinkMsg) (h : Hap) : Hap :=
  match m with
  | .probeReply rackId rackClass revision => takeProbeReply p rackId rackClass revision h
  | .syncBegin .. | .syncEntry .. | .syncEnd .. | .delta .. | .eventUp .. | .conditionClear .. | .info ..
  | .forwardReply .. | .keepalive | .probe .. | .syncAck | .deltaAck _ | .resync | .eventAck .. | .forwardRequest ..
  | .linkReset => h

/-- A good frame on a D port. -/
def linkInD (p : DPort) (m : LinkMsg) (h : Hap) : Hap :=
  match (h.dl p).state with
  | .syncing | .up => takeActiveD p m (heardD p h)
  | .probing => takeProbingD p m h
  | .down | .refused => h

/-- A good frame on a port. -/
def linkIn (port : Port) (m : LinkMsg) (h : Hap) : Hap :=
  match port with
  | .u => linkInU m h
  | .d p => linkInD p m h

/-- Storing a port's receiver. -/
def setRx (port : Port) (rx : Rx) (h : Hap) : Hap :=
  match port with
  | .u => { h with u := { h.u with rx := rx } }
  | .d p => h.setD p { h.dl p with rx := rx }

/-- The receiver of a port. -/
def State.portRx (s : State) : Port → Rx
  | .u => s.u.rx
  | .d p => (s.dl p).rx

/-- The link message of a complete frame, where it is a good frame (R108). -/
def RxFrame.linkMsg (f : RxFrame) : Option LinkMsg := if f.good then linkMsgOf f.kind f.tag f.payload else none

/-- A byte reaches a port's receiver (R108). -/
def linkByteIn (port : Port) (b : Byte) (h : Hap) : Hap :=
  let out := (h.portRx port).take b
  let h := setRx port out.rx h
  match out.done.bind RxFrame.linkMsg with
  | some m => linkIn port m h
  | none => h

/-- The gap timer of a port's receiver runs out (R108). -/
def linkGapExpired (port : Port) (h : Hap) : Hap := setRx port (h.portRx port).gapExpired h

/-- A port has sent a frame (R108). -/
def linkFrameOut (port : Port) (h : Hap) : Hap :=
  match port with
  | .u => frameSentU h
  | .d p => frameSentD p h

end Sys2Proof.Machine
end

