-- ==== Sys2Proof/Machine/HostIn.lean ====
section
/-! DEFINITION. What reaches the host link: bytes, the request buffer, the taking of requests, and the repeat memory
(chapter 9, R158 to R165, R170). -/

namespace Sys2Proof.Machine

/-- The rate that the RATE straps select, in baud (R157). -/
def Rate.baud (r : Rate) : Nat :=
  match r.first, r.second with
  | false, false => 115200
  | false, true => 230400
  | true, false => 460800
  | true, true => 921600

/-- The rate at which the host link runs its UART, in baud: by the straps as sampled at the last hardware reset (R157,
R171). -/
def State.lineRate (s : State) : Nat := Rate.baud s.rate

/-- The number of frames the request buffer holds (R160). -/
def bufferSize : Nat := 4

/-- The number of OVERRUN refusals that wait at most (R160, R161). -/
def overrunSize : Nat := 4

/-- A reply to a taken request waits in the send list (R161, R162). -/
def HostLink.replyWaits (l : HostLink) : Bool := l.sendList.any fun x => decide (x.sort = .reply)

/-- A PART RESET has been taken whose reset is still to begin (R162, R170). -/
def State.resetPending (s : State) : Bool :=
  s.host.cur.any (fun x => x.resets.isSome) || s.host.sendList.any (fun x => x.resets.isSome) ||
    s.u.tx.cur.any (fun x => x.resets.isSome) || s.u.tx.waiting.any (fun x => x.resets.isSome)

/-- A reply to a taken request is handed to the send list (R161). -/
def handReply (f : HostFrame) (resets : Option Bool) (h : Hap) : Hap :=
  handHost { sort := .reply, frame := f, resets := resets } h

/-- Whether the repeat memory's record matches a frame (R164). -/
def RepeatRec.describes (m : RepeatRec) (f : HostFrame) : Bool :=
  decide (m.tag = f.tag) && decide (m.kind = f.kind) && decide (m.crc = frameCrc f.kind f.tag f.payload)

/-- The record of a handled frame with its reply (R164). -/
def recordOf (f : HostFrame) (r : MemReply) : RepeatRec :=
  { tag := f.tag, kind := f.kind, crc := frameCrc f.kind f.tag f.payload, reply := r }

/-- The repeat memory takes a new record (R164). -/
def remember (f : HostFrame) (r : MemReply) (h : Hap) : Hap :=
  { h with host := { h.host with memory := some (recordOf f r) } }

/-- An answer is remembered, and its reply handed to the send list (R162, R164, R169). -/
def answerHost (f : HostFrame) (a : Answer) (h : Hap) : Hap :=
  match a.reply with
  | some (kind, payload) =>
    let r := replyFrame f.tag kind payload
    handReply r a.mark (remember f (.frame r) h)
  | none =>
    match a with
    | .later op => remember f (.pending op) h
    | .ok _ | .accepted _ | .refused .. | .resets _ => h

/-- Cases 3 to 6 of R162. -/
def judgeHost (f : HostFrame) (h : Hap) : Hap × Answer :=
  if decide (h.role = .branch) && decide (f.kind ≠ helloKind) then (h, .refuse .notRoot 1)
  else judge (.host f.tag) f.kind f.payload h

/-- A taken frame is executed, remembered and answered (R162 cases 3 to 6). The late replies that its execution hands on
stand before its own reply (DESIGN CHOICE, log 41). -/
def executeHost (f : HostFrame) (h : Hap) : Hap := answerHost f (judgeHost f h).2 (judgeHost f h).1

/-- The payload of a refusal. -/
def refusalPayload (code : RefCode) (detail : Word16) : List Byte := refCode code :: be16 detail

/-- A frame is handled in its taking (R162). -/
def handleFrame (f : HostFrame) (h : Hap) : Hap :=
  if f.tag = 0 then handReply (replyFrame 0 .refused (refusalPayload .badTag 0)) none h
  else
    match h.host.memory with
    | none => executeHost f h
    | some m =>
      if m.describes f then
        match m.reply with
        | .frame r => handReply r none h
        | .pending _ => h
      else executeHost f h

/-- The host link takes requests while it may (R162); `n` bounds the takings by the frames buffered. -/
def takeRequests : Nat → Hap → Hap
  | 0, h => h
  | n + 1, h =>
    if h.host.replyWaits || h.resetPending then h
    else
      match h.host.buffer with
      | [] => h
      | f :: rest => takeRequests n (handleFrame f { h with host := { h.host with buffer := rest } })

/-- The host link takes what it may of the request buffer. -/
def takeBuffered (h : Hap) : Hap := takeRequests h.host.buffer.length h

/-- The locus and detail of HOST_FRAME_ERROR: its cause in the upper byte and the tag in the lower (R159, R160). -/
def frameError (cause tag : Byte) (h : Hap) : Hap := raiseLatched .hostFrameError rackLocus (of16 cause tag) h

/-- A good frame completes while the buffer is full (R160). -/
def overrun (f : HostFrame) (h : Hap) : Hap :=
  if h.host.waitingOf .overrun < overrunSize then
    handHost { sort := .overrun, frame := replyFrame f.tag .refused (refusalPayload .overrun 0), resets := none } h
  else frameError 2 f.tag h

/-- A good host frame completes (R160), and is taken in the same happening where the host link may (R162). -/
def hostFrameIn (f : HostFrame) (h : Hap) : Hap :=
  if h.host.buffer.length < bufferSize then
    takeBuffered { h with host := { h.host with buffer := h.host.buffer ++ [f] } }
  else overrun f h

/-- A complete host frame is judged by its CRC (R159). -/
def judgeFrame (f : RxFrame) (h : Hap) : Hap :=
  if f.good then hostFrameIn { kind := f.kind, tag := f.tag, payload := f.payload } h else frameError 1 f.tag h

/-- A byte from the host's UART reaches the receiver (R157, R158). -/
def hostByteIn (b : Byte) (h : Hap) : Hap :=
  let out := h.host.rx.take b
  let h := { h with host := { h.host with rx := out.rx } }
  match out.done with
  | some f => judgeFrame f h
  | none => h

/-- The gap timer of the host receiver runs out (R158). -/
def hostGapExpired (h : Hap) : Hap := { h with host := { h.host with rx := h.host.rx.gapExpired } }

/-- The host transmitter has sent a frame (R161): the reply to a PART RESET begins the reset (R170); otherwise the next
frame begins and a request may be taken. -/
def hostFrameOut (h : Hap) : Hap :=
  match h.host.cur with
  | none => h
  | some x =>
    match x.resets with
    | some keep => { h with resetDue := some keep }
    | none =>
      takeBuffered { h with host := { h.host with cur := h.host.sendList.head?, sendList := h.host.sendList.tail } }

end Sys2Proof.Machine
end

