-- ==== Sys2Proof/Machine/Closing.lean ====
section
/-! DEFINITION. The two resets, the end of a happening, and the passing of a millisecond. -/

namespace Sys2Proof.Machine

/-! ### Resets (R26, R51, R52, R70, R91, R92, R106, R125, R139, R156, R170, R171) -/

/-- A filter after a reset acts afresh on the level of its raw line, with a settle time of 20 ms (R51, R52). -/
def Filter.afresh (f : Filter) : Filter := Filter.reset.level 20 f.raw

/-- The part after a reset that leaves it this role, rate and descriptor store: raw lines keep their levels and the
commands that wait go on waiting; all else is as after hardware reset. -/
def resetTo (role : Role) (rate : Rate) (desc : Desc) (s : State) : State :=
  { State.reset with
    role := role, rate := rate, desc := desc, filters := s.filters.map Filter.afresh,
    u := { ULink.reset with filter := s.u.filter.afresh }, d1 := { DLink.reset with filter := s.d1.filter.afresh },
    d2 := { DLink.reset with filter := s.d2.filter.afresh }, pending := s.pending }

/-- The descriptor store that KEEP_DESCRIPTOR keeps: staging, the live pointer and the live bank (R92). -/
def Desc.kept (d : Desc) : Desc := { d.setBank d.live.other [] with commit := none }

/-- The soft reset (R170). -/
def softReset (keep : Bool) (s : State) : State :=
  resetTo s.role s.rate (if keep then s.desc.kept else Desc.reset) s

/-- The hardware reset, with the straps as sampled (R157). -/
def hardReset (role : Role) (rate : Rate) (s : State) : State := resetTo role rate Desc.reset s

/-! ### The end of a happening (log 8) -/

/-- The ATTENTION frame (R161, R174). -/
def attentionFrame (count : Nat) (top : Fin 4) : HostFrame :=
  { kind := attentionKind, tag := 0, payload := [byteOf count, byteOf top.val] }

/-- A priority above the announced priority, NONE standing below 0 (R150). -/
def aboveAnnounced (announced : Option (Fin 4)) (p : Fin 4) : Bool :=
  match announced with
  | none => true
  | some q => decide (q < p)

/-- ATTENTION is handed on where records have entered a root's queue (R150). -/
def attend (h : Hap) : Hap :=
  match h.role, topPriority h.entered, topPriority (h.ev.queue.map EvRecord.priority) with
  | .root, some p, some top =>
    if h.wasEmpty || aboveAnnounced h.ev.announced p then
      handHost { sort := .attention, frame := attentionFrame h.ev.queue.length top, resets := none }
        { h with ev := { h.ev with announced := some top } }
    else h
  | _, _, _ => h

/-- The work that the rules leave to the end of a happening, in the order of log 8: settling (R96), overflow recovery
(R137), completeness (R21), the generation (R20), the hand-over upward (R126, R133), the drain (R151) and ATTENTION
(R150). -/
def closing (h : Hap) : Hap :=
  attend (drainIfDue (sendDeltasIfDue (handUpward (advanceGeneration (recomputeFlags (overflowRecovery (settleIfDue h)))))))

/-- The state a happening leaves; where a soft reset begins in it, that of the reset (log 18). -/
def finish (h : Hap) : State :=
  match h.resetDue with
  | some keep => softReset keep h.toState
  | none => (closing h).toState

/-- A happening, whole: its own step, and the end of the happening. -/
def happen (f : Hap → Hap) (s : State) : Host.Outcome State Fault Refusal := .next (finish (f (Hap.start s)))

/-! ### A millisecond passes (log 5) -/

/-- A running timer falls by one, and stays at 0 until its expiry is taken. -/
def tickTimer (t : Timer) : Timer := t.map fun n => n - 1

/-- A filter's timer. -/
def Filter.tick (f : Filter) : Filter := { f with timer := tickTimer f.timer }

/-- A slot's timer. -/
def Slot.tick (x : Slot) : Slot := { x with timer := tickTimer x.timer }

/-- A target's timer. -/
def Target.tick (t : Target) : Target := { t with stall := tickTimer t.stall }

/-- A receiver's timer. -/
def Rx.tick (r : Rx) : Rx := { r with gap := tickTimer r.gap }

/-- The timers of U. -/
def ULink.tick (u : ULink) : ULink :=
  { u with filter := u.filter.tick, rx := u.rx.tick, keepalive := tickTimer u.keepalive, loss := tickTimer u.loss,
           ackTimer := tickTimer u.ackTimer, retransmit := tickTimer u.retransmit }

/-- The timers of a D port. -/
def DLink.tick (d : DLink) : DLink :=
  { d with filter := d.filter.tick, rx := d.rx.tick, probe := tickTimer d.probe, keepalive := tickTimer d.keepalive,
           loss := tickTimer d.loss, syncTimer := tickTimer d.syncTimer }

/-- An operation's hop timer. -/
def OpEntry.tick (e : OpEntry) : OpEntry := { e with hopTimer := tickTimer e.hopTimer }

/-- The copying timer. -/
def Commit.tick (c : Commit) : Commit := { c with timer := tickTimer c.timer }

/-- One millisecond passes: every running timer falls by one. -/
def tick (s : State) : State :=
  { s with
    filters := s.filters.map Filter.tick, slots := s.slots.map Slot.tick, targets := s.targets.map Target.tick,
    desc := { s.desc with commit := s.desc.commit.map Commit.tick },
    ops := { s.ops with entries := s.ops.entries.map OpEntry.tick },
    host := { s.host with rx := s.host.rx.tick }, u := s.u.tick, d1 := s.d1.tick, d2 := s.d2.tick,
    ev := { s.ev with retransmit := tickTimer s.ev.retransmit } }

end Sys2Proof.Machine
end

