-- ==== Sys2Proof/Machine/HostRequests.lean ====
section
/-! DEFINITION. The meanings of the host link commands (chapter 9): bytes, its gap timer, frames sent, and a good frame
of each request (log 6). -/

namespace Sys2Proof.Machine

/-- HOST_BYTE_RECEIVED (R157 to R160). -/
def execHostByteReceived (b : Byte) (s : State) : Host.Outcome State Fault Refusal := happen (hostByteIn b) s

/-- HOST_GAP_TIMER_EXPIRY (R158). -/
def execHostGapTimerExpiry (s : State) : Host.Outcome State Fault Refusal := happen hostGapExpired s

/-- HOST_FRAME_SENT (R161, R162, R170). -/
def execHostFrameSent (s : State) : Host.Outcome State Fault Refusal := happen hostFrameOut s

/-- A good frame of a kind completes (R160, R162). -/
def hostRow (kind tag : Byte) (payload : List Byte) (s : State) : Host.Outcome State Fault Refusal :=
  happen (hostFrameIn { kind := kind, tag := tag, payload := payload }) s

/-- A good frame whose payload a command gives: no frame carries more than 200 bytes (R157, log 26). -/
def sizedHostRow (kind tag : Byte) (payload : List Byte) (s : State) : Host.Outcome State Fault Refusal :=
  if maxPayload < payload.length then .refused .oversizeFrame else hostRow kind tag payload s

/-- REQUEST_UNKNOWN_KIND (R162 case 4), or a frame of a length its kind's layout does not allow (case 5, log 6). -/
def execRequestUnknownKind (kind tag : Byte) (payload : List Byte) (s : State) : Host.Outcome State Fault Refusal :=
  sizedHostRow kind tag payload s

/-- FORWARD (R120, R169). -/
def execForward (tag path kind : Byte) (payload : List Byte) (s : State) : Host.Outcome State Fault Refusal :=
  sizedHostRow 0x03 tag (path :: kind :: payload) s

/-- DESC_WRITE (R76). -/
def execDescWrite (tag page offset length : Byte) (data : List Byte) (s : State) : Host.Outcome State Fault Refusal :=
  sizedHostRow 0x20 tag (page :: offset :: length :: data) s

/-- ROSTER_READ (R23, R24). -/
def execRosterRead (tag start count : Byte) (expected : Option Word32) (s : State) : Host.Outcome State Fault Refusal :=
  match expected with
  | none => hostRow 0x30 tag [start, count] s
  | some g => hostRow 0x30 tag (start :: count :: be32 g) s

/-- EVENT_ACK (R148). -/
def execEventAck (tag count : Byte) (seqs : List Word16) (s : State) : Host.Outcome State Fault Refusal :=
  sizedHostRow 0x51 tag (count :: seqs.flatMap be16) s

/-- HELLO (R166). -/
def execHello (tag : Byte) (s : State) : Host.Outcome State Fault Refusal := hostRow 0x01 tag [] s

/-- PART_RESET (R170). -/
def execPartReset (tag keep : Byte) (s : State) : Host.Outcome State Fault Refusal := hostRow 0x02 tag [keep] s

/-- SLOT_CONFIGURE (R47). -/
def execSlotConfigure (tag slot policy settle delay limit : Byte) (s : State) : Host.Outcome State Fault Refusal :=
  hostRow 0x10 tag [slot, policy, settle, delay, limit] s

/-- SLOT_PERMIT (R48). -/
def execSlotPermit (tag slot value : Byte) (s : State) : Host.Outcome State Fault Refusal :=
  hostRow 0x11 tag [slot, value] s

/-- SLOT_RESUME (R41). -/
def execSlotResume (tag slot : Byte) (s : State) : Host.Outcome State Fault Refusal := hostRow 0x12 tag [slot] s

/-- SLOT_EJECT (R42). -/
def execSlotEject (tag slot : Byte) (s : State) : Host.Outcome State Fault Refusal := hostRow 0x13 tag [slot] s

/-- SLOT_STATUS (R49). -/
def execSlotStatus (tag slot : Byte) (s : State) : Host.Outcome State Fault Refusal := hostRow 0x14 tag [slot] s

/-- RACK_CONFIGURE (R50). -/
def execRackConfigure (tag width timeout : Byte) (s : State) : Host.Outcome State Fault Refusal :=
  hostRow 0x15 tag [width, timeout] s

/-- DESC_READ (R77). -/
def execDescRead (tag copy page offset length : Byte) (s : State) : Host.Outcome State Fault Refusal :=
  hostRow 0x21 tag [copy, page, offset, length] s

/-- DESC_COMMIT (R79). -/
def execDescCommit (tag reannounce : Byte) (s : State) : Host.Outcome State Fault Refusal :=
  hostRow 0x22 tag [reannounce] s

/-- ROSTER_SUMMARY (R25). -/
def execRosterSummary (tag : Byte) (s : State) : Host.Outcome State Fault Refusal := hostRow 0x31 tag [] s

/-- BUDGET_SET (R104). -/
def execBudgetSet (tag budget : Byte) (s : State) : Host.Outcome State Fault Refusal := hostRow 0x38 tag [budget] s

/-- BUDGET_STATUS (R105). -/
def execBudgetStatus (tag : Byte) (s : State) : Host.Outcome State Fault Refusal := hostRow 0x39 tag [] s

/-- BRANCH_STATUS (R118). -/
def execBranchStatus (tag : Byte) (s : State) : Host.Outcome State Fault Refusal := hostRow 0x40 tag [] s

/-- LINK_RESTART (R119). -/
def execLinkRestart (tag port : Byte) (s : State) : Host.Outcome State Fault Refusal := hostRow 0x41 tag [port] s

/-- RESCAN (R138). -/
def execRescan (tag : Byte) (s : State) : Host.Outcome State Fault Refusal := hostRow 0x42 tag [] s

/-- EVENT_FETCH (R147). -/
def execEventFetch (tag maximum : Byte) (s : State) : Host.Outcome State Fault Refusal :=
  hostRow 0x50 tag [maximum] s

/-- EVENT_SETUP (R149). -/
def execEventSetup (tag kind setting : Byte) (s : State) : Host.Outcome State Fault Refusal :=
  hostRow 0x52 tag [kind, setting] s

end Sys2Proof.Machine
end

