-- ==== Sys2Proof/Machine/Lines.lean ====
section
/-! DEFINITION. The meanings of the commands on the lines, on the slot timers and on the commit engine's timer
(chapters 2 and 4). Each expiry acts where its timer is running and has no effect otherwise (log 4). -/

namespace Sys2Proof.Machine

/-- HARDWARE_RESET (R51, R52, R70, R91, R106, R125, R139, R156, R157, R171). -/
def execHardwareReset (role : Role) (rate : Rate) (s : State) : Host.Outcome State Fault Refusal :=
  .next (hardReset role rate s)

/-- A line's level changes (R27). -/
def lineLevel (line : Line) (level : Bool) (h : Hap) : Hap :=
  match line with
  | .slot i => slotFilterChange i ((h.filter i).level (h.slot i).settle.toNat level) h
  | .carrier .u => carrierChangeU (h.u.filter.level portSettle level) h
  | .carrier (.d p) => carrierChangeD p ((h.dl p).filter.level portSettle level) h

/-- PRESENCE_INPUT_CHANGE (R27, R28). -/
def execPresenceInputChange (line : Line) (level : Bool) (s : State) : Host.Outcome State Fault Refusal :=
  happen (lineLevel line level) s

/-- A settle timer runs out (R27). -/
def lineSettled (line : Line) (h : Hap) : Hap :=
  match line with
  | .slot i => slotFilterChange i (h.filter i).expired h
  | .carrier .u => carrierChangeU h.u.filter.expired h
  | .carrier (.d p) => carrierChangeD p (h.dl p).filter.expired h

/-- SETTLE_TIMER_EXPIRY (R27, R28). -/
def execSettleTimerExpiry (line : Line) (s : State) : Host.Outcome State Fault Refusal := happen (lineSettled line) s

/-- ENABLE_DELAY_EXPIRY (R34). -/
def execEnableDelayExpiry (slot : SlotId) (s : State) : Host.Outcome State Fault Refusal := happen (delayExpired slot) s

/-- CHECKIN_LIMIT_EXPIRY (R38). -/
def execCheckinLimitExpiry (slot : SlotId) (s : State) : Host.Outcome State Fault Refusal := happen (limitExpired slot) s

/-- EJECT_TIMER_EXPIRY (R43). -/
def execEjectTimerExpiry (slot : SlotId) (s : State) : Host.Outcome State Fault Refusal := happen (ejectExpired slot) s

/-- PULSE_TIMER_EXPIRY (R45). -/
def execPulseTimerExpiry (slot : SlotId) (s : State) : Host.Outcome State Fault Refusal := happen (pulseExpired slot) s

/-- COPYING_TIMER_EXPIRY (R85). -/
def execCopyingTimerExpiry (s : State) : Host.Outcome State Fault Refusal := happen copyingExpired s

end Sys2Proof.Machine
end

