-- ==== Sys2Proof/Machine/LinkMessages.lean ====
section
/-! DEFINITION. The meanings of the expansion link commands (chapters 6 to 8): bytes, gap timers and frames sent, and a
good frame of each link message on a port (log 7). -/

namespace Sys2Proof.Machine

/-- LINK_BYTE_RECEIVED (R108). -/
def execLinkByteReceived (port : Port) (b : Byte) (s : State) : Host.Outcome State Fault Refusal :=
  happen (linkByteIn port b) s

/-- LINK_GAP_TIMER_EXPIRY (R108). -/
def execLinkGapTimerExpiry (port : Port) (s : State) : Host.Outcome State Fault Refusal := happen (linkGapExpired port) s

/-- LINK_FRAME_SENT (R108, R129, R170). -/
def execLinkFrameSent (port : Port) (s : State) : Host.Outcome State Fault Refusal := happen (linkFrameOut port) s

/-- A good frame is received on a port (R108). -/
def linkRow (port : Port) (m : LinkMsg) (s : State) : Host.Outcome State Fault Refusal := happen (linkIn port m) s

/-- A good frame whose length a command gives: no frame carries more than 200 bytes (R108, log 26). -/
def sizedLinkRow (port : Port) (m : LinkMsg) (s : State) : Host.Outcome State Fault Refusal :=
  if maxPayload < (linkPayload m).length then .refused .oversizeFrame else linkRow port m s

/-- PROBE (R110). -/
def execProbe (port : Port) (tier : Byte) (path : Path) (s : State) : Host.Outcome State Fault Refusal :=
  linkRow port (.probe tier path) s

/-- PROBE_REPLY (R112). -/
def execProbeReply (port : Port) (rackId : Word32) (rackClass : Word16) (revision : Byte)
    (s : State) : Host.Outcome State Fault Refusal :=
  linkRow port (.probeReply rackId rackClass revision) s

/-- KEEPALIVE (R108). -/
def execKeepalive (port : Port) (s : State) : Host.Outcome State Fault Refusal := linkRow port .keepalive s

/-- SYNC_BEGIN (R131). -/
def execSyncBegin (port : Port) (count : Byte) (cause : DumpCause) (s : State) : Host.Outcome State Fault Refusal :=
  linkRow port (.syncBegin count cause) s

/-- SYNC_ENTRY (R131). -/
def execSyncEntry (port : Port) (ordinal : Byte) (body : SyncBody) (s : State) : Host.Outcome State Fault Refusal :=
  sizedLinkRow port (.syncEntry ordinal body) s

/-- SYNC_END (R131, R132). -/
def execSyncEnd (port : Port) (count : Byte) (flags : Flags) (s : State) : Host.Outcome State Fault Refusal :=
  linkRow port (.syncEnd count flags) s

/-- SYNC_ACK (R130). -/
def execSyncAck (port : Port) (s : State) : Host.Outcome State Fault Refusal := linkRow port .syncAck s

/-- RESYNC (R128). -/
def execResync (port : Port) (s : State) : Host.Outcome State Fault Refusal := linkRow port .resync s

/-- DELTA (R134). -/
def execDelta (port : Port) (seq : Byte) (body : DeltaBody) (s : State) : Host.Outcome State Fault Refusal :=
  sizedLinkRow port (.delta seq body) s

/-- DELTA_ACK (R134). -/
def execDeltaAck (port : Port) (seq : Byte) (s : State) : Host.Outcome State Fault Refusal :=
  linkRow port (.deltaAck seq) s

/-- LINK_EVENT_ACK (R151). -/
def execLinkEventAck (port : Port) (item : AckItem) (seq : Word16) (s : State) : Host.Outcome State Fault Refusal :=
  linkRow port (.eventAck item seq) s

/-- EVENT_UP (R154). A detail outside its kind's enumeration makes no good frame, and is discarded (R108, R172, R173). -/
def execEventUp (port : Port) (e : EventUp) (s : State) : Host.Outcome State Fault Refusal :=
  if detailFits e.kind e.locus e.detail then linkRow port (.eventUp e) s else .next s

/-- CONDITION_CLEAR (R154). -/
def execConditionClear (port : Port) (kind : EvKind) (locus : Locus) (seq : Word16)
    (s : State) : Host.Outcome State Fault Refusal :=
  linkRow port (.conditionClear kind locus seq) s

/-- INFO (R117). -/
def execInfo (port : Port) (rackId : Word32) (rackClass : Word16) (s : State) : Host.Outcome State Fault Refusal :=
  linkRow port (.info rackId rackClass) s

/-- FORWARD_REQUEST (R121, R122). -/
def execForwardRequest (port : Port) (tag path kind : Byte) (payload : List Byte)
    (s : State) : Host.Outcome State Fault Refusal :=
  sizedLinkRow port (.forwardRequest tag path kind payload) s

/-- FORWARD_REPLY (R123). A payload that is none of its reply kind makes no good frame, and is discarded (R108, R172). -/
def execForwardReply (port : Port) (tag : Byte) (kind : ReplyKind) (payload : List Byte)
    (s : State) : Host.Outcome State Fault Refusal :=
  if replyFits kind payload then sizedLinkRow port (.forwardReply tag kind payload) s else .next s

/-- LINK_RESET (R116). -/
def execLinkReset (port : Port) (s : State) : Host.Outcome State Fault Refusal := linkRow port .linkReset s

end Sys2Proof.Machine
end

