-- ==== Sys2Proof/Machine/LinkTimers.lean ====
section
/-! DEFINITION. The meanings of the expansion link timers' expiries (chapters 6 to 9). Each acts where its timer is
running, in the state that runs it, and has no effect otherwise (log 4). -/

namespace Sys2Proof.Machine

/-- PROBE_TIMER_EXPIRY (R109). -/
def execProbeTimerExpiry (port : DPort) (s : State) : Host.Outcome State Fault Refusal := happen (probeExpired port) s

/-- The keepalive timer of a port (R114). -/
def keepaliveExpired (port : Port) (h : Hap) : Hap :=
  match port with
  | .u => keepaliveExpiredU h
  | .d p => keepaliveExpiredD p h

/-- KEEPALIVE_TIMER_EXPIRY (R114). -/
def execKeepaliveTimerExpiry (port : Port) (s : State) : Host.Outcome State Fault Refusal :=
  happen (keepaliveExpired port) s

/-- The loss timer of a port (R114). -/
def lossExpired (port : Port) (h : Hap) : Hap :=
  match port with
  | .u => lossExpiredU h
  | .d p => lossExpiredD p h

/-- LOSS_TIMER_EXPIRY (R114, R115, R116). -/
def execLossTimerExpiry (port : Port) (s : State) : Host.Outcome State Fault Refusal := happen (lossExpired port) s

/-- ACK_TIMER_EXPIRY (R130). -/
def execAckTimerExpiry (s : State) : Host.Outcome State Fault Refusal := happen ackExpired s

/-- SYNC_TIMER_EXPIRY (R131). -/
def execSyncTimerExpiry (port : DPort) (s : State) : Host.Outcome State Fault Refusal := happen (syncTimerExpired port) s

/-- DELTA_RETRANSMIT_EXPIRY (R133). -/
def execDeltaRetransmitExpiry (s : State) : Host.Outcome State Fault Refusal := happen deltaRetransmit s

/-- EVENT_RETRANSMIT_EXPIRY (R151). -/
def execEventRetransmitExpiry (s : State) : Host.Outcome State Fault Refusal := happen eventRetransmit s

/-- HOP_TIMER_EXPIRY (R124). -/
def execHopTimerExpiry (op : Byte) (s : State) : Host.Outcome State Fault Refusal := happen (hopExpired op) s

end Sys2Proof.Machine
end

