-- ==== Sys2Proof/Machine/SlotCommands.lean ====
section
/-! DEFINITION. The meanings of the slot link commands (chapter 3): a write transfer that ends, a byte clocked out, and
the stall timer. -/

namespace Sys2Proof.Machine

/-- STATUS (R53, R55, R56). -/
def execStatus (slot : SlotId) (s : State) : Host.Outcome State Fault Refusal := happen (slotWrite slot [1]) s

/-- PAGE_READ (R53, R55, R58, R59). -/
def execPageRead (slot : SlotId) (page offset length : Byte) (s : State) : Host.Outcome State Fault Refusal :=
  happen (slotWrite slot [2, page, offset, length]) s

/-- CHECK_IN (R53, R55, R63 to R66). -/
def execCheckIn (slot : SlotId) (record : List Byte) (s : State) : Host.Outcome State Fault Refusal :=
  happen (slotWrite slot (3 :: record)) s

/-- RELEASE (R53, R55, R68). -/
def execRelease (slot : SlotId) (s : State) : Host.Outcome State Fault Refusal := happen (slotWrite slot [4]) s

/-- BAD_COMMAND: a write whose command byte is none of the four, or whose argument count is wrong (R55). -/
def execBadCommand (slot : SlotId) (command : Byte) (args : List Byte) (s : State) : Host.Outcome State Fault Refusal :=
  happen (slotWrite slot (command :: args)) s

/-- SLOT_LINK_BYTE_READ (R53, R54, R60, R61). -/
def execSlotLinkByteRead (slot : SlotId) (s : State) : Host.Outcome State Fault Refusal := happen (slotByteRead slot) s

/-- STALL_TIMER_EXPIRY (R62). -/
def execStallTimerExpiry (slot : SlotId) (s : State) : Host.Outcome State Fault Refusal := happen (stallExpired slot) s

end Sys2Proof.Machine
end

