-- ==== Sys2Proof/Machine/Dispatch.lean ====
section
/-! DEFINITION. The meaning of each command: one arm per constructor. -/

namespace Sys2Proof.Machine

/-- The effect of a command on everything but the queue. -/
def exec (i : Instr) (s : State) : Host.Outcome State Fault Refusal :=
  match i with
  | .hardwareReset role rate => Sys2Proof.Machine.execHardwareReset role rate s
  | .presenceInputChange line level => Sys2Proof.Machine.execPresenceInputChange line level s
  | .settleTimerExpiry line => Sys2Proof.Machine.execSettleTimerExpiry line s
  | .enableDelayExpiry slot => Sys2Proof.Machine.execEnableDelayExpiry slot s
  | .checkinLimitExpiry slot => Sys2Proof.Machine.execCheckinLimitExpiry slot s
  | .ejectTimerExpiry slot => Sys2Proof.Machine.execEjectTimerExpiry slot s
  | .pulseTimerExpiry slot => Sys2Proof.Machine.execPulseTimerExpiry slot s
  | .hostByteReceived b => Sys2Proof.Machine.execHostByteReceived b s
  | .hostGapTimerExpiry => Sys2Proof.Machine.execHostGapTimerExpiry s
  | .hostFrameSent => Sys2Proof.Machine.execHostFrameSent s
  | .requestUnknownKind kind tag payload => Sys2Proof.Machine.execRequestUnknownKind kind tag payload s
  | .hello tag => Sys2Proof.Machine.execHello tag s
  | .partReset tag keep => Sys2Proof.Machine.execPartReset tag keep s
  | .forward tag path kind payload => Sys2Proof.Machine.execForward tag path kind payload s
  | .slotConfigure tag slot policy settle delay limit => Sys2Proof.Machine.execSlotConfigure tag slot policy settle delay limit s
  | .slotPermit tag slot value => Sys2Proof.Machine.execSlotPermit tag slot value s
  | .slotResume tag slot => Sys2Proof.Machine.execSlotResume tag slot s
  | .slotEject tag slot => Sys2Proof.Machine.execSlotEject tag slot s
  | .slotStatus tag slot => Sys2Proof.Machine.execSlotStatus tag slot s
  | .rackConfigure tag width timeout => Sys2Proof.Machine.execRackConfigure tag width timeout s
  | .descWrite tag page offset length data => Sys2Proof.Machine.execDescWrite tag page offset length data s
  | .descRead tag copy page offset length => Sys2Proof.Machine.execDescRead tag copy page offset length s
  | .descCommit tag reannounce => Sys2Proof.Machine.execDescCommit tag reannounce s
  | .copyingTimerExpiry => Sys2Proof.Machine.execCopyingTimerExpiry s
  | .rosterRead tag start count expected => Sys2Proof.Machine.execRosterRead tag start count expected s
  | .rosterSummary tag => Sys2Proof.Machine.execRosterSummary tag s
  | .budgetSet tag budget => Sys2Proof.Machine.execBudgetSet tag budget s
  | .budgetStatus tag => Sys2Proof.Machine.execBudgetStatus tag s
  | .branchStatus tag => Sys2Proof.Machine.execBranchStatus tag s
  | .linkRestart tag port => Sys2Proof.Machine.execLinkRestart tag port s
  | .rescan tag => Sys2Proof.Machine.execRescan tag s
  | .eventFetch tag maximum => Sys2Proof.Machine.execEventFetch tag maximum s
  | .eventAck tag count seqs => Sys2Proof.Machine.execEventAck tag count seqs s
  | .eventSetup tag kind setting => Sys2Proof.Machine.execEventSetup tag kind setting s
  | .status slot => Sys2Proof.Machine.execStatus slot s
  | .pageRead slot page offset length => Sys2Proof.Machine.execPageRead slot page offset length s
  | .checkIn slot record => Sys2Proof.Machine.execCheckIn slot record s
  | .release slot => Sys2Proof.Machine.execRelease slot s
  | .badCommand slot command args => Sys2Proof.Machine.execBadCommand slot command args s
  | .slotLinkByteRead slot => Sys2Proof.Machine.execSlotLinkByteRead slot s
  | .stallTimerExpiry slot => Sys2Proof.Machine.execStallTimerExpiry slot s
  | .linkByteReceived port b => Sys2Proof.Machine.execLinkByteReceived port b s
  | .linkGapTimerExpiry port => Sys2Proof.Machine.execLinkGapTimerExpiry port s
  | .linkFrameSent port => Sys2Proof.Machine.execLinkFrameSent port s
  | .probe port tier path => Sys2Proof.Machine.execProbe port tier path s
  | .probeReply port rackId rackClass revision => Sys2Proof.Machine.execProbeReply port rackId rackClass revision s
  | .keepalive port => Sys2Proof.Machine.execKeepalive port s
  | .syncBegin port count cause => Sys2Proof.Machine.execSyncBegin port count cause s
  | .syncEntry port ordinal body => Sys2Proof.Machine.execSyncEntry port ordinal body s
  | .syncEnd port count flags => Sys2Proof.Machine.execSyncEnd port count flags s
  | .syncAck port => Sys2Proof.Machine.execSyncAck port s
  | .resync port => Sys2Proof.Machine.execResync port s
  | .delta port seq body => Sys2Proof.Machine.execDelta port seq body s
  | .deltaAck port seq => Sys2Proof.Machine.execDeltaAck port seq s
  | .linkEventAck port item seq => Sys2Proof.Machine.execLinkEventAck port item seq s
  | .eventUp port e => Sys2Proof.Machine.execEventUp port e s
  | .conditionClear port kind locus seq => Sys2Proof.Machine.execConditionClear port kind locus seq s
  | .info port rackId rackClass => Sys2Proof.Machine.execInfo port rackId rackClass s
  | .forwardRequest port tag path kind payload => Sys2Proof.Machine.execForwardRequest port tag path kind payload s
  | .forwardReply port tag kind payload => Sys2Proof.Machine.execForwardReply port tag kind payload s
  | .linkReset port => Sys2Proof.Machine.execLinkReset port s
  | .probeTimerExpiry port => Sys2Proof.Machine.execProbeTimerExpiry port s
  | .keepaliveTimerExpiry port => Sys2Proof.Machine.execKeepaliveTimerExpiry port s
  | .lossTimerExpiry port => Sys2Proof.Machine.execLossTimerExpiry port s
  | .ackTimerExpiry => Sys2Proof.Machine.execAckTimerExpiry s
  | .syncTimerExpiry port => Sys2Proof.Machine.execSyncTimerExpiry port s
  | .deltaRetransmitExpiry => Sys2Proof.Machine.execDeltaRetransmitExpiry s
  | .eventRetransmitExpiry => Sys2Proof.Machine.execEventRetransmitExpiry s
  | .hopTimerExpiry op => Sys2Proof.Machine.execHopTimerExpiry op s

end Sys2Proof.Machine
end

