-- ==== Sys2Proof/WellFormed.lean ====
section
/-! DEFINITION. Which commands can reach the part: those whose frames fit their links and whose fields the layouts of
chapter 10 can encode. -/

namespace Sys2Proof

/-- A path that a path byte can encode (R172). -/
def Path.fits (p : Path) : Bool := decide (p.length ≤ 4)

/-- A locus that its three bytes can encode (R172). -/
def Locus.fits (l : Locus) : Bool := Path.fits l.path && decide (l.slot ≤ 10)

/-- A record that the link form can encode (R175). -/
def LinkRecord.fits (r : LinkRecord) : Bool := Path.fits r.key.path && decide (r.caps.length ≤ 255)

/-- A link message whose fields its layout can encode, in a frame of at most 200 payload bytes (R108, R176). -/
def LinkMsg.fits (m : LinkMsg) : Bool :=
  decide ((Machine.linkPayload m).length ≤ Machine.maxPayload) &&
    (match m with
      | .probe _ path => Path.fits path
      | .syncEntry _ (.present r) => LinkRecord.fits r
      | .syncEntry _ (.vacant k) => Path.fits k.path
      | .delta _ (.add r) => LinkRecord.fits r
      | .delta _ (.update r) => LinkRecord.fits r
      | .delta _ (.remove k) => Path.fits k.path
      | .eventUp e => Locus.fits e.locus && Path.fits e.origin && Machine.detailFits e.kind e.locus e.detail
      | .conditionClear _ locus _ => Locus.fits locus
      | .forwardReply _ kind payload => Machine.replyFits kind payload
      | .delta _ (.flags _) | .probeReply .. | .keepalive | .syncBegin .. | .syncEnd .. | .syncAck | .deltaAck _ | .resync
      | .eventAck .. | .info .. | .forwardRequest .. | .linkReset => true)

/-- A host frame of at most 200 payload bytes (R157). -/
def hostFits (payload : List Byte) : Bool := decide (payload.length ≤ Machine.maxPayload)

/-- A write that R55 answers BAD_COMMAND. -/
def badWrite (command : Byte) (args : List Byte) : Bool :=
  match command.toNat with
  | 1 => decide (args.length ≠ 0)
  | 2 => decide (args.length ≠ 3)
  | 3 => false
  | 4 => decide (args.length ≠ 0)
  | _ => true

/-- A command that can reach the part. -/
def Instr.wellFormed (i : Instr) : Bool :=
  match i with
  | .requestUnknownKind kind _ payload =>
    (!Machine.isRequest kind || (Machine.reqOf kind payload).isNone) && hostFits payload
  | .forward _ path kind payload => hostFits (path :: kind :: payload)
  | .descWrite _ page offset length data => hostFits (page :: offset :: length :: data)
  | .eventAck _ count seqs => hostFits (count :: seqs.flatMap Machine.be16)
  | .badCommand _ command args => badWrite command args
  | .probe _ tier path => LinkMsg.fits (.probe tier path)
  | .syncEntry _ ordinal body => LinkMsg.fits (.syncEntry ordinal body)
  | .delta _ seq body => LinkMsg.fits (.delta seq body)
  | .eventUp _ e => LinkMsg.fits (.eventUp e)
  | .conditionClear _ kind locus seq => LinkMsg.fits (.conditionClear kind locus seq)
  | .forwardRequest _ tag path kind payload => LinkMsg.fits (.forwardRequest tag path kind payload)
  | .forwardReply _ tag kind payload => LinkMsg.fits (.forwardReply tag kind payload)
  | .hopTimerExpiry op => decide (op ≠ 0)
  | .hardwareReset .. | .presenceInputChange .. | .settleTimerExpiry _ | .enableDelayExpiry _ | .checkinLimitExpiry _
  | .ejectTimerExpiry _ | .pulseTimerExpiry _ | .hostByteReceived _ | .hostGapTimerExpiry | .hostFrameSent | .hello _
  | .partReset .. | .slotConfigure .. | .slotPermit .. | .slotResume .. | .slotEject .. | .slotStatus .. | .rackConfigure ..
  | .descRead .. | .descCommit .. | .copyingTimerExpiry | .rosterRead .. | .rosterSummary _ | .budgetSet .. | .budgetStatus _
  | .branchStatus _ | .linkRestart .. | .rescan _ | .eventFetch .. | .eventSetup .. | .status _ | .pageRead .. | .checkIn ..
  | .release _ | .slotLinkByteRead _ | .stallTimerExpiry _ | .linkByteReceived .. | .linkGapTimerExpiry _ | .linkFrameSent _
  | .probeReply .. | .keepalive _ | .syncBegin .. | .syncEnd .. | .syncAck _ | .resync _ | .deltaAck .. | .linkEventAck ..
  | .info .. | .linkReset _ | .probeTimerExpiry _ | .keepaliveTimerExpiry _ | .lossTimerExpiry _ | .ackTimerExpiry
  | .syncTimerExpiry _ | .deltaRetransmitExpiry | .eventRetransmitExpiry => true

end Sys2Proof
end

