-- ==== Sys2Proof/Safety.lean ====
section
/-! DEFINITION. The terms of the statements: when a command is taken at once, what a reply leaves, and what counts as a
safe state. -/

namespace Sys2Proof.Machine

/-! ### The host link -/

/-- The part is a root whose host link takes a good frame with a nonzero tag in the happening that completes it and
executes it: its buffer is empty, no reply waits, no PART RESET is to begin, and the frame is no repeat (R160, R162). -/
def State.ready (s : State) (f : HostFrame) : Bool :=
  decide (s.role = .root) && decide (f.tag ≠ 0) && s.host.buffer.isEmpty && !s.host.replyWaits && !s.resetPending &&
    (match s.host.memory with
      | some m => !m.describes f
      | none => true)

/-- The host link after a request's reply: remembered, and handed to the transmitter (R161, R164). -/
def HostLink.replied (l : HostLink) (f : HostFrame) (kind : ReplyKind) (payload : List Byte) : HostLink :=
  { l with memory := some (recordOf f (.frame (replyFrame f.tag kind payload))) }.hand
    { sort := .reply, frame := replyFrame f.tag kind payload, resets := none }

/-- The state with a frame handed to the host transmitter, and nothing else changed. -/
def State.handed (s : State) (x : SendItem) : State := { s with host := s.host.hand x }

/-- The state with a request's reply remembered and handed to the transmitter, and nothing else changed. -/
def State.replied (s : State) (f : HostFrame) (kind : ReplyKind) (payload : List Byte) : State :=
  { s with host := s.host.replied f kind payload }

/-- The state with a request refused, and nothing else changed. -/
def State.refused (s : State) (f : HostFrame) (code : RefCode) (detail : Word16) : State :=
  s.replied f .refused (refusalPayload code detail)

/-- Whether the length of a request's payload is one that its kind's layout allows: the layout's, or for one carrying a
count the length its count calls for (R162 case 5, R174). -/
def lengthAllowed (kind : Byte) (payload : List Byte) : Bool :=
  match kind.toNat with
  | 0x01 | 0x31 | 0x39 | 0x40 | 0x42 => decide (payload.length = 0)
  | 0x02 | 0x12 | 0x13 | 0x14 | 0x22 | 0x38 | 0x41 | 0x50 => decide (payload.length = 1)
  | 0x11 | 0x15 | 0x52 => decide (payload.length = 2)
  | 0x21 => decide (payload.length = 4)
  | 0x10 => decide (payload.length = 5)
  | 0x30 => decide (payload.length = 2 ∨ payload.length = 6)
  | 0x03 => decide (2 ≤ payload.length)
  | 0x20 => decide (2 < payload.length ∧ payload.length = 3 + (payload.getD 2 0).toNat)
  | 0x51 => decide (0 < payload.length ∧ payload.length = 1 + 2 * (payload.getD 0 0).toNat)
  | _ => false

/-- The host frame that a command stands for (R157, R162, log 6): that of a request, of a kind that is no request, or of
a length that its kind's layout does not allow. -/
def hostFrameOf : Instr → Option HostFrame
  | .requestUnknownKind kind tag payload => some ⟨kind, tag, payload⟩
  | .hello tag => some ⟨0x01, tag, []⟩
  | .partReset tag keep => some ⟨0x02, tag, [keep]⟩
  | .forward tag path kind payload => some ⟨0x03, tag, path :: kind :: payload⟩
  | .slotConfigure tag slot policy settle delay limit => some ⟨0x10, tag, [slot, policy, settle, delay, limit]⟩
  | .slotPermit tag slot value => some ⟨0x11, tag, [slot, value]⟩
  | .slotResume tag slot => some ⟨0x12, tag, [slot]⟩
  | .slotEject tag slot => some ⟨0x13, tag, [slot]⟩
  | .slotStatus tag slot => some ⟨0x14, tag, [slot]⟩
  | .rackConfigure tag width timeout => some ⟨0x15, tag, [width, timeout]⟩
  | .descWrite tag page offset length data => some ⟨0x20, tag, page :: offset :: length :: data⟩
  | .descRead tag copy page offset length => some ⟨0x21, tag, [copy, page, offset, length]⟩
  | .descCommit tag reannounce => some ⟨0x22, tag, [reannounce]⟩
  | .rosterRead tag start count none => some ⟨0x30, tag, [start, count]⟩
  | .rosterRead tag start count (some g) => some ⟨0x30, tag, start :: count :: be32 g⟩
  | .rosterSummary tag => some ⟨0x31, tag, []⟩
  | .budgetSet tag budget => some ⟨0x38, tag, [budget]⟩
  | .budgetStatus tag => some ⟨0x39, tag, []⟩
  | .branchStatus tag => some ⟨0x40, tag, []⟩
  | .linkRestart tag port => some ⟨0x41, tag, [port]⟩
  | .rescan tag => some ⟨0x42, tag, []⟩
  | .eventFetch tag maximum => some ⟨0x50, tag, [maximum]⟩
  | .eventAck tag count seqs => some ⟨0x51, tag, count :: seqs.flatMap be16⟩
  | .eventSetup tag kind setting => some ⟨0x52, tag, [kind, setting]⟩
  | .hardwareReset .. | .presenceInputChange .. | .settleTimerExpiry _ | .enableDelayExpiry _ | .checkinLimitExpiry _
  | .ejectTimerExpiry _ | .pulseTimerExpiry _ | .hostByteReceived _ | .hostGapTimerExpiry | .hostFrameSent
  | .copyingTimerExpiry | .status _ | .pageRead .. | .checkIn .. | .release _ | .badCommand .. | .slotLinkByteRead _
  | .stallTimerExpiry _ | .linkByteReceived .. | .linkGapTimerExpiry _ | .linkFrameSent _ | .probe .. | .probeReply ..
  | .keepalive _ | .syncBegin .. | .syncEntry .. | .syncEnd .. | .syncAck _ | .resync _ | .delta .. | .deltaAck ..
  | .linkEventAck .. | .eventUp .. | .conditionClear .. | .info .. | .forwardRequest .. | .forwardReply .. | .linkReset _
  | .probeTimerExpiry _ | .keepaliveTimerExpiry _ | .lossTimerExpiry _ | .ackTimerExpiry | .syncTimerExpiry _
  | .deltaRetransmitExpiry | .eventRetransmitExpiry | .hopTimerExpiry _ => none

/-- The state with the host's frame receiver hunting for START. -/
def State.hostHunting (s : State) : State := { s with host := { s.host with rx := { phase := .hunting, gap := none } } }

/-- The host link, of a root or a branch, takes a good frame in the happening that completes it: its buffer is empty, no
reply waits and no PART RESET is to begin (R160, R162). -/
def State.takes (s : State) : Prop := s.host.buffer = [] ∧ s.host.replyWaits = false ∧ s.resetPending = false

/-! ### Invariants -/

/-- Every copy of the descriptor is in its canonical form (R73, R74). -/
def Desc.canonical (d : Desc) : Bool := d.staging.wf && d.bank0.wf && d.bank1.wf

/-- The part-written bytes of staging, bytes 0 and 1 of page 0 and bytes 126 and 127 of every page, hold what a hardware
reset gave them (R74, R91). -/
def Desc.partBytes (d : Desc) : Prop :=
  d.staging.read 0 = 0 ∧ d.staging.read 1 = 0 ∧
    ∀ page, page < 8 → d.staging.read (pageAddr page 126) = 0xFF ∧ d.staging.read (pageAddr page 127) = 0xFF

/-- The operation table's op ids are distinct and nonzero, and the counter runs from 1 to 255 (R167). -/
def OpTable.sound (t : OpTable) : Prop := t.ids.Nodup ∧ (0 : Byte) ∉ t.ids ∧ t.counter ≠ 0

/-- No two pending records have the same kind and locus (R145). -/
def EventUnit.distinct (ev : EventUnit) : Prop := (ev.queue.map fun r => (r.kind, r.locus)).Nodup

/-- The sizes of the part's lists (00_scope.md, numbers shared by all chapters; R2, R133, R145, R155, R160, R167); the op
ids and the pending records told apart (R145, R167); and a refused marker standing only over a full roster (R22, R137). -/
def State.withinSizes (s : State) : Prop :=
  s.roster.entries.length ≤ rosterCapacity ∧ s.budget.units ≤ 80 ∧ s.u.deltas.length ≤ deltaQueueSize ∧
    s.ev.queue.length ≤ queueSize ∧ s.ev.remoteConds.length ≤ remoteSize ∧ s.host.buffer.length ≤ bufferSize ∧
    s.ops.entries.length ≤ opTableSize ∧ s.ops.sound ∧ s.ev.distinct ∧
    (s.roster.marker1 = true ∨ s.roster.marker2 = true → s.roster.entries.length = rosterCapacity)

/-- The budget unit's law (R1, R2, R93 to R95, R97, R101): one entry to a key, an entry local exactly where it has no reported
state, the granted sum within the budget, the waiting list the slots whose local entries are WAITING, each once, no
grant to a local entry in CONFLICT or RETURNING, and the PWR lines high exactly where a local entry is GRANTED. -/
def State.budgetLaw (s : State) : Prop :=
  (s.roster.entries.map Entry.key).Nodup ∧ (∀ e ∈ s.roster.entries, e.isLocal = true ↔ e.reported = none) ∧
    grantedSum s.roster.entries ≤ s.budget.units ∧ s.budget.waiting.Nodup ∧
    (∀ i ∈ s.budget.waiting, ∃ e, s.localEntry i = some e ∧ e.grant = .waiting) ∧
    (∀ e ∈ s.roster.entries, e.isLocal = true → e.grant = .waiting → e.key.slot ∈ s.budget.waiting) ∧
    (∀ e ∈ s.roster.entries, e.isLocal = true → e.state = .conflict ∨ e.state = .returning → e.grant = .none) ∧
    ∀ i, s.pwrLine i = true ↔ s.slotGrant i = .granted

/-! ### States named in the statements -/

/-- The state with a slot's sequencer record stored. -/
def State.withSlot (s : State) (i : SlotId) (x : Slot) : State := { s with slots := s.slots.set i x }

/-- The state with a slot's presence filter stored. -/
def State.withFilter (s : State) (i : SlotId) (x : Filter) : State := { s with filters := s.filters.set i x }

/-- The state with a slot's slot link target stored. -/
def State.withTarget (s : State) (i : SlotId) (x : Target) : State := { s with targets := s.targets.set i x }

/-- The state with a D port's record stored. -/
def State.withD (s : State) (p : DPort) (x : DLink) : State :=
  match p with
  | .d1 => { s with d1 := x }
  | .d2 => { s with d2 := x }

/-- What raised events and changed conditions may move at the end of a happening: the event queue with its sequence
counter, the lost count, the announced priority, the drain's item and timer, the frames of the host transmitter and of U,
and U's keepalive timer. `t` is `u` apart from these. -/
def State.sameButEvents (t u : State) : Prop :=
  { t with
    ev := { t.ev with queue := u.ev.queue, counter := u.ev.counter, lost := u.ev.lost, announced := u.ev.announced,
                      inFlight := u.ev.inFlight, retransmit := u.ev.retransmit },
    host := { t.host with cur := u.host.cur, sendList := u.host.sendList },
    u := { t.u with tx := u.u.tx, keepalive := u.u.keepalive } } = u

/-- An event's detail holds one of its codes, where R173 has it carry an enumeration. Of an OP_DONE this is asked where its
locus names a slot, which only an eject's does (log 46). -/
abbrev detailOfItsCodes (e : EventUp) : Prop :=
  (e.kind = .moduleLeft → 1 ≤ e.detail.toNat ∧ e.detail.toNat ≤ 6) ∧
  (e.kind = .checkinRefused → e.detail.toNat ≤ 10) ∧
  (e.kind = .opDone → e.locus.slot ≠ 0 → 1 ≤ e.detail.toNat ∧ e.detail.toNat ≤ 4) ∧
  (e.kind = .branchLost → 1 ≤ e.detail.toNat ∧ e.detail.toNat ≤ 4) ∧
  (e.kind = .branchResync → e.detail.toNat ≤ 3) ∧
  (e.kind = .hostFrameError → 1 ≤ e.detail.toNat / 256 ∧ e.detail.toNat / 256 ≤ 2) ∧
  (e.kind = .slotParked → e.detail.toNat ≤ 3)

/-- A record of this part for a LATCHED occurrence, as it enters the queue (R140, R143). -/
def latchedRecord (ev : EventUnit) (priority : Fin 4) (k : EvKind) (l : Locus) (detail : Word16) : EvRecord :=
  { seq := ev.counter, kind := k, priority := priority, style := .latched, locus := l, detail := detail, count := 1,
    origin := [] }

/-- An occurrence of a kind and locus enters the queue as a new record at a priority: the kind is not OFF, none of its
kind and locus is pending, and the queue has room (R143, R145). -/
def EventUnit.takesNew (ev : EventUnit) (priority : Fin 4) (k : EvKind) (l : Locus) : Prop :=
  ev.setting k = some priority ∧ ev.isPending k l = false ∧ ev.queue.length < queueSize

/-- What a happening of one slot leaves alone: the straps, the settings, every other slot with its filter and target, the
copies of the descriptor and the live pointer, the host receiver and buffer, the budget, the kind table and the remote
conditions, U's line and what its parent gave it, the rescan and the commands that wait; and the D ports, where
no refused marker is set (overflow recovery, R137, moves a marked port). -/
def State.slotFrame (i : SlotId) (s t : State) : Prop :=
  t.role = s.role ∧ t.rate = s.rate ∧ t.rack = s.rack ∧ t.rescan = s.rescan ∧ t.pending = s.pending ∧
    (∀ j, j ≠ i → t.slot j = s.slot j ∧ t.filter j = s.filter j ∧ t.target j = s.target j) ∧
    t.desc.staging = s.desc.staging ∧ t.desc.bank0 = s.desc.bank0 ∧ t.desc.bank1 = s.desc.bank1 ∧ t.desc.live = s.desc.live ∧
    t.host.rx = s.host.rx ∧ t.host.buffer = s.host.buffer ∧
    t.budget.units = s.budget.units ∧ t.ev.kinds = s.ev.kinds ∧ t.ev.remoteConds = s.ev.remoteConds ∧
    t.u.filter = s.u.filter ∧ t.u.rx = s.u.rx ∧ t.u.loss = s.u.loss ∧ t.u.recTier = s.u.recTier ∧
    t.u.recPath = s.u.recPath ∧ t.u.tierKnown = s.u.tierKnown ∧
    (s.roster.marker1 = false → s.roster.marker2 = false → t.d1 = s.d1 ∧ t.d2 = s.d2)

/-- The keys of a roster, in its order. -/
def Roster.keys (r : Roster) : List Key := r.entries.map Entry.key

/-- The slot has a local entry in neither roster, and every other key stands where it stood. -/
def State.entryGone (i : SlotId) (s t : State) : Prop :=
  t.localEntry i = none ∧ t.roster.keys = s.roster.keys.filter fun k => decide (k ≠ localKey i)

/-- A copy of the descriptor as hardware reset leaves it: 0x00 in the generation and the page count, 0xFF elsewhere
(R91). -/
def Memory.blank (m : Memory) : Prop := ∀ a, a < copySize → m.read a = if a < 3 then 0 else 0xFF

/-- A presence filter that a reset put in EMPTY, acting on the level of its raw line with the settle time of 20 ms (R51,
R52). -/
def Filter.restarted (before after : Filter) : Prop :=
  after = if before.raw then { raw := true, state := .settling, timer := some 20 }
          else { raw := false, state := .empty, timer := none }

/-- What both resets leave, but for the straps and the descriptor store (R26, R51, R52, R70, R106, R125, R139, R156,
R171). The commands that wait are not the part's and stay. -/
def State.resetFrom (s t : State) : Prop :=
  (∀ i, Filter.restarted (s.filter i) (t.filter i)) ∧
  (∀ i, t.slot i = { state := .idle, parkReason := .none, policy := .descriptor, settle := 20, enableDelay := 10,
                     checkinLimit := 20, permit := false, lastRead := 0, ejectRequested := false, ejectOp := 0,
                     timer := none }) ∧
  t.rack = { pulseWidth := 10, ejectTimeout := 50 } ∧
  (∀ i, (t.target i).phase = .ready ∧ (t.target i).stall = none ∧ (t.target i).lastResult = none) ∧
  t.roster = { entries := [], generation := 0, joinCounter := 0, marker1 := false, marker2 := false, flags := .clear } ∧
  t.budget.units = 0 ∧ t.budget.waiting = [] ∧ (∀ i, t.pwrLine i = false) ∧
  t.ops = { entries := [], counter := 1 } ∧
  t.host = { rx := { phase := .hunting, gap := none }, buffer := [], cur := none, sendList := [], memory := none } ∧
  t.u.state = .down ∧ Filter.restarted s.u.filter t.u.filter ∧ t.u.rx = { phase := .hunting, gap := none } ∧
  t.u.tx = { cur := none, waiting := [] } ∧ t.u.keepalive = none ∧ t.u.loss = none ∧ t.u.tierKnown = false ∧
  t.u.recTier = none ∧ t.u.recPath = none ∧ t.u.dumpPhase = .none ∧ t.u.dumpList = [] ∧ t.u.ackTimer = none ∧
  t.u.deltas = [] ∧ t.u.nextSeq = 1 ∧ t.u.retransmit = none ∧
  (∀ p, Filter.restarted (s.dl p).filter (t.dl p).filter ∧
    t.dl p = { state := .down, filter := (t.dl p).filter, rx := { phase := .hunting, gap := none },
               tx := { cur := none, waiting := [] }, probe := none, keepalive := none, loss := none, child := none,
               everUp := false, syncPhase := .none, announced := 0, nextOrdinal := 1, syncTimer := none, expected := 1,
               recent := [], lastChildSeq := none }) ∧
  t.rescan = none ∧
  t.ev.queue = [] ∧ t.ev.counter = 1 ∧ t.ev.lost = 0 ∧ t.ev.kinds = EventUnit.defaultKinds ∧ t.ev.localConds = [] ∧
  t.ev.remoteConds = [] ∧ t.ev.announced = none ∧ t.ev.inFlight = none ∧ t.ev.retransmit = none ∧ t.ev.reported = [] ∧
  t.pending = s.pending

/-- The state a slot is in after an evaluation of its gate, by the table of section 2.3 (R32, R33, R36, R37): `idle` and
`gate` are what the evaluation finds, `manual` the policy, `noDelay` an enable delay of 0. -/
def SlotState.evaluated (st : SlotState) (idle gate manual noDelay : Bool) : SlotState :=
  if idle then .idle
  else if gate then
    match st with
    | .idle => if manual || noDelay then .enabled else .delaying
    | .held => if noDelay then .enabled else .delaying
    | .delaying => .delaying
    | .enabled => .enabled
    | .online => .online
    | .leaving => .leaving
    | .announcing => .announcing
    | .parked => .parked
  else
    match st with
    | .idle | .held | .delaying | .enabled | .online | .leaving => .held
    | .announcing => .announcing
    | .parked => .parked

/-- The reply to a request is remembered with its frame (R164). -/
def State.remembers (t : State) (f : HostFrame) (kind : ReplyKind) (payload : List Byte) : Prop :=
  t.host.memory = some (recordOf f (.frame (replyFrame f.tag kind payload)))

/-- The part is a branch whose U link is SYNCING or UP: it takes link messages from its parent (R108). -/
def State.hearsParent (s : State) : Prop := s.role = .branch ∧ s.u.state.active = true

/-- The outbound delta queue of a child in UP: the first eight deltas have been sent, and no other (R133). -/
def windowed (ds : List Delta) : Prop := ∀ j (h : j < ds.length), ds[j].seq.isSome = true ↔ j < 8

/-- Sequence numbers of deltas from a number on: from 255 to 1, skipping 0 (R133). -/
def seqsFrom (b : Byte) : Nat → List Byte
  | 0 => []
  | n + 1 => b :: seqsFrom (nextByte b) n

/-- The fields a check-in record gives its entry (R8, R9, R11). -/
def CheckInRec.fills (r : CheckInRec) (e : Entry) : Prop :=
  e.serial = r.serial ∧ e.classCode = r.classCode ∧ e.revision = r.revision ∧ e.draw = r.draw ∧ e.caps = r.caps

/-- The frames at a port's transmitter, the one being sent first. -/
def LinkTx.frames (t : LinkTx) : List TxFrame := t.cur.toList ++ t.waiting

/-- What the loss of a D port's child leaves (R109, R113, R115, R155): no entry, no waiting FORWARD, no refused marker and
no remote condition of the port; its link afresh, by its carrier and the part's tier; every other entry's key, every
other operation, the slots, the targets and the descriptor as they were; and the other port too, where it has no refused
marker. -/
def State.tornDown (p : DPort) (s t : State) : Prop :=
  (∀ e ∈ t.roster.entries, e.via p = false) ∧
  t.roster.keys = s.roster.keys.filter (fun k => decide (k.path.head? ≠ some p)) ∧
  t.ops = { s.ops with entries := s.ops.entries.filter fun e =>
              !(decide (e.kind = .forward) && decide (e.hopPort = some p)) } ∧
  t.roster.marker p = false ∧ (∀ c ∈ t.ev.remoteConds, c.port ≠ p) ∧
  (t.dl p).state = (if (t.dl p).filter.state = .present then
                      (match s.tier with
                        | none => .down
                        | some n => if n ≤ 2 then .probing else .refused)
                    else .down) ∧
  (t.dl p).child = none ∧ (t.dl p).everUp = false ∧ (t.dl p).syncPhase = .none ∧ (t.dl p).loss = none ∧
  (t.dl p).lastChildSeq = none ∧
  t.slots = s.slots ∧ t.targets = s.targets ∧ t.filters = s.filters ∧ t.desc = s.desc ∧ t.rack = s.rack ∧
  t.budget.units = s.budget.units ∧ t.role = s.role ∧ t.pending = s.pending ∧ t.rescan = s.rescan ∧
  (∀ q, q ≠ p → s.roster.marker q = false → t.dl q = s.dl q)

/-- What a request at a root leaves alone when it moves neither slots nor links. -/
def State.deskFrame (s t : State) : Prop :=
  t.role = s.role ∧ t.rate = s.rate ∧ t.filters = s.filters ∧ t.slots = s.slots ∧ t.rack = s.rack ∧
    t.targets = s.targets ∧ t.desc = s.desc ∧ t.ops = s.ops ∧ t.rescan = s.rescan ∧ t.pending = s.pending ∧ t.u = s.u ∧
    t.host.rx = s.host.rx ∧ t.host.buffer = s.host.buffer

/-- The state with a message handed to U on a link in SYNCING or UP, and nothing else changed (R108). -/
def State.toParent (s : State) (m : LinkMsg) : State :=
  { s with u := { s.u with tx := s.u.tx.hand { msg := m, resets := none },
                           keepalive := if s.u.tx.cur = none then some 20 else s.u.keepalive } }

/-- A branch's state after a good frame on U in SYNCING or UP that is answered with a message and changes nothing else: the
loss timer is restarted and the message handed to U (R108). -/
def State.sentUp (s : State) (m : LinkMsg) : State := ({ s with u := { s.u with loss := some 60 } } : State).toParent m

/-- The state with a port's loss timer restarted, and nothing else changed (R108). -/
def State.heard (s : State) : Port → State
  | .u => { s with u := { s.u with loss := some 60 } }
  | .d p => s.withD p { s.dl p with loss := some 60 }

/-- The link of a port is SYNCING or UP and takes messages: a D port's, or U's of a branch (R108). -/
def State.hears (s : State) : Port → Prop
  | .u => s.role = .branch ∧ s.u.state.active = true
  | .d p => (s.dl p).state.active = true

/-- The state with a port's frame receiver stored. -/
def State.withRx (s : State) (port : Port) (rx : Rx) : State :=
  match port with
  | .u => { s with u := { s.u with rx := rx } }
  | .d p => s.withD p { s.dl p with rx := rx }

/-- The command that stands for a good frame of a message on a port. -/
def linkCommand (port : Port) : LinkMsg → Instr
  | .probe tier path => .probe port tier path
  | .probeReply rackId rackClass revision => .probeReply port rackId rackClass revision
  | .keepalive => .keepalive port
  | .syncBegin count cause => .syncBegin port count cause
  | .syncEntry ordinal body => .syncEntry port ordinal body
  | .syncEnd count flags => .syncEnd port count flags
  | .syncAck => .syncAck port
  | .delta seq body => .delta port seq body
  | .deltaAck seq => .deltaAck port seq
  | .resync => .resync port
  | .eventUp e => .eventUp port e
  | .eventAck item seq => .linkEventAck port item seq
  | .conditionClear kind locus seq => .conditionClear port kind locus seq
  | .info rackId rackClass => .info port rackId rackClass
  | .forwardRequest tag path kind payload => .forwardRequest port tag path kind payload
  | .forwardReply tag kind payload => .forwardReply port tag kind payload
  | .linkReset => .linkReset port

/-- What a D port's sync and deltas leave alone beside the roster, the budget unit, the event unit, the host's and U's
transmitters and U's delta queue: the slots, the targets, the descriptor, the settings, the operation table and the other
port, where no refused marker is set. -/
def State.portFrame (p : DPort) (s t : State) : Prop :=
  t.role = s.role ∧ t.rate = s.rate ∧ t.filters = s.filters ∧ t.slots = s.slots ∧ t.rack = s.rack ∧
    t.targets = s.targets ∧ t.desc = s.desc ∧ t.pending = s.pending ∧ t.budget.units = s.budget.units ∧
    t.host.rx = s.host.rx ∧ t.host.buffer = s.host.buffer ∧ t.host.memory = s.host.memory ∧ t.ev.kinds = s.ev.kinds ∧
    t.u.filter = s.u.filter ∧ t.u.rx = s.u.rx ∧ t.u.loss = s.u.loss ∧ t.u.recTier = s.u.recTier ∧
    t.u.recPath = s.u.recPath ∧ t.u.tierKnown = s.u.tierKnown ∧
    (s.roster.marker1 = false → s.roster.marker2 = false → ∀ q, q ≠ p → t.dl q = s.dl q)

/-- What a record of a child's entry makes of the parent's roster (R16, R17): a record whose fields do not hold is dropped;
one under a new key is added at its canonical place with a new join stamp, a conflict where it wants a serial id that is
claimed; into a full roster it is not added, and the port's refused marker is set. A holder's record refreshes its
entry in place. -/
def State.storesRecord (p : DPort) (r : LinkRecord) (s t : State) : Prop :=
  (r.serial = 0 ∨ 8 < r.caps.length ∨ 3 < r.key.path.length + 1 + s.ownTier ∨ 3 < r.draw.toNat →
    t.roster.entries = s.roster.entries) ∧
  (r.serial ≠ 0 → r.caps.length ≤ 8 → r.key.path.length + 1 + s.ownTier ≤ 3 → r.draw.toNat ≤ 3 →
    (findEntry (remoteKey p r.key) s.roster.entries = none → rosterCapacity ≤ s.roster.entries.length →
      t.roster.entries = s.roster.entries ∧ t.roster.marker p = true) ∧
    (findEntry (remoteKey p r.key) s.roster.entries = none → s.roster.entries.length < rosterCapacity →
      t.roster.keys = insertBy keyLt (remoteKey p r.key) s.roster.keys ∧ t.roster.joinCounter = s.roster.nextStamp ∧
        ∃ e, findEntry (remoteKey p r.key) t.roster.entries = some e ∧ e.serial = r.serial ∧ e.classCode = r.classCode ∧
          e.revision = r.revision ∧ e.draw.val = r.draw.toNat ∧ e.caps = r.caps ∧ e.reported = some r.state ∧
          e.grant = r.grant ∧ e.stale = false ∧ e.joinStamp = s.roster.nextStamp ∧
          e.state = if r.state ≠ .conflict ∧ (∃ x ∈ s.roster.entries, x.serial = r.serial ∧ x.state ≠ .conflict) then .conflict
                    else r.state) ∧
    ∀ o, findEntry (remoteKey p r.key) s.roster.entries = some o → o.serial = r.serial → o.state ≠ .conflict →
      o.reported ≠ some .conflict → r.state ≠ .conflict →
      t.roster.keys = s.roster.keys ∧ t.roster.joinCounter = s.roster.joinCounter ∧
        ∃ e, findEntry (remoteKey p r.key) t.roster.entries = some e ∧ e.serial = r.serial ∧ e.classCode = r.classCode ∧
          e.revision = r.revision ∧ e.draw.val = r.draw.toNat ∧ e.caps = r.caps ∧ e.reported = some r.state ∧
          e.state = r.state ∧ e.grant = r.grant ∧ e.stale = false ∧ e.joinStamp = o.joinStamp)

end Sys2Proof.Machine
end

