-- ==== Sys2Proof/Certificates/Slice0/Obligations.lean ====
section
/-! DEFINITION. The statements for the provers, chapter by chapter, then the encodings and the invariants. -/

open Sys2Proof Sys2Proof.Machine

/-! ### The queue of commands and the resets -/

/-- The command at the front of the queue is executed on the state with the queue's rest; on an empty queue a millisecond
passes (the model's choice, log 5). -/
def Obligations.StepRunsTheFrontCommand : Prop :=
  (∀ (c : Instr) (rest : List Instr) (s : State),
    step { s with pending := c :: rest } = exec c { s with pending := rest }) ∧
  ∀ s : State, s.pending = [] → step s = .next (tick s)

/-- Hardware reset leaves the values of the chapters' reset rules, the straps as sampled with the
line rate they select, and a blank descriptor store. The
soft reset, in the happening in which the reply to a PART RESET has been sent, leaves the same with the role and the rate
kept; with KEEP_DESCRIPTOR staging, the live pointer and the live bank are kept, and the other bank is blank. -/
def Obligations.ResetsLeaveTheResetValues : Prop :=
  (∀ (role : Role) (rate : Rate) (s : State), ∃ t, exec (.hardwareReset role rate) s = .next t ∧ s.resetFrom t ∧
    t.role = role ∧ t.rate = rate ∧
    t.lineRate = (if rate.first then (if rate.second then 921600 else 460800)
                  else if rate.second then 230400 else 115200) ∧
    t.desc.staging.blank ∧ t.desc.bank0.blank ∧ t.desc.bank1.blank ∧
    t.desc.live = .bank0 ∧ t.desc.commit = none) ∧
  ∀ (c : Instr) (keep : Bool) (s : State),
    (c = .hostFrameSent ∧ (∃ x, s.host.cur = some x ∧ x.resets = some keep) ∨
      c = .linkFrameSent .u ∧ ∃ x, s.u.tx.cur = some x ∧ x.resets = some keep) →
    ∃ t, exec c s = .next t ∧ s.resetFrom t ∧ t.role = s.role ∧ t.rate = s.rate ∧ t.lineRate = s.lineRate ∧
      t.desc.commit = none ∧
      if keep then
        t.desc.staging = s.desc.staging ∧ t.desc.live = s.desc.live ∧ t.desc.liveBank = s.desc.liveBank ∧
          (t.desc.bank s.desc.live.other).blank
      else t.desc.staging.blank ∧ t.desc.bank0.blank ∧ t.desc.bank1.blank ∧ t.desc.live = .bank0

/-! ### Presence filters and slot sequencers (chapter 2) -/

/-- A change of a raw line that is no presence loss: a line found inactive puts its filter in EMPTY with the timer
stopped; a line that becomes active in EMPTY starts SETTLING with the slot's settle time, or 20 ms on a port; an active
line changes nothing in SETTLING and PRESENT. Nothing else changes. -/
def Obligations.RawLineMovesItsFilter : Prop :=
  ∀ (level : Bool) (s : State),
    (∀ i : SlotId, level = true ∨ (s.filter i).state ≠ .present →
      exec (.presenceInputChange (.slot i) level) s = .next (s.withFilter i
        (if level = false then { raw := false, state := .empty, timer := none }
         else if (s.filter i).state = .empty then
           { raw := true, state := .settling, timer := some (s.slot i).settle.toNat }
         else { s.filter i with raw := true }))) ∧
    (level = true ∨ s.u.filter.state ≠ .present →
      exec (.presenceInputChange (.carrier .u) level) s = .next { s with
        u := { s.u with filter :=
          (if level = false then { raw := false, state := .empty, timer := none }
           else if s.u.filter.state = .empty then { raw := true, state := .settling, timer := some 20 }
           else { s.u.filter with raw := true }) } }) ∧
    ∀ p : DPort, level = true ∨ (s.dl p).filter.state ≠ .present →
      exec (.presenceInputChange (.carrier (.d p)) level) s = .next (s.withD p { s.dl p with filter :=
          (if level = false then { raw := false, state := .empty, timer := none }
           else if (s.dl p).filter.state = .empty then { raw := true, state := .settling, timer := some 20 }
           else { (s.dl p).filter with raw := true }) })

/-- A settle timer that runs out in SETTLING puts a slot's filter in PRESENT and raises SLOT_OCCUPIED. Under MANUAL the
sequencer takes no step; otherwise a slot in IDLE goes, by its gate, to DELAYING (to ENABLED with an enable delay of 0) or
to HELD. Nothing else changes but what the event moves. -/
def Obligations.PresenceArrivingMovesTheSlot : Prop :=
  ∀ (i : SlotId) (n : Nat) (pr : Fin 4) (s : State),
    (s.filter i).state = .settling → (s.filter i).timer = some n → s.ev.takesNew pr .slotOccupied (slotLocus i) →
    (s.slot i).policy = .manual ∨ (s.slot i).state = .idle →
    ∃ t, exec (.settleTimerExpiry (.slot i)) s = .next t ∧
      t.ev.queue = s.ev.queue ++ [latchedRecord s.ev pr .slotOccupied (slotLocus i) 0] ∧
      State.sameButEvents t ((s.withFilter i { s.filter i with state := .present, timer := none }).withSlot i
        (if (s.slot i).policy = .manual then s.slot i
         else if (s.slot i).policy = .auto ∨
             1 ≤ s.desc.pages ∧ ((s.slot i).policy = .descriptor ∨ (s.slot i).permit = true) then
           (if (s.slot i).enableDelay = 0 then
              { s.slot i with state := .enabled, parkReason := .none,
                              timer := if (s.slot i).checkinLimit = 0 then none
                                       else some (100 * (s.slot i).checkinLimit.toNat) }
            else { s.slot i with state := .delaying, parkReason := .none, timer := some (10 * (s.slot i).enableDelay.toNat) })
         else { s.slot i with state := .held, parkReason := .none, timer := none, ejectRequested := false, ejectOp := 0 }))

/-- Presence loss under AUTO, DESCRIPTOR or PERMIT takes the slot to IDLE from every other state: the filter is EMPTY, EN is
low, the slot timer is stopped, the last-read generation is 0 and no eject is requested. A burst ends with EN. From
ENABLED, ONLINE, LEAVING and ANNOUNCING the local entry is gone from the roster; from HELD, DELAYING and PARKED the roster
is as it was. SLOT_PARKED ends, and a commit no longer waits for the slot.
Where that removal makes room in a full roster that has turned remote records away, both refused markers are cleared and
ROSTER_OVERFLOW ends; a marked port in SYNCING or UP is asked for a dump, its loss timer keeping its time (the model's
choice, log 39), and no other port is touched; the completeness flags stand as their causes do.
Presence loss raises SLOT_VACATED under every policy. Under MANUAL the sequencer takes no step: the filter is EMPTY, the
record is queued, and nothing else changes but what the event moves. -/
def Obligations.PresenceLossClosesTheSlot : Prop :=
  (∀ (i : SlotId) (s : State), (s.filter i).state = .present → (s.slot i).policy ≠ .manual → (s.slot i).state ≠ .idle →
     ∃ t, exec (.presenceInputChange (.slot i) false) s = .next t ∧
       t.filter i = { raw := false, state := .empty, timer := none } ∧
       t.slot i = { s.slot i with state := .idle, parkReason := .none, timer := none, lastRead := 0, ejectRequested := false,
                                  ejectOp := 0 } ∧
       t.enLine i = false ∧ (if s.enLine i = true then (t.target i).pin = none else (t.target i).phase = (s.target i).phase) ∧
       (t.target i).lastResult = none ∧
       (if (s.slot i).state = .held ∨ (s.slot i).state = .delaying ∨ (s.slot i).state = .parked then t.roster = s.roster
        else State.entryGone i s t) ∧
       ((s.slot i).state = .parked → t.ev.localHolds .slotParked (slotLocus i) = false) ∧
       ((s.slot i).state = .announcing → ∀ d, t.desc.commit = some d → i ∉ d.selected) ∧
       t.host.memory = s.host.memory ∧ State.slotFrame i s t) ∧
  (∀ (i : SlotId) (s : State), (s.filter i).state = .present → (s.slot i).policy ≠ .manual →
    (s.slot i).state = .enabled ∨ (s.slot i).state = .online ∨ (s.slot i).state = .leaving ∨
      (s.slot i).state = .announcing → s.localEntry i ≠ none → s.roster.entries.length ≤ 96 →
    s.roster.marker1 = true ∨ s.roster.marker2 = true →
    ∃ t, exec (.presenceInputChange (.slot i) false) s = .next t ∧ t.roster.marker1 = false ∧ t.roster.marker2 = false ∧
      t.ev.localHolds .rosterOverflow rackLocus = false ∧ t.roster.flags = t.causedFlags ∧
      ∀ p, t.dl p = if s.roster.marker p = true ∧ (s.dl p).state.active = true then
                      { s.dl p with state := .syncing, syncPhase := .awaiting, syncTimer := some 500 }.send .resync
                    else s.dl p) ∧
  ∀ (i : SlotId) (pr : Fin 4) (s : State), (s.filter i).state = .present →
    s.ev.takesNew pr .slotVacated (slotLocus i) →
    ((s.slot i).policy = .manual →
      ∃ t, exec (.presenceInputChange (.slot i) false) s = .next t ∧
        t.ev.queue = s.ev.queue ++ [latchedRecord s.ev pr .slotVacated (slotLocus i) 0] ∧
        State.sameButEvents t (s.withFilter i { raw := false, state := .empty, timer := none })) ∧
    (s.ev.queue.length + 8 ≤ 32 →
      ∃ t, exec (.presenceInputChange (.slot i) false) s = .next t ∧
        ∃ r ∈ t.ev.queue, r.kind = .slotVacated ∧ r.locus = slotLocus i ∧ r.detail = 0 ∧ r.priority = pr)

/-- The enable delay runs out: the slot enters ENABLED with the check-in limit loaded, and EN rises. Where the slot
is not in DELAYING with its timer running nothing happens: the model's choice, log 4. -/
def Obligations.EnableDelayExpiryEnables : Prop :=
  ∀ (i : SlotId) (s : State), exec (.enableDelayExpiry i) s = .next
    (if (s.slot i).state = .delaying ∧ (s.slot i).timer ≠ none then
       s.withSlot i { s.slot i with state := .enabled, parkReason := .none,
                                    timer := if (s.slot i).checkinLimit = 0 then none
                                             else some (100 * (s.slot i).checkinLimit.toNat) }
     else s)

/-- An eject ends by its timer or by RELEASE: the slot is PARKED with reason EJECTED, EN drops, the local entry is
removed, OP_DONE is raised with result FORCED or RELEASED, and the operation table entry is freed, and no other. -/
def Obligations.EjectEndsByTimerOrRelease : Prop :=
  ∀ (i : SlotId) (pr : Fin 4) (s : State) (c : Instr) (result : EjectResult), (s.slot i).state = .leaving →
    (c = .ejectTimerExpiry i ∧ (s.slot i).timer ≠ none ∧ result = .forced ∨ c = .release i ∧ result = .released) →
    (s.target i).pin = none → s.ev.takesNew pr .opDone (opLocus (some i) (s.slot i).ejectOp) → s.ev.queue.length + 5 ≤ 32 →
    ∃ t, exec c s = .next t ∧
      t.slot i = { s.slot i with state := .parked, parkReason := .ejected, timer := none, ejectRequested := false,
                                 ejectOp := 0 } ∧
      t.enLine i = false ∧ t.filter i = s.filter i ∧ State.entryGone i s t ∧
      t.ops = { s.ops with entries := s.ops.entries.filter fun e => decide (e.op ≠ (s.slot i).ejectOp) } ∧
      (∃ r ∈ t.ev.queue, r.kind = .opDone ∧ r.locus = opLocus (some i) (s.slot i).ejectOp ∧ r.style = .latched ∧
        r.priority = pr ∧ r.detail = detailOf (ejectResultCode result)) ∧
      t.target i = (if c = .release i then { s.target i with phase := .holding [slotResultCode .ok] 0 } else s.target i) ∧
      t.desc = s.desc ∧ t.host.memory = s.host.memory ∧ State.slotFrame i s t

/-- The re-announce pulse ends and the gate is evaluated: with the idle condition the slot goes to IDLE and its entry is
removed; with the gate open EN rises at once and the slot is ENABLED with the check-in limit loaded afresh; with the gate
closed the local entry is removed and the slot goes to HELD. The commit no longer waits for the slot. -/
def Obligations.PulseEndAppliesTheGate : Prop :=
  ∀ (i : SlotId) (n : Nat) (s : State), (s.slot i).state = .announcing → (s.slot i).timer = some n →
    ∃ t, exec (.pulseTimerExpiry i) s = .next t ∧
      (if s.idleCond i = true then
         State.entryGone i s t ∧
           t.slot i = { s.slot i with state := .idle, parkReason := .none, timer := none, lastRead := 0,
                                      ejectRequested := false, ejectOp := 0 }
       else if s.gateOpen i = true then
         t.roster = s.roster ∧
           t.slot i = { s.slot i with state := .enabled, parkReason := .none,
                                      timer := if (s.slot i).checkinLimit = 0 then none
                                               else some (100 * (s.slot i).checkinLimit.toNat) }
       else
         State.entryGone i s t ∧
           t.slot i = { s.slot i with state := .held, parkReason := .none, timer := none, ejectRequested := false,
                                      ejectOp := 0 }) ∧
      (∀ d, t.desc.commit = some d → i ∉ d.selected) ∧ t.filter i = s.filter i ∧ t.host.memory = s.host.memory ∧ State.slotFrame i s t

/-! ### The descriptor (chapter 4) -/

/-- The copying timer runs out: the target bank becomes live with the whole copy, every page below the page count (and
page 0) holding staging's bytes 0 to 125 with the new generation in bytes 0 and 1 of page 0, and in bytes 126 and 127 the
CRC of its own bytes 0 to 125; pages beyond hold 0xFF. Staging and the other bank are unchanged. Where nothing is to be
announced the commit ends: its operation is freed, and no slot under AUTO or MANUAL moves.
What the SWITCH does to the slots. With nothing to announce every slot under DESCRIPTOR or PERMIT goes where its gate with
the new page count takes it, and one that loses EN loses its local entry. With a re-announcement every slot that stays in
ENABLED or ONLINE and has read another generation begins its pulse: ANNOUNCING with the pulse width, EN low, its burst
ended, among the commit's selected slots; an ONLINE entry becomes RETURNING without a grant and PWR is low. A slot in
LEAVING, or that has read nothing or the new generation, is not selected. A branch on a link in SYNCING or UP sends INFO
with the new rack id and class. -/
def Obligations.SwitchPublishesTheWholeCopy : Prop :=
  (∀ (c : Commit) (n : Nat) (s : State), s.desc.commit = some c → c.phase = .copying → c.timer = some n →
     ∃ t, exec .copyingTimerExpiry s = .next t ∧ t.desc.live = c.target ∧ t.desc.staging = s.desc.staging ∧
       t.desc.bank c.target.other = s.desc.bank c.target.other ∧
       (∀ page, page < 8 → page < headerPages s.desc.staging ∨ page = 0 →
         (∀ offset, offset < 126 → (t.desc.bank c.target).read (pageAddr page offset) =
           if page = 0 ∧ offset = 0 then c.newGen.extractLsb' 8 8
           else if page = 0 ∧ offset = 1 then c.newGen.extractLsb' 0 8
           else s.desc.staging.read (pageAddr page offset)) ∧
         (t.desc.bank c.target).readAll (pageAddr page 126) 2 =
           be16 (crc16 ((t.desc.bank c.target).readAll (pageAddr page 0) 126))) ∧
       (∀ page, page < 8 → headerPages s.desc.staging ≤ page → page ≠ 0 → ∀ offset, offset < 128 →
         (t.desc.bank c.target).read (pageAddr page offset) = 0xFF) ∧
       (c.reannounce = false ∨ headerPages s.desc.staging = 0 →
         t.desc.commit = none ∧ c.op ∉ t.ops.ids ∧
           ∀ i, (s.slot i).policy = .auto ∨ (s.slot i).policy = .manual → t.slot i = s.slot i) ∧
       t.role = s.role ∧ t.rack = s.rack ∧ t.filters = s.filters ∧ t.host.memory = s.host.memory ∧
       t.host.buffer = s.host.buffer ∧ t.budget.units = s.budget.units ∧ t.rescan = s.rescan ∧ t.pending = s.pending) ∧
  ∀ (c : Commit) (n : Nat) (i : SlotId) (s : State), s.desc.commit = some c → c.phase = .copying → c.timer = some n →
    ∃ t, exec .copyingTimerExpiry s = .next t ∧
      (c.reannounce = false ∨ headerPages s.desc.staging = 0 →
        (s.slot i).policy = .descriptor ∨ (s.slot i).policy = .permit →
        (t.slot i).state = (s.slot i).state.evaluated (decide ((s.filter i).state ≠ .present))
          (decide ((s.filter i).state = .present ∧ 1 ≤ headerPages s.desc.staging ∧
            ((s.slot i).policy = .permit → (s.slot i).permit = true))) false (decide ((s.slot i).enableDelay = 0)) ∧
        (s.enLine i = true → t.enLine i = false → t.localEntry i = none)) ∧
      (c.reannounce = true → 1 ≤ headerPages s.desc.staging → (s.slot i).state = .enabled ∨ (s.slot i).state = .online →
        (s.slot i).lastRead ≠ 0 → (s.slot i).lastRead ≠ c.newGen →
        (s.slot i).policy = .auto ∨ (s.slot i).policy = .manual ∨
          (s.filter i).state = .present ∧ ((s.slot i).policy = .permit → (s.slot i).permit = true) →
        t.slot i = { s.slot i with state := .announcing, timer := some (10 * s.rack.pulseWidth.toNat) } ∧
        t.enLine i = false ∧ (t.target i).pin = none ∧
        (∃ d, t.desc.commit = some d ∧ d.phase = .announcing ∧ d.op = c.op ∧ d.newGen = c.newGen ∧ i ∈ d.selected) ∧
        (s.budgetLaw → t.pwrLine i = false ∧
          ∀ o, s.localEntry i = some o → o.state = .online →
            t.localEntry i = some { o with state := .returning, grant := .none })) ∧
      ((s.slot i).state = .leaving ∨ (s.slot i).lastRead = 0 ∨ (s.slot i).lastRead = c.newGen →
        ∀ d, t.desc.commit = some d → i ∉ d.selected) ∧
      (s.role = .branch → s.u.state.active = true →
        { msg := .info (headerRackId t.desc.liveBank) (headerRackClass t.desc.liveBank), resets := none } ∈ t.u.tx.frames)

/-- DESC WRITE at a root: its refusals in their order, and the write, which stores the data in staging from its address
on and changes nothing else; a payload whose length byte does not match is refused BAD_LENGTH. -/
def Obligations.DescWriteStoresInStaging : Prop :=
  ∀ (tag page offset length : Byte) (data : List Byte) (s : State), data.length ≤ 197 →
    s.ready ⟨0x20, tag, page :: offset :: length :: data⟩ = true →
    exec (.descWrite tag page offset length data) s = .next
      (if data.length ≠ length.toNat then
         s.refused ⟨0x20, tag, page :: offset :: length :: data⟩ .badLength (word16Of (data.length + 3))
       else if 7 < page.toNat ∨ data.length = 0 ∨ 64 < data.length ∨ 128 < offset.toNat + data.length then
         s.refused ⟨0x20, tag, page :: offset :: length :: data⟩ .badArgument 0
       else if (page.toNat = 0 ∧ offset.toNat < 2) ∨ 126 < offset.toNat + data.length then
         s.refused ⟨0x20, tag, page :: offset :: length :: data⟩ .protectedBytes 0
       else if ∃ c, s.desc.commit = some c ∧ c.phase = .copying then
         s.refused ⟨0x20, tag, page :: offset :: length :: data⟩ .stagingBusy 0
       else
         { s with desc := { s.desc with staging := s.desc.staging.writeAll (128 * page.toNat + offset.toNat) data } }.replied
           ⟨0x20, tag, page :: offset :: length :: data⟩ .ok [])

/-- DESC COMMIT at a root: its refusals in their order, or ACCEPTED with the table's next op id and an operation table
entry. With no pin on the inactive bank the engine enters COPYING at once, with its time by staging's page count and the
live generation plus one, from 65535 to 1; with a pin it waits in DRAINING. Nothing else changes. -/
def Obligations.DescCommitBeginsACommit : Prop :=
  ∀ (tag flag : Byte) (s : State), s.ready ⟨0x22, tag, [flag]⟩ = true →
    exec (.descCommit tag flag) s = .next
      (if flag ≠ 0 ∧ flag ≠ 1 then s.refused ⟨0x22, tag, [flag]⟩ .badArgument 0
       else if s.desc.commit ≠ none then s.refused ⟨0x22, tag, [flag]⟩ .busy 0
       else if 8 < headerPages s.desc.staging then s.refused ⟨0x22, tag, [flag]⟩ .badArgument 0
       else if 4 ≤ s.ops.entries.length then s.refused ⟨0x22, tag, [flag]⟩ .busy 0
       else
         State.replied
           { s with
             ops := s.ops.take .commit (.host tag) none none,
             desc := { s.desc with
                       commit := if s.pinCount s.desc.live.other = 0 then
                                   some { phase := .copying, op := s.ops.nextOp, reannounce := decide (flag = 1),
                                          target := s.desc.live.other,
                                          timer := some (if headerPages s.desc.staging = 0 then 1
                                                         else 2 * headerPages s.desc.staging),
                                          newGen := if s.desc.generation = 0xFFFF then 1 else s.desc.generation + 1,
                                          selected := [] }
                                 else
                                   some { phase := .draining, op := s.ops.nextOp, reannounce := decide (flag = 1),
                                          target := s.desc.live.other, timer := none, newGen := 0, selected := [] } } }
           ⟨0x22, tag, [flag]⟩ .accepted [s.ops.nextOp])

/-! ### The host link (chapter 9) -/

/-- The byte that completes a host frame whose CRC is wrong raises HOST_FRAME_ERROR with cause 1 and the tag, and the
receiver hunts again; nothing else changes but what the event moves.
What HOST_FRAME_ERROR meets: of a kind that is OFF nothing is queued; a pending record of it gains an occurrence and takes
the new detail; a full queue discards, of the records not in flight, the one of the lowest priority that entered last,
where the new one stands above it, or else the new one, and the lost count rises. At a root a record that enters an
empty queue, or above the announced priority, hands ATTENTION on with the number pending and the highest priority, which
becomes the announced one.
The byte that completes a good host frame does what the command that stands for that frame does: a frame of HELLO is
HELLO, one of SLOT CONFIGURE is SLOT CONFIGURE, and so for every request, whatever its fields, and for a frame of an
unknown kind or of a length that no layout allows. -/
def Obligations.CompletedHostFrameIsJudgedByItsCrc : Prop :=
  (∀ (b hi : Byte) (kind tag : Byte) (payload : List Byte) (pr : Fin 4) (s : State),
     payload.length ≤ 200 → s.host.rx.phase = .body (byteOf payload.length) (kind :: tag :: payload ++ [hi]) →
     hi ++ b ≠ crc16 (byteOf payload.length :: kind :: tag :: payload) →
     s.ev.takesNew pr .hostFrameError rackLocus →
     ∃ t, exec (.hostByteReceived b) s = .next t ∧
       t.ev.queue = s.ev.queue ++ [latchedRecord s.ev pr .hostFrameError rackLocus ((1 : Byte) ++ tag)] ∧
       State.sameButEvents t s.hostHunting) ∧
  (∀ (b hi : Byte) (kind tag : Byte) (payload : List Byte) (pr top : Fin 4) (x : EvRecord) (before after : List EvRecord)
     (s : State),
     payload.length ≤ 200 → s.host.rx.phase = .body (byteOf payload.length) (kind :: tag :: payload ++ [hi]) →
     hi ++ b ≠ crc16 (byteOf payload.length :: kind :: tag :: payload) →
     (s.ev.setting .hostFrameError = none → exec (.hostByteReceived b) s = .next s.hostHunting) ∧
     (s.ev.setting .hostFrameError ≠ none → s.ev.isPending .hostFrameError rackLocus = true →
       exec (.hostByteReceived b) s = .next { s.hostHunting with
         ev := { s.ev with queue := s.ev.queue.map fun r =>
           if r.kind = .hostFrameError ∧ r.locus = rackLocus then
             { r with count := min 255 (r.count + 1), detail := (1 : Byte) ++ tag, origin := [] }
           else r } }) ∧
     (s.ev.setting .hostFrameError = some pr → s.ev.isPending .hostFrameError rackLocus = false →
       32 ≤ s.ev.queue.length → s.role = .root ∨ s.ev.inFlight ≠ none ∨ s.u.state ≠ .up →
       (s.ev.queue.filter fun r => decide (some r.seq ≠ s.ev.flightSeq)) = before ++ x :: after →
       (∀ r ∈ before, x.priority ≤ r.priority) → (∀ r ∈ after, x.priority < r.priority) →
       (pr ≤ x.priority → exec (.hostByteReceived b) s = .next
         { s.hostHunting with ev := { s.ev with lost := min 255 (s.ev.lost + 1) } }) ∧
       (x.priority < pr → ∃ t, exec (.hostByteReceived b) s = .next t ∧
         t.ev.queue = (s.ev.queue.filter fun r => decide (r.seq ≠ x.seq)) ++
           [latchedRecord s.ev pr .hostFrameError rackLocus ((1 : Byte) ++ tag)] ∧
         t.ev.lost = min 255 (s.ev.lost + 1) ∧ State.sameButEvents t s.hostHunting)) ∧
     (s.role = .root → s.ev.takesNew pr .hostFrameError rackLocus → pr ≤ top → (∀ r ∈ s.ev.queue, r.priority ≤ top) →
       top = pr ∨ (∃ r ∈ s.ev.queue, r.priority = top) →
       ∃ t, exec (.hostByteReceived b) s = .next t ∧
         if s.ev.queue = [] ∨ s.ev.announced = none ∨ (∃ q, s.ev.announced = some q ∧ q < pr) then
           t.ev.announced = some top ∧ t.host = s.hostHunting.host.hand
             { sort := .attention, frame := ⟨0x8F, 0, [byteOf (s.ev.queue.length + 1), byteOf top.val]⟩, resets := none }
         else t.ev.announced = s.ev.announced ∧ t.host = s.hostHunting.host)) ∧
  ∀ (b hi : Byte) (kind tag : Byte) (payload : List Byte) (s : State) (c : Instr),
    payload.length ≤ 200 → s.host.rx.phase = .body (byteOf payload.length) (kind :: tag :: payload ++ [hi]) →
    hi ++ b = crc16 (byteOf payload.length :: kind :: tag :: payload) → hostFrameOf c = some ⟨kind, tag, payload⟩ →
    exec (.hostByteReceived b) s = exec c s.hostHunting

/-- What is refused before any owning rule: by any part a zero tag, answered BAD_TAG and not remembered, whatever the frame;
by a root an unknown kind, and a request of any kind whose length its layout does not allow, which the command of an
unknown kind stands for too (log 6); and by a branch an inner request of such a length. That the length is judged before
the exceptions of R122, so of an EVENT FETCH, an EVENT ACK and a FORWARD too, is the model's order, log 22.
A branch answers every request of its own host NOT_ROOT, HELLO apart, and executes none of them; HELLO it answers. -/
def Obligations.RequestsAreRefusedBeforeTheirRules : Prop :=
  (∀ (kind tag count : Byte) (payload : List Byte) (seqs : List Word16) (c : Instr) (f : HostFrame) (s : State),
     payload.length ≤ 200 → seqs.length ≤ 99 →
     (isRequest kind = false → s.ready ⟨kind, tag, payload⟩ = true →
       exec (.requestUnknownKind kind tag payload) s = .next
         (s.refused ⟨kind, tag, payload⟩ .unknownKind ((0 : Byte) ++ kind))) ∧
     (isRequest kind = true → lengthAllowed kind payload = false →
       (s.ready ⟨kind, tag, payload⟩ = true →
         exec (.requestUnknownKind kind tag payload) s = .next
           (s.refused ⟨kind, tag, payload⟩ .badLength (word16Of payload.length))) ∧
       (s.hearsParent → payload.length ≤ 198 →
         exec (.forwardRequest .u tag 0 kind payload) s = .next
           (s.sentUp (.forwardReply tag .refused (refusalPayload .badLength (word16Of payload.length)))))) ∧
     (seqs.length ≠ count.toNat → s.ready ⟨0x51, tag, count :: seqs.flatMap be16⟩ = true →
       exec (.eventAck tag count seqs) s = .next
         (s.refused ⟨0x51, tag, count :: seqs.flatMap be16⟩ .badLength (word16Of (1 + 2 * seqs.length)))) ∧
     (hostFrameOf c = some f → f.payload.length ≤ 200 → f.tag = 0 → s.takes →
       exec c s = .next (s.handed
         { sort := .reply, frame := replyFrame 0 .refused [refCode .badTag, 0, 0], resets := none }))) ∧
  ∀ (tag : Byte) (c : Instr) (f : HostFrame) (s : State), s.role = .branch → f.tag ≠ 0 → s.takes →
    (∀ m, s.host.memory = some m → m.describes f = false) →
    (hostFrameOf c = some f → f.payload.length ≤ 200 → f.kind ≠ 0x01 → exec c s = .next (s.refused f .notRoot 1)) ∧
    (f = ⟨0x01, tag, []⟩ → exec (.hello tag) s = .next (s.replied f .ok (helloData s)))

/-- A frame that repeats the one the repeat memory describes is not executed again: it is answered with the stored reply, and
discarded while the FORWARD it repeats waits for its reply.
A good frame that completes while four are buffered is neither buffered nor remembered: it is answered OVERRUN, out of
turn and under its own tag, while fewer than four such answers wait, and else raises HOST_FRAME_ERROR with cause 2 and its
tag. -/
def Obligations.RepeatsAndOverrunsAreOnlyAnswered : Prop :=
  (∀ (c : Instr) (f r : HostFrame) (op : Byte) (m : RepeatRec) (s : State), hostFrameOf c = some f →
     f.payload.length ≤ 200 → f.tag ≠ 0 → s.takes → s.host.memory = some m → m.tag = f.tag → m.kind = f.kind →
     m.crc = crc16 (byteOf f.payload.length :: f.kind :: f.tag :: f.payload) →
     (m.reply = .frame r → exec c s = .next (s.handed { sort := .reply, frame := r, resets := none })) ∧
     (m.reply = .pending op → exec c s = .next s)) ∧
  ∀ (c : Instr) (f : HostFrame) (pr : Fin 4) (s : State), hostFrameOf c = some f → f.payload.length ≤ 200 →
    s.host.buffer.length = 4 →
    (s.host.waitingOf .overrun < 4 → exec c s = .next (s.handed
      { sort := .overrun, frame := replyFrame f.tag .refused [refCode .overrun, 0, 0], resets := none })) ∧
    (4 ≤ s.host.waitingOf .overrun → s.ev.takesNew pr .hostFrameError rackLocus →
      ∃ t, exec c s = .next t ∧
        t.ev.queue = s.ev.queue ++ [latchedRecord s.ev pr .hostFrameError rackLocus ((2 : Byte) ++ f.tag)] ∧
        State.sameButEvents t s)

/-- PART RESET at a root: a flag other than 0 and 1 is refused; a taken one is answered OK, and its reply, remembered and
handed on, carries the reset that begins when it has been sent. Nothing else changes until then. -/
def Obligations.PartResetIsTakenWithItsReply : Prop :=
  ∀ (tag keep : Byte) (s : State), s.ready ⟨0x02, tag, [keep]⟩ = true →
    exec (.partReset tag keep) s = .next
      (if keep = 0 ∨ keep = 1 then
         State.handed
           { s with host := { s.host with
             memory := some (recordOf ⟨0x02, tag, [keep]⟩ (.frame (replyFrame tag .ok []))) } }
           { sort := .reply, frame := replyFrame tag .ok [], resets := some (decide (keep = 1)) }
       else s.refused ⟨0x02, tag, [keep]⟩ .badArgument 0)

/-- FORWARD at a root: its refusals in their order; a taken one takes an operation table entry with a hop timeout of 250
ms, sends FORWARD REQUEST under the op id on the path's first port with the rest of the path, and is remembered as
waiting; no reply goes out yet, and nothing else changes. -/
def Obligations.ForwardIsSentDown : Prop :=
  ∀ (tag path kind : Byte) (payload : List Byte) (p : DPort) (rest : Path) (s : State), payload.length ≤ 198 →
    s.ready ⟨0x03, tag, path :: kind :: payload⟩ = true →
    (pathOf path = none ∨ pathOf path = some [] ∨ (∃ q, pathOf path = some q ∧ 3 < q.length) →
      exec (.forward tag path kind payload) s = .next (s.refused ⟨0x03, tag, path :: kind :: payload⟩ .badPath 0)) ∧
    (pathOf path = some (p :: rest) → rest.length ≤ 2 →
      exec (.forward tag path kind payload) s = .next
        (if kind = 0x03 then s.refused ⟨0x03, tag, path :: kind :: payload⟩ .badArgument 0
         else if (s.dl p).state ≠ .up then s.refused ⟨0x03, tag, path :: kind :: payload⟩ .noRoute 0
         else if 4 ≤ s.ops.entries.length then s.refused ⟨0x03, tag, path :: kind :: payload⟩ .busy 0
         else
           { s.withD p ((s.dl p).send (.forwardRequest s.ops.nextOp (pathByte rest) kind payload)) with
             ops := s.ops.take .forward (.host tag) (some p) (some 250),
             host := { s.host with
                       memory := some (recordOf ⟨0x03, tag, path :: kind :: payload⟩ (.pending s.ops.nextOp)) } }))

/-! ### The requests of chapters 1, 2, 5, 6, 7 and 8 -/

/-- ROSTER READ with an expected generation that differs from the roster generation is refused with STALE, carries the
current generation, and changes nothing: at a root for its host, at a branch for its parent. -/
def Obligations.StaleRosterReadIsRefused : Prop :=
  ∀ (tag start count : Byte) (g : Word32) (s : State), count.toNat ≤ 5 → g ≠ s.roster.generation →
    (s.ready ⟨0x30, tag, start :: count :: be32 g⟩ = true →
      exec (.rosterRead tag start count (some g)) s = .next (s.replied ⟨0x30, tag, start :: count :: be32 g⟩ .refused
        (refCode .stale :: be16 (s.roster.generation.extractLsb' 0 16) ++ be32 s.roster.generation))) ∧
    (s.hearsParent →
      exec (.forwardRequest .u tag 0 0x30 (start :: count :: be32 g)) s = .next (s.sentUp (.forwardReply tag .refused
        (refCode .stale :: be16 (s.roster.generation.extractLsb' 0 16) ++ be32 s.roster.generation))))

/-- The requests that read: at a root with its host link free each is answered OK with its data and changes nothing but
the host link; HELLO and BRANCH STATUS are so answered at a branch for its parent too. The data are given byte by byte:
HELLO with the operations by ascending op id, BUDGET STATUS with the waiting list in its order and the GRANTED slots in
slot order, BRANCH STATUS with the branch table. The hardware revision is a free value, log 12.
DESC READ at a root returns the bytes asked for, of staging with generation and page count 0, or of the live bank with
its own; a request out of range is refused. Nothing else changes.
ROSTER READ at a root answers with the generation, the number held, the flags, whether an expected generation matched,
and the entries from the start position on, at most as many as asked for; a count above 5 is refused. -/
def Obligations.ReadingRequestsChangeNothing : Prop :=
  (∀ (tag : Byte) (i : SlotId) (es : List OpEntry) (table ports : List Byte) (s : State),
     es.Perm s.ops.entries → es.Pairwise (fun a b => a.op.toNat < b.op.toNat) →
     table = [10, 96, 32, 4, 3, byteOf es.length] ++ es.flatMap (fun e =>
       [e.op, opKindCode e.kind,
         (match e.origin with
           | .host tag => tag
           | .upstream tag => tag)]) →
     ports = [DPort.d1, .d2].flatMap (fun p =>
       linkStateCode (s.dl p).state ::
         (match (s.dl p).child with
           | none => [0, 0, 0, 0, 0, 0, 0, 0, 0, 0xFF]
           | some c => 1 :: be32 c.rackId ++ be16 c.rackClass ++ [c.revision, byteOf c.tier, c.reported.elim 0xFF flagsByte]) ++
         [if s.roster.marker p = true then 1 else 0]) →
     (s.ready ⟨0x01, tag, []⟩ = true → exec (.hello tag) s = .next
       (s.replied ⟨0x01, tag, []⟩ .ok ([0x4A, 0x56, 0x10, 0x40, Config.hardwareRevision, 0, 0] ++ table))) ∧
     (s.hearsParent → exec (.forwardRequest .u tag 0 0x01 []) s = .next
       (s.sentUp (.forwardReply tag .ok
         ([0x4A, 0x56, 0x10, 0x40, Config.hardwareRevision, 1, s.tier.elim 0xFF byteOf] ++ table)))) ∧
     (s.ready ⟨0x14, tag, [slotByte i]⟩ = true →
       exec (.slotStatus tag (slotByte i)) s = .next (s.replied ⟨0x14, tag, [slotByte i]⟩ .ok
         ([slotByte i, slotStateCode (s.slot i).state, parkReasonCode (s.slot i).parkReason, policyCode (s.slot i).policy,
           (s.slot i).settle, (s.slot i).enableDelay, (s.slot i).checkinLimit, filterStateCode (s.filter i).state,
           byteOf ((if (s.slot i).permit then 1 else 0) + (if s.gateOpen i then 2 else 0) + (if s.enLine i then 4 else 0) +
             (if s.pwrLine i then 8 else 0) + (if (s.slot i).ejectRequested then 16 else 0))] ++
           be16 (s.slot i).lastRead ++ [(s.slot i).ejectOp] ++ be16 (word16Of ((s.slot i).timer.getD 0))))) ∧
     (s.ready ⟨0x39, tag, []⟩ = true → (∀ j ∈ s.budget.waiting, s.localEntry j ≠ none) →
       exec (.budgetStatus tag) s = .next (s.replied ⟨0x39, tag, []⟩ .ok
         ([byteOf s.budget.units, byteOf (grantedSum s.roster.entries),
           (match s.budget.waiting.head?.bind s.localEntry with
             | some e => if s.budget.units - grantedSum s.roster.entries < 2 ^ e.draw.val then 1 else 0
             | none => 0),
           byteOf s.budget.waiting.length] ++
           s.budget.waiting.flatMap (fun j => (s.localEntry j).elim []
             fun e => [byteOf (j.val + 1), byteOf e.draw.val, byteOf (2 ^ e.draw.val)]) ++
           [byteOf ((List.finRange 10).filter fun j => decide (s.slotGrant j = .granted)).length] ++
           ((List.finRange 10).filter fun j => decide (s.slotGrant j = .granted)).flatMap (fun j =>
             (s.localEntry j).elim [] fun e => [byteOf (j.val + 1), byteOf e.draw.val, byteOf (2 ^ e.draw.val)])))) ∧
     (s.ready ⟨0x40, tag, []⟩ = true → exec (.branchStatus tag) s = .next
       (s.replied ⟨0x40, tag, []⟩ .ok ([0, linkStateCode s.u.state, 0, 0] ++ ports))) ∧
     (s.hearsParent → exec (.forwardRequest .u tag 0 0x40 []) s = .next
       (s.sentUp (.forwardReply tag .ok
         ([1, linkStateCode s.u.state, s.tier.elim 0xFF byteOf, pathByte s.ownPath] ++ ports))))) ∧
  (∀ (tag copy page offset length : Byte) (s : State), s.ready ⟨0x21, tag, [copy, page, offset, length]⟩ = true →
     exec (.descRead tag copy page offset length) s = .next
       (if 1 < copy.toNat ∨ 7 < page.toNat ∨ length.toNat = 0 ∨ 128 < offset.toNat + length.toNat then
          s.refused ⟨0x21, tag, [copy, page, offset, length]⟩ .badArgument 0
        else
          s.replied ⟨0x21, tag, [copy, page, offset, length]⟩ .ok
            (if copy = 0 then
               0 :: 0 :: 0 :: (List.range length.toNat).map fun k =>
                 s.desc.staging.read (128 * page.toNat + offset.toNat + k)
             else
               be16 s.desc.generation ++ [byteOf s.desc.pages] ++ (List.range length.toNat).map fun k =>
                 s.desc.liveBank.read (128 * page.toNat + offset.toNat + k)))) ∧
  ∀ (tag start count : Byte) (s : State),
    (s.ready ⟨0x30, tag, [start, count]⟩ = true → exec (.rosterRead tag start count none) s = .next
      (if 5 < count.toNat then s.refused ⟨0x30, tag, [start, count]⟩ .badArgument 0
       else s.replied ⟨0x30, tag, [start, count]⟩ .ok
         (be32 s.roster.generation ++ [byteOf s.roster.entries.length, flagsByte s.roster.flags, 0] ++
           ((s.roster.entries.drop start.toNat).take count.toNat).flatMap hostEntryBytes))) ∧
    (s.ready ⟨0x30, tag, start :: count :: be32 s.roster.generation⟩ = true → count.toNat ≤ 5 →
      exec (.rosterRead tag start count (some s.roster.generation)) s = .next
        (s.replied ⟨0x30, tag, start :: count :: be32 s.roster.generation⟩ .ok
          (be32 s.roster.generation ++ [byteOf s.roster.entries.length, flagsByte s.roster.flags, 1] ++
            ((s.roster.entries.drop start.toNat).take count.toNat).flatMap hostEntryBytes)))

/-- ROSTER SUMMARY answers OK with the numbers of entries, local entries and entries in each state, the generation, the
flags and the refused markers, and changes nothing: at a root for its host, at a branch for its parent. The four numbers
make the number held. -/
def Obligations.RosterSummaryDescribesTheRoster : Prop :=
  ∀ (tag : Byte) (s : State) (online returning leaving conflict : Nat) (data : List Byte),
    online = (s.roster.entries.filter fun e => decide (e.state = .online)).length →
    returning = (s.roster.entries.filter fun e => decide (e.state = .returning)).length →
    leaving = (s.roster.entries.filter fun e => decide (e.state = .leaving)).length →
    conflict = (s.roster.entries.filter fun e => decide (e.state = .conflict)).length →
    data = [byteOf s.roster.entries.length, byteOf (s.roster.entries.filter fun e => decide (e.key.path = [])).length] ++
      be32 s.roster.generation ++ [flagsByte s.roster.flags, byteOf online, byteOf returning, byteOf leaving,
        byteOf conflict, byteOf ((if s.roster.marker1 then 1 else 0) + (if s.roster.marker2 then 2 else 0))] →
    (s.ready ⟨0x31, tag, []⟩ = true → exec (.rosterSummary tag) s = .next (s.replied ⟨0x31, tag, []⟩ .ok data)) ∧
    (s.hearsParent → exec (.forwardRequest .u tag 0 0x31 []) s = .next (s.sentUp (.forwardReply tag .ok data))) ∧
    online + returning + leaving + conflict = s.roster.entries.length

/-- RACK CONFIGURE at a root stores both settings and answers with them, or is refused and changes nothing; a timer that
runs keeps its time. -/
def Obligations.RackConfigureStoresBothSettings : Prop :=
  ∀ (tag width timeout : Byte) (s : State), s.ready ⟨0x15, tag, [width, timeout]⟩ = true →
    exec (.rackConfigure tag width timeout) s = .next
      (if width.toNat < 1 ∨ 100 < width.toNat ∨ timeout.toNat < 1 then
         s.refused ⟨0x15, tag, [width, timeout]⟩ .badArgument 0
       else
         { s with rack := { pulseWidth := width, ejectTimeout := timeout } }.replied ⟨0x15, tag, [width, timeout]⟩ .ok
           [width, timeout])

/-- A slot request that names no slot, and one with a setting out of range, is refused BAD_ARGUMENT and changes nothing.
SLOT CONFIGURE stores its four settings and SLOT PERMIT its flag, in every slot state; the gate is evaluated, the slot
goes where the evaluation takes it (a change to MANUAL with the permit flag set ends an enable delay; that it takes a
HELD slot to DELAYING is the model's choice, log 10), a slot that loses EN loses its local entry, and the reply is OK with
the state after the evaluation. The slot's filter, every other slot and what else a slot's happening leaves alone are as
before. -/
def Obligations.SlotSettingsAreStoredAndEvaluated : Prop :=
  (∀ (tag slot policy settle delay limit value : Byte) (s : State),
     ((slot = 0 ∨ 10 < slot.toNat) ∨ 3 < policy.toNat ∨ settle = 0 →
       s.ready ⟨0x10, tag, [slot, policy, settle, delay, limit]⟩ = true →
       exec (.slotConfigure tag slot policy settle delay limit) s = .next
         (s.refused ⟨0x10, tag, [slot, policy, settle, delay, limit]⟩ .badArgument 0)) ∧
     ((slot = 0 ∨ 10 < slot.toNat) ∨ 1 < value.toNat → s.ready ⟨0x11, tag, [slot, value]⟩ = true →
       exec (.slotPermit tag slot value) s = .next (s.refused ⟨0x11, tag, [slot, value]⟩ .badArgument 0)) ∧
     (slot = 0 ∨ 10 < slot.toNat →
       (s.ready ⟨0x12, tag, [slot]⟩ = true →
         exec (.slotResume tag slot) s = .next (s.refused ⟨0x12, tag, [slot]⟩ .badArgument 0)) ∧
       (s.ready ⟨0x13, tag, [slot]⟩ = true →
         exec (.slotEject tag slot) s = .next (s.refused ⟨0x13, tag, [slot]⟩ .badArgument 0)) ∧
       (s.ready ⟨0x14, tag, [slot]⟩ = true →
         exec (.slotStatus tag slot) s = .next (s.refused ⟨0x14, tag, [slot]⟩ .badArgument 0)))) ∧
  ∀ (tag : Byte) (i : SlotId) (policy : Policy) (settle delay limit : Byte) (v : Bool) (s stored : State) (c : Instr)
    (f : HostFrame), s.ready f = true →
    (c = .slotConfigure tag (slotByte i) (policyCode policy) settle delay limit ∧ settle ≠ 0 ∧
        f = ⟨0x10, tag, [slotByte i, policyCode policy, settle, delay, limit]⟩ ∧
        stored = s.withSlot i { s.slot i with policy := policy, settle := settle, enableDelay := delay,
                                              checkinLimit := limit } ∨
      c = .slotPermit tag (slotByte i) (boolCode v) ∧ f = ⟨0x11, tag, [slotByte i, boolCode v]⟩ ∧
        stored = s.withSlot i { s.slot i with permit := v }) →
    ∃ t, exec c s = .next t ∧
      (t.slot i).state =
        (if (s.slot i).state = .delaying ∧ (s.slot i).policy ≠ .manual ∧ (stored.slot i).policy = .manual ∧
            (s.slot i).permit = true ∧ (stored.slot i).permit = true then .enabled
         else (s.slot i).state.evaluated (stored.idleCond i) (stored.gateOpen i)
           (decide ((stored.slot i).policy = .manual)) (decide ((stored.slot i).enableDelay = 0))) ∧
      (t.slot i).policy = (stored.slot i).policy ∧ (t.slot i).settle = (stored.slot i).settle ∧
      (t.slot i).enableDelay = (stored.slot i).enableDelay ∧ (t.slot i).checkinLimit = (stored.slot i).checkinLimit ∧
      (t.slot i).permit = (stored.slot i).permit ∧ t.filter i = s.filter i ∧
      (s.enLine i = true → t.enLine i = false → State.entryGone i s t) ∧
      t.remembers f .ok [slotStateCode (t.slot i).state] ∧ State.slotFrame i s t

/-- SLOT RESUME of a parked slot ends SLOT_PARKED and takes the slot where its gate takes it; in any other state it is
refused and changes nothing. -/
def Obligations.SlotResumeLeavesParked : Prop :=
  ∀ (tag : Byte) (i : SlotId) (s : State), s.ready ⟨0x12, tag, [slotByte i]⟩ = true →
    ((s.slot i).state ≠ .parked →
      exec (.slotResume tag (slotByte i)) s = .next (s.refused ⟨0x12, tag, [slotByte i]⟩ .notPermittedInState 0)) ∧
    ((s.slot i).state = .parked →
      ∃ t, exec (.slotResume tag (slotByte i)) s = .next t ∧
        (t.slot i).state =
          (if s.idleCond i = true then .idle
           else if (s.slot i).policy = .manual then .enabled
           else if s.gateOpen i = true then (if (s.slot i).enableDelay = 0 then .enabled else .delaying)
           else .held) ∧
        (t.slot i).parkReason = .none ∧ (t.slot i).policy = (s.slot i).policy ∧ (t.slot i).permit = (s.slot i).permit ∧
        t.ev.localHolds .slotParked (slotLocus i) = false ∧ t.filter i = s.filter i ∧ t.roster = s.roster ∧
        t.ops = s.ops ∧ t.remembers ⟨0x12, tag, [slotByte i]⟩ .ok [slotStateCode (t.slot i).state] ∧
        State.slotFrame i s t)

/-- SLOT EJECT in ENABLED or ONLINE, with no refused marker and the roster's keys distinct (the budget law): ACCEPTED with the next op id; the slot is in LEAVING with the
eject timeout loaded, EN high and the eject requested under the op id; an ONLINE entry becomes LEAVING and keeps its
grant, a RETURNING one, whose grant is NONE, becomes LEAVING with grant NONE, and one in CONFLICT stays as it is.
Elsewhere, so in LEAVING, NOT_PERMITTED_IN_STATE, and with a full operation table BUSY. -/
def Obligations.SlotEjectBeginsAnEject : Prop :=
  ∀ (tag : Byte) (i : SlotId) (s : State), s.ready ⟨0x13, tag, [slotByte i]⟩ = true →
    s.roster.marker1 = false → s.roster.marker2 = false → s.roster.keys.Nodup →
    (∀ e, s.localEntry i = some e → e.state = .returning → e.grant = .none) →
    exec (.slotEject tag (slotByte i)) s = .next
      (if (s.slot i).state ≠ .enabled ∧ (s.slot i).state ≠ .online then
         s.refused ⟨0x13, tag, [slotByte i]⟩ .notPermittedInState 0
       else if 4 ≤ s.ops.entries.length then s.refused ⟨0x13, tag, [slotByte i]⟩ .busy 0
       else
         State.replied
           (State.withSlot
             { s with
               ops := s.ops.take .eject (.host tag) none none,
               roster := if (s.localEntry i).any fun e => decide (e.state = .online ∨ e.state = .returning) then
                           { s.roster with
                             generation := s.roster.generation + 1,
                             entries := s.roster.entries.map fun e =>
                               if e.key = localKey i then { e with state := .leaving } else e }
                         else s.roster }
             i { s.slot i with state := .leaving, timer := some (100 * s.rack.ejectTimeout.toNat), ejectRequested := true,
                               ejectOp := s.ops.nextOp })
           ⟨0x13, tag, [slotByte i]⟩ .accepted [s.ops.nextOp])

/-- BUDGET SET: above 80 and below the granted sum it is refused. A taken one stores the budget and settles: entries are
granted from the head of the waiting list, with their PWR lines, until the head does not fit or the list is empty;
GRANT_BLOCKED holds exactly while the head does not fit; the granted sum stays within the budget, and the reply counts
it. -/
def Obligations.BudgetSetSettlesTheList : Prop :=
  ∀ (tag n : Byte) (s : State), s.ready ⟨0x38, tag, [n]⟩ = true →
    (80 < n.toNat → exec (.budgetSet tag n) s = .next (s.refused ⟨0x38, tag, [n]⟩ .badArgument 0)) ∧
    (n.toNat ≤ 80 → n.toNat < grantedSum s.roster.entries →
      exec (.budgetSet tag n) s = .next
        (s.refused ⟨0x38, tag, [n]⟩ .budgetBelowGranted (word16Of (grantedSum s.roster.entries)))) ∧
    (n.toNat ≤ 80 → grantedSum s.roster.entries ≤ n.toNat → s.roster.keys.Nodup →
      (∀ i ∈ s.budget.waiting, s.localEntry i ≠ none) →
      ∃ t k, exec (.budgetSet tag n) s = .next t ∧ t.budget.units = n.toNat ∧
        t.budget.waiting = s.budget.waiting.drop k ∧
        (∀ i ∈ s.budget.waiting.take k, t.slotGrant i = .granted ∧ t.pwrLine i = true) ∧
        (∀ i, i ∉ s.budget.waiting.take k → t.slotGrant i = s.slotGrant i ∧ t.pwrLine i = s.pwrLine i) ∧
        (t.budget.waiting = [] ∨ t.blocked = true) ∧ t.ev.localHolds .grantBlocked rackLocus = t.blocked ∧
        grantedSum t.roster.entries ≤ n.toNat ∧ t.roster.keys = s.roster.keys ∧
        t.remembers ⟨0x38, tag, [n]⟩ .ok [n, byteOf (grantedSum t.roster.entries)] ∧ State.deskFrame s t)

/-- The loss of a D port's child, by the loss timer, by the loss of its carrier or by LINK RESTART, tears the port down, shown
where no RESCAN in flight waits for the port. Every FORWARD waiting on the port is answered FORWARD_LINK_LOST with this
part's tier: to the host as a late reply, where places for it are left, or up U. BRANCH_LOST carries the reason where the
link was SYNCING or UP. LINK RESTART then has LINK RESET go out first behind the frame being sent, with the PROBE of a new
start behind it, and answers with the port's new state. While the tier is unknown it is a free value, log 11.
A RESCAN in flight that waits for the port goes on without it; the last port it waits for ends it, and its operation is
freed.
LINK RESTART of a port in DOWN without carrier answers DOWN and changes nothing else; a port number other than 1 and 2
is refused. -/
def Obligations.LostChildIsTornDown : Prop :=
  (∀ (p : DPort) (tag reason : Byte) (s : State) (c : Instr), s.ops.ids.Nodup →
     (∀ r, s.rescan = some r → p ∉ r.ports) →
     (c = .lossTimerExpiry (.d p) ∧ (s.dl p).state.active = true ∧ (s.dl p).loss ≠ none ∧ reason = 2 ∨
       c = .presenceInputChange (.carrier (.d p)) false ∧ (s.dl p).filter.state = .present ∧ (s.dl p).state ≠ .down ∧
         reason = 1 ∨
       c = .linkRestart tag (dportByte p) ∧ s.ready ⟨0x41, tag, [dportByte p]⟩ = true ∧ (s.dl p).state ≠ .down ∧
         reason = 3) →
     ∃ t, exec c s = .next t ∧ State.tornDown p s t ∧
       (c = .linkRestart tag (dportByte p) →
         ((s.dl p).state.active = true →
           (t.dl p).tx.frames = (s.dl p).tx.cur.toList ++ { msg := .linkReset, resets := none } ::
             if (t.dl p).state = .probing then
               [{ msg := .probe (byteOf s.ownTier) (s.ownPath ++ [p]), resets := none }]
             else []) ∧
         t.remembers ⟨0x41, tag, [dportByte p]⟩ .ok [linkStateCode (t.dl p).state]) ∧
       (∀ e ∈ s.ops.entries, e.kind = .forward → e.hopPort = some p →
         (∀ n, e.origin = .host n → s.host.waitingOf .late + s.ops.entries.length ≤ 4 →
           { sort := .late, frame := replyFrame n .refused (refusalPayload .forwardLinkLost (word16Of s.ownTier)),
             resets := none } ∈ t.host.cur.toList ++ t.host.sendList) ∧
         ∀ n, e.origin = .upstream n →
           { msg := .forwardReply n .refused (refusalPayload .forwardLinkLost (word16Of s.ownTier)), resets := none } ∈
             t.u.tx.frames) ∧
       ∀ pr, (s.dl p).state.active = true → s.ev.takesNew pr .branchLost (portLocus p) →
         s.ev.queue.length + s.roster.entries.length + 4 ≤ 32 →
         ∃ r ∈ t.ev.queue, r.kind = .branchLost ∧ r.locus = portLocus p ∧ r.priority = pr ∧
           r.detail = (0 : Byte) ++ reason) ∧
  (∀ (p : DPort) (r : Rescan) (s : State) (c : Instr), s.rescan = some r → p ∈ r.ports →
     (c = .lossTimerExpiry (.d p) ∧ (s.dl p).state.active = true ∧ (s.dl p).loss ≠ none ∨
       c = .presenceInputChange (.carrier (.d p)) false ∧ (s.dl p).filter.state = .present ∧ (s.dl p).state ≠ .down) →
     ∃ t, exec c s = .next t ∧
       if ∀ q ∈ r.ports, q = p then t.rescan = none ∧ r.op ∉ t.ops.ids
       else t.rescan = some { r with ports := r.ports.filter fun q => decide (q ≠ p) } ∧
         (r.op ∈ s.ops.ids → (∀ e ∈ s.ops.entries, e.op = r.op → e.kind = .rescan) → r.op ∈ t.ops.ids)) ∧
  ∀ (tag port : Byte) (p : DPort) (s : State), s.ready ⟨0x41, tag, [port]⟩ = true →
    (port ≠ 1 ∧ port ≠ 2 → exec (.linkRestart tag port) s = .next (s.refused ⟨0x41, tag, [port]⟩ .badArgument 0)) ∧
    (port = dportByte p → (s.dl p).state = .down → (s.dl p).filter.state ≠ .present →
      exec (.linkRestart tag port) s = .next (s.replied ⟨0x41, tag, [port]⟩ .ok [0]))

/-- RESCAN at a root: BUSY while one is in flight or with the operation table full; otherwise ACCEPTED with the next op id.
With no port UP it ends at once and its entry is freed again; else every UP port is asked for a dump, its loss timer
keeping its time (the model's choice, log 39), and the rescan waits for those ports. -/
def Obligations.RescanAsksEveryUpPort : Prop :=
  ∀ (tag : Byte) (s : State), s.ready ⟨0x42, tag, []⟩ = true →
    (s.rescan ≠ none ∨ 4 ≤ s.ops.entries.length →
      exec (.rescan tag) s = .next (s.refused ⟨0x42, tag, []⟩ .busy 0)) ∧
    (s.rescan = none → s.ops.entries.length < 4 →
      ∃ t, exec (.rescan tag) s = .next t ∧ t.remembers ⟨0x42, tag, []⟩ .accepted [s.ops.nextOp] ∧
        t.ops = (if s.d1.state = .up ∨ s.d2.state = .up then s.ops.take .rescan (.host tag) none none
                 else { s.ops with counter := nextByte s.ops.nextOp }) ∧
        t.rescan = (if s.d1.state = .up ∨ s.d2.state = .up then
                      some { op := s.ops.nextOp,
                             ports := (if s.d1.state = .up then [.d1] else []) ++ (if s.d2.state = .up then [.d2] else []),
                             synced := 0 }
                    else none) ∧
        (∀ p, t.dl p = if (s.dl p).state = .up then
                         { s.dl p with state := .syncing, syncPhase := .awaiting, syncTimer := some 500 }.send .resync
                       else s.dl p) ∧
        t.slots = s.slots ∧ t.targets = s.targets ∧ t.filters = s.filters ∧ t.desc = s.desc ∧ t.budget = s.budget ∧
        t.roster.entries = s.roster.entries ∧ t.u = s.u ∧ t.role = s.role ∧ t.rack = s.rack ∧ t.pending = s.pending)

/-- EVENT FETCH at a root: a maximum outside 1 to 12 is refused; otherwise it answers with the number pending, the lost
count, and the records first in delivery order, resets the lost count and the announced priority, and keeps every
record.
The delivery order holds the queue's records by priority, highest first, and those of one priority in their order of
entry. -/
def Obligations.EventFetchReadsInDeliveryOrder : Prop :=
  (∀ (tag maximum : Byte) (s : State), s.ready ⟨0x50, tag, [maximum]⟩ = true →
     exec (.eventFetch tag maximum) s = .next
       (if maximum.toNat < 1 ∨ 12 < maximum.toNat then s.refused ⟨0x50, tag, [maximum]⟩ .badArgument 0
        else
          { s with ev := { s.ev with lost := 0, announced := none } }.replied ⟨0x50, tag, [maximum]⟩ .ok
            ([byteOf s.ev.queue.length, byteOf s.ev.lost,
               byteOf ((deliveryOrder s.ev.queue).take maximum.toNat).length] ++
              ((deliveryOrder s.ev.queue).take maximum.toNat).flatMap evRecordBytes))) ∧
  ∀ q : List EvRecord, (deliveryOrder q).Perm q ∧ (deliveryOrder q).Pairwise (fun a b => b.priority ≤ a.priority) ∧
    ∀ pr, ((deliveryOrder q).filter fun r => decide (r.priority = pr)) = q.filter fun r => decide (r.priority = pr)

/-- EVENT ACK at a root: more than 16 numbers are refused; otherwise every pending record with a listed number is removed,
the records not listed stay in their order, and behind them stand new records of count 1, one for each removed CONDITION
record whose instance still holds, in the delivery order the removed ones had, at the kind's priority, with no origin for
a local condition and the remote entry's detail and origin for a remote one. A record whose instance has ended is not
replaced. The reply counts the removed and the pending. That the new records are among the
pending counted is the model's choice, log 28. -/
def Obligations.EventAckRemovesAndRequeues : Prop :=
  ∀ (tag count : Byte) (seqs : List Word16) (s : State), seqs.length = count.toNat → seqs.length ≤ 99 →
    s.ready ⟨0x51, tag, count :: seqs.flatMap be16⟩ = true →
    (16 < seqs.length → exec (.eventAck tag count seqs) s = .next
      (s.refused ⟨0x51, tag, count :: seqs.flatMap be16⟩ .badArgument 0)) ∧
    (seqs.length ≤ 16 → s.ev.queue.length ≤ queueSize → s.ev.distinct →
      ∃ t new, exec (.eventAck tag count seqs) s = .next t ∧
        t.ev.queue = (s.ev.queue.filter fun r => decide (r.seq ∉ seqs)) ++ new ∧
        (∀ r ∈ new, r.count = 1 ∧ r.style = .condition ∧ s.ev.holds r.kind r.locus = true ∧
          s.ev.setting r.kind = some r.priority ∧
          (∃ x ∈ s.ev.queue, x.seq ∈ seqs ∧ x.kind = r.kind ∧ x.locus = r.locus ∧ x.style = .condition ∧
            s.ev.holds x.kind x.locus = true) ∧
          (s.ev.localHolds r.kind r.locus = true → r.origin = []) ∧
          (∀ c, (s.ev.remoteConds.find? fun x => decide (x.kind = r.kind) && decide (x.locus = r.locus)) = some c →
            s.ev.localHolds r.kind r.locus = false → r.detail = c.detail ∧ r.origin = c.origin)) ∧
        (new.map fun r => (r.kind, r.locus)).Nodup ∧
        (new.map fun r => (r.kind, r.locus)) =
          (((deliveryOrder (s.ev.queue.filter fun x => decide (x.seq ∈ seqs))).filter fun x =>
            decide (x.style = .condition) && s.ev.holds x.kind x.locus && (s.ev.setting x.kind).isSome).map fun x =>
              (x.kind, x.locus)) ∧
        (∀ x ∈ s.ev.queue, x.seq ∈ seqs → x.style = .condition → s.ev.holds x.kind x.locus = true →
          s.ev.setting x.kind ≠ none → ∃ r ∈ new, r.kind = x.kind ∧ r.locus = x.locus) ∧
        t.remembers ⟨0x51, tag, count :: seqs.flatMap be16⟩ .ok
          [byteOf (s.ev.queue.filter fun r => decide (r.seq ∈ seqs)).length, byteOf t.ev.queue.length] ∧
        t.ev.lost = s.ev.lost ∧ t.ev.localConds = s.ev.localConds ∧ t.ev.remoteConds = s.ev.remoteConds ∧
        t.ev.kinds = s.ev.kinds ∧ State.deskFrame s t ∧ t.roster = s.roster ∧ t.budget = s.budget ∧ t.d1 = s.d1 ∧
        t.d2 = s.d2)

/-- EVENT SETUP at a root stores the setting and answers with it: OFF discards the kind's pending records; a priority is
given to them; a CONDITION kind that was OFF has a record queued for each instance that holds. An unknown kind or setting
is refused. -/
def Obligations.EventSetupStoresTheSetting : Prop :=
  ∀ (tag : Byte) (k : EvKind) (kind setting : Byte) (pr : Fin 4) (s : State),
    ((kind = 0 ∨ 17 < kind.toNat) ∨ (3 < setting.toNat ∧ setting ≠ 0xFF) →
      s.ready ⟨0x52, tag, [kind, setting]⟩ = true →
      exec (.eventSetup tag kind setting) s = .next (s.refused ⟨0x52, tag, [kind, setting]⟩ .badArgument 0)) ∧
    (s.ready ⟨0x52, tag, [evKindCode k, 0xFF]⟩ = true → s.ev.inFlight = none →
      exec (.eventSetup tag (evKindCode k) 0xFF) s = .next
        (State.replied { s with ev := { s.ev with kinds := s.ev.kinds.set (kindIndex k) none,
                                                  queue := s.ev.queue.filter fun r => decide (r.kind ≠ k) } }
          ⟨0x52, tag, [evKindCode k, 0xFF]⟩ .ok [evKindCode k, 0xFF])) ∧
    (s.ready ⟨0x52, tag, [evKindCode k, byteOf pr.val]⟩ = true → s.ev.setting k ≠ none ∨ kindStyle k = .latched →
      exec (.eventSetup tag (evKindCode k) (byteOf pr.val)) s = .next
        (State.replied { s with ev := { s.ev with kinds := s.ev.kinds.set (kindIndex k) (some pr),
                                                  queue := s.ev.queue.map fun r =>
                                                    if r.kind = k then { r with priority := pr } else r } }
          ⟨0x52, tag, [evKindCode k, byteOf pr.val]⟩ .ok [evKindCode k, byteOf pr.val])) ∧
    (s.ready ⟨0x52, tag, [evKindCode k, byteOf pr.val]⟩ = true → s.ev.setting k = none → kindStyle k = .condition →
      s.ev.queue.length + s.ev.localConds.length + s.ev.remoteConds.length ≤ 32 →
      ∃ t, exec (.eventSetup tag (evKindCode k) (byteOf pr.val)) s = .next t ∧ t.ev.setting k = some pr ∧
        (∀ l, s.ev.holds k l = true → t.ev.isPending k l = true) ∧ State.deskFrame s t ∧ t.roster = s.roster)

/-! ### The slot link (chapter 3) -/

/-- STATUS on a target without a burst: the response is held from its first byte, with result OK, the slot number, the
visible state of the slot by the table of R57, the live generation and page count, eject-requested, the entry's grant and
the last check-in result. Nothing else changes. -/
def Obligations.StatusShowsTheVisibleState : Prop :=
  ∀ (i : SlotId) (response : List Byte) (s : State), (s.target i).pin = none →
    response =
      [(0 : Byte), byteOf (i.val + 1),
          (match (s.slot i).state with
            | .idle => 0
            | .held => 0
            | .delaying => 0
            | .announcing => 0
            | .enabled => 1
            | .online => 2
            | .leaving => 3
            | .parked => 4)] ++
        be16 s.desc.generation ++
        [byteOf s.desc.pages, if (s.slot i).ejectRequested then 1 else 0, grantCode (s.slotGrant i),
          (match (s.target i).lastResult with
            | some r => slotResultCode r
            | none => 0xFF)] →
    exec (.status i) s = .next (s.withTarget i { s.target i with phase := .holding response 0 })

/-- PAGE READ, with no burst before it or no commit in flight: refused by the first check that applies, with the live
generation and page count; otherwise the burst is pinned to the live bank at its generation, the slot's last-read
generation is set to it, and the stall timer is loaded with 50 ms. Nothing else changes. -/
def Obligations.PageReadPinsTheLiveBank : Prop :=
  ∀ (i : SlotId) (page offset length : Byte) (s : State), (s.target i).pin = none ∨ s.desc.commit = none →
    exec (.pageRead i page offset length) s = .next
      (if s.enLine i = false then s.withTarget i { s.target i with
         phase := .holding (slotResultCode .notEnabled :: be16 s.desc.generation ++ [byteOf s.desc.pages]) 0,
         stall := if (s.target i).pin = none then (s.target i).stall else none }
       else if s.desc.pages ≤ page.toNat ∨ 8 ≤ page.toNat then s.withTarget i { s.target i with
         phase := .holding (slotResultCode .noPage :: be16 s.desc.generation ++ [byteOf s.desc.pages]) 0,
         stall := if (s.target i).pin = none then (s.target i).stall else none }
       else if length.toNat < 1 ∨ 32 < length.toNat ∨ 128 < offset.toNat + length.toNat then s.withTarget i { s.target i with
         phase := .holding (slotResultCode .badRange :: be16 s.desc.generation ++ [byteOf s.desc.pages]) 0,
         stall := if (s.target i).pin = none then (s.target i).stall else none }
       else
         (s.withTarget i { s.target i with
           phase := .burst { bank := s.desc.live, generation := s.desc.generation, page := page.toNat,
                             offset := offset.toNat, remaining := length.toNat, headerRead := 0 },
           stall := some 50 }).withSlot i { s.slot i with lastRead := s.desc.generation })

/-- A byte clocked out, by the target's phase: filler in READY and behind a held response; the held response's next byte;
a burst's header and then its data, from the pinned bank at its page and next offset, each reloading the stall timer; the
last data byte ends the burst (shown with no commit in flight). -/
def Obligations.ClockedByteComesFromThePhase : Prop :=
  ∀ (i : SlotId) (s : State),
    ((s.target i).phase = .ready →
      exec (.slotLinkByteRead i) s = .next (s.withTarget i { s.target i with lastByte := some 0xFF })) ∧
    (∀ resp pos, (s.target i).phase = .holding resp pos →
      exec (.slotLinkByteRead i) s = .next (s.withTarget i
        (if h : pos < resp.length then
           { s.target i with phase := .holding resp (pos + 1), lastByte := some resp[pos] }
         else { s.target i with lastByte := some 0xFF }))) ∧
    ∀ b, (s.target i).phase = .burst b →
      (b.headerRead = 0 → exec (.slotLinkByteRead i) s = .next (s.withTarget i
        { s.target i with phase := .burst { b with headerRead := 1 }, stall := some 50,
                          lastByte := some (slotResultCode .ok) })) ∧
      (b.headerRead = 1 → exec (.slotLinkByteRead i) s = .next (s.withTarget i
        { s.target i with phase := .burst { b with headerRead := 2 }, stall := some 50,
                          lastByte := some (b.generation.extractLsb' 8 8) })) ∧
      (b.headerRead = 2 → exec (.slotLinkByteRead i) s = .next (s.withTarget i
        { s.target i with phase := .burst { b with headerRead := 3 }, stall := some 50,
                          lastByte := some (b.generation.extractLsb' 0 8) })) ∧
      (b.headerRead = 3 → 1 < b.remaining → exec (.slotLinkByteRead i) s = .next (s.withTarget i
        { s.target i with phase := .burst { b with offset := b.offset + 1, remaining := b.remaining - 1 },
                          stall := some 50,
                          lastByte := some ((s.desc.bank b.bank).read (128 * b.page + b.offset)) })) ∧
      (b.headerRead = 3 → b.remaining = 1 → s.desc.commit = none →
        exec (.slotLinkByteRead i) s = .next (s.withTarget i
          { s.target i with phase := .ready, stall := none,
                            lastByte := some ((s.desc.bank b.bank).read (128 * b.page + b.offset)) }))

/-- The stall timer runs out in a burst: the pin is released, the target returns to READY, and BURST_STALL is raised with
the number of data bytes not sent; where the pin was the last on the target bank of a commit in DRAINING, the commit goes
on to COPYING. -/
def Obligations.StallCutsTheBurstOff : Prop :=
  ∀ (i : SlotId) (b : Burst) (n : Nat) (pr : Fin 4) (s : State), (s.target i).phase = .burst b →
    (s.target i).stall = some n → s.ev.takesNew pr .burstStall (slotLocus i) →
    (s.desc.commit = none →
      ∃ t, exec (.stallTimerExpiry i) s = .next t ∧
        t.ev.queue = s.ev.queue ++ [latchedRecord s.ev pr .burstStall (slotLocus i) (word16Of b.remaining)] ∧
        State.sameButEvents t (s.withTarget i { s.target i with phase := .ready, stall := none })) ∧
    ∀ c, s.desc.commit = some c → c.phase = .draining → c.target = b.bank →
      (∀ j, j ≠ i → (s.target j).pin ≠ some b.bank) → headerPages s.desc.staging ≤ 8 →
      ∃ t d, exec (.stallTimerExpiry i) s = .next t ∧ (t.target i).phase = .ready ∧ t.slots = s.slots ∧
        t.desc = { s.desc with commit := some d } ∧ d.phase = .copying ∧ d.op = c.op ∧ d.target = c.target ∧
        d.newGen = nextGeneration s.desc.generation ∧
        d.timer = some (if headerPages s.desc.staging = 0 then 1 else 2 * headerPages s.desc.staging)

/-- A write whose command byte is none of the four, or whose argument count is wrong, is answered BAD_COMMAND; RELEASE
outside LEAVING is answered NOT_EJECTING. Neither changes anything else (no burst before them).
CHECK-IN in a slot state that takes none, or into a full roster: the result is recorded, CHECKIN_REFUSED is raised
with it, and the response carries it with grant NONE and the live generation; slot and roster stay as they were. -/
def Obligations.RefusedWritesAreAnswered : Prop :=
  (∀ (i : SlotId) (cmd : Byte) (args : List Byte) (s : State), (s.target i).pin = none →
     ((cmd = 0 ∨ 4 < cmd.toNat) ∨ (cmd = 1 ∧ args ≠ []) ∨ (cmd = 2 ∧ args.length ≠ 3) ∨ (cmd = 4 ∧ args ≠ []) →
       exec (.badCommand i cmd args) s = .next
         (s.withTarget i { s.target i with phase := .holding [slotResultCode .badCommand] 0 })) ∧
     ((s.slot i).state ≠ .leaving →
       exec (.release i) s = .next
         (s.withTarget i { s.target i with phase := .holding [slotResultCode .notEjecting] 0 }))) ∧
  ∀ (i : SlotId) (record : List Byte) (r : SlotResult) (pr : Fin 4) (s : State), (s.target i).pin = none →
    s.ev.takesNew pr .checkinRefused (slotLocus i) →
    (r = .ejecting ∧ (s.slot i).state = .leaving ∨
      r = .notEnabled ∧ s.enLine i = false ∨
      r = .full ∧ (s.slot i).state = .enabled ∧ (checkInRecOf record).isSome = true ∧ s.localEntry i = none ∧
        96 ≤ s.roster.entries.length) →
    ∃ t, exec (.checkIn i record) s = .next t ∧
      t.ev.queue = s.ev.queue ++ [latchedRecord s.ev pr .checkinRefused (slotLocus i) (detailOf (slotResultCode r))] ∧
      State.sameButEvents t (s.withTarget i { s.target i with
        phase := .holding ([slotResultCode r, 0] ++ be16 s.desc.generation) 0, lastResult := some r })

/-- The check-in limit runs out in ENABLED: the slot is PARKED with reason CHECKIN_TIMEOUT, EN drops, the local entry is
removed, and SLOT_PARKED holds for the slot.
A malformed CHECK-IN in ENABLED or ONLINE parks the slot with reason REJECTED: EN drops, the local entry is removed,
SLOT_PARKED holds, and the result MALFORMED is recorded and answered. -/
def Obligations.TimeoutAndMalformedCheckInPark : Prop :=
  (∀ (i : SlotId) (n : Nat) (s : State), (s.slot i).state = .enabled → (s.slot i).timer = some n →
     ∃ t, exec (.checkinLimitExpiry i) s = .next t ∧
       t.slot i = { s.slot i with state := .parked, parkReason := .checkinTimeout, timer := none, ejectRequested := false,
                                  ejectOp := 0 } ∧
       t.enLine i = false ∧ t.filter i = s.filter i ∧ State.entryGone i s t ∧
       t.ev.localHolds .slotParked (slotLocus i) = true ∧ t.host.memory = s.host.memory ∧ State.slotFrame i s t) ∧
  ∀ (i : SlotId) (record : List Byte) (s : State), (s.slot i).state = .enabled ∨ (s.slot i).state = .online →
    checkInRecOf record = none →
    ∃ t, exec (.checkIn i record) s = .next t ∧
      t.slot i = { s.slot i with state := .parked, parkReason := .rejected, timer := none, ejectRequested := false,
                                 ejectOp := 0 } ∧
      t.enLine i = false ∧ t.filter i = s.filter i ∧ State.entryGone i s t ∧
      t.ev.localHolds .slotParked (slotLocus i) = true ∧ (t.target i).lastResult = some .malformed ∧
      (t.target i).phase = .holding ([slotResultCode .malformed, 0] ++ be16 s.desc.generation) 0 ∧
      t.host.memory = s.host.memory ∧ State.slotFrame i s t

/-- A well-formed CHECK-IN in ENABLED that finds no entry and a roster with room: an entry with the record's fields and a
new join stamp is added at its canonical place, and the slot is ONLINE. A serial id no holder claims gives ONLINE and
ACCEPTED, and with nobody waiting the entry is GRANTED, PWR high, where its draw units fit, or else waits; a claimed
serial id gives CONFLICT with no grant and SERIAL_CONFLICT.
A well-formed CHECK-IN, in ENABLED or ONLINE, that finds the slot's entry with its own serial id keeps the key and the join
stamp and takes the record's fields. A RETURNING entry returns to ONLINE at the tail of the waiting list. An ONLINE entry
is refreshed in place, and where it holds or awaits a grant and its draw class changes it gives the grant up and waits
anew; a CONFLICT entry stays in CONFLICT. Shown with nobody else waiting: an entry that waits is GRANTED, PWR high, where
its draw units fit. Each answers its result with the grant.
A CHECK-IN with another serial id than the slot's entry removes that entry, with MODULE_LEFT and cause REPLACED, and adds
one with a new join stamp, ONLINE or, where another holder claims its serial id, CONFLICT. Where the removed entry was the
holder of its serial id, the earliest joined of the entries in conflict with it is promoted: a remote one to its reported
state, one of a slot in ONLINE to ONLINE with a place among those that wait or are granted; its SERIAL_CONFLICT ends. -/
def Obligations.CheckInAddsAnEntry : Prop :=
  (∀ (i : SlotId) (record : List Byte) (r : CheckInRec) (s : State), (s.slot i).state = .enabled →
     checkInRecOf record = some r → s.localEntry i = none → s.roster.entries.length < 96 → s.budget.waiting = [] →
     (s.target i).pin = none →
     ∃ t e, exec (.checkIn i record) s = .next t ∧ t.localEntry i = some e ∧
       e.serial = r.serial ∧ e.classCode = r.classCode ∧ e.revision = r.revision ∧ e.draw = r.draw ∧ e.caps = r.caps ∧
       e.reported = none ∧ e.joinStamp = s.roster.nextStamp ∧ t.roster.joinCounter = s.roster.nextStamp ∧
       t.roster.keys = insertBy keyLt (localKey i) s.roster.keys ∧ t.roster.generation = s.roster.generation + 1 ∧
       t.slot i = { s.slot i with state := .online, timer := none } ∧ t.filter i = s.filter i ∧
       (if ∃ x ∈ s.roster.entries, x.serial = r.serial ∧ x.state ≠ .conflict then
          e.state = .conflict ∧ e.grant = .none ∧ t.budget = s.budget ∧ (t.target i).lastResult = some .conflict ∧
            (t.target i).phase = .holding ([slotResultCode .conflict, 0] ++ be16 s.desc.generation) 0 ∧
            t.ev.localHolds .serialConflict (slotLocus i) = true
        else
          e.state = .online ∧ (t.target i).lastResult = some .accepted ∧
            (t.target i).phase = .holding ([slotResultCode .accepted, grantCode e.grant] ++ be16 s.desc.generation) 0 ∧
            if 2 ^ r.draw.val ≤ s.budget.units - grantedSum s.roster.entries then
              e.grant = .granted ∧ t.pwrLine i = true ∧ t.budget.waiting = []
            else e.grant = .waiting ∧ t.pwrLine i = s.pwrLine i ∧ t.budget.waiting = [i]) ∧
       t.host.memory = s.host.memory ∧ t.ops = s.ops ∧ State.slotFrame i s t) ∧
  (∀ (i : SlotId) (record : List Byte) (r : CheckInRec) (o new : Entry) (s : State),
     (s.slot i).state = .enabled ∨ (s.slot i).state = .online → checkInRecOf record = some r → s.localEntry i = some o →
     o.serial = r.serial → s.budgetLaw → (∀ j ∈ s.budget.waiting, j = i) → (s.target i).pin = none →
     new = { o with classCode := r.classCode, revision := r.revision, draw := r.draw, caps := r.caps } →
     o.state ≠ .leaving →
     ∃ t, exec (.checkIn i record) s = .next t ∧
       (if o.state = .conflict then
          t.localEntry i = some new ∧ t.budget = s.budget ∧ (t.target i).lastResult = some .conflict ∧
            (t.target i).phase = .holding ([slotResultCode .conflict, grantCode o.grant] ++ be16 s.desc.generation) 0 ∧
            t.ev.localHolds .serialConflict (slotLocus i) = true
        else
          (t.target i).lastResult = some .accepted ∧
            (t.target i).phase =
              .holding ([slotResultCode .accepted, grantCode (t.slotGrant i)] ++ be16 s.desc.generation) 0 ∧
            if o.state = .online ∧ (o.draw = r.draw ∨ o.grant = .none) then
              t.localEntry i = some new ∧ t.budget = s.budget
            else if 2 ^ r.draw.val + (grantedSum s.roster.entries - if o.grant = .granted then 2 ^ o.draw.val else 0) ≤
                s.budget.units then
              t.localEntry i = some { new with state := .online, grant := .granted } ∧ t.pwrLine i = true ∧
                t.budget.waiting = []
            else
              t.localEntry i = some { new with state := .online, grant := .waiting } ∧ t.pwrLine i = false ∧
                t.budget.waiting = [i] ∧ t.ev.localHolds .grantBlocked rackLocus = true) ∧
       t.roster.keys = s.roster.keys ∧ t.roster.joinCounter = s.roster.joinCounter ∧
       t.slot i = { s.slot i with state := .online, timer := none } ∧ t.filter i = s.filter i ∧
       t.host.memory = s.host.memory ∧ t.ops = s.ops ∧ State.slotFrame i s t) ∧
  ∀ (i : SlotId) (record : List Byte) (r : CheckInRec) (o x : Entry) (pr : Fin 4) (s : State),
    (s.slot i).state = .enabled ∨ (s.slot i).state = .online → checkInRecOf record = some r → s.localEntry i = some o →
    o.serial ≠ r.serial → o.state ≠ .leaving → s.budgetLaw → s.roster.entries.length ≤ 96 →
    (s.target i).pin = none →
    ∃ t e, exec (.checkIn i record) s = .next t ∧ t.localEntry i = some e ∧ r.fills e ∧
      e.joinStamp = ({ s.roster with entries := s.roster.entries.filter fun y => decide (y.key ≠ o.key) }).nextStamp ∧
      t.roster.keys = insertBy keyLt (localKey i) (s.roster.keys.filter fun k => decide (k ≠ localKey i)) ∧
      e.state = (if ∃ y ∈ s.roster.entries, y.key ≠ o.key ∧ y.serial = r.serial ∧ y.state ≠ .conflict then .conflict
                 else .online) ∧
      (t.target i).lastResult = some (if e.state = .conflict then .conflict else .accepted) ∧
      t.slot i = { s.slot i with state := .online, timer := none } ∧
      (s.ev.takesNew pr .moduleLeft (slotLocus i) → s.ev.queue.length + 6 ≤ 32 →
        ∃ y ∈ t.ev.queue, y.kind = .moduleLeft ∧ y.locus = slotLocus i ∧ y.detail = 5 ∧ y.priority = pr) ∧
      (o.state ≠ .conflict → x ∈ s.roster.entries → x.key ≠ o.key → x.serial = o.serial → x.inConflict = true →
        (∀ y ∈ s.roster.entries, y.key ≠ o.key → y.key ≠ x.key → y.serial = o.serial → y.inConflict = true →
          (s.roster.joinCounter - y.joinStamp).toNat < (s.roster.joinCounter - x.joinStamp).toNat) →
        x.reported ≠ none ∨ (s.slot x.key.slot).state = .online →
        t.ev.localHolds .serialConflict (keyLocus x.key) = false ∧
          ∃ y, findEntry x.key t.roster.entries = some y ∧ y.state = x.reported.getD .online ∧
            (x.reported = none → y.grant ≠ .none)) ∧
      t.host.memory = s.host.memory ∧ t.ops = s.ops ∧ State.slotFrame i s t

/-! ### The expansion links (chapter 6) -/

/-- A byte at the host receiver that completes no frame, and the gap timer: hunting, only START is taken; a length above
200 puts the receiver back to hunting; the gap timer is loaded with 2 ms by each byte taken and its expiry discards what
was gathered; where it is stopped an expiry does nothing: the model's choice, log 4. Nothing else changes.
A byte at a port's receiver that completes no frame, one that completes a frame with a wrong CRC, which is discarded
without a trace, and the gap timer (an expiry while it is stopped: log 4). Nothing but the receiver changes. -/
def Obligations.ReceiversGatherFrames : Prop :=
  (∀ (b : Byte) (s : State),
     exec .hostGapTimerExpiry s = .next
       (if s.host.rx.gap = none then s else { s with host := { s.host with rx := { phase := .hunting, gap := none } } }) ∧
     (s.host.rx.phase = .hunting → exec (.hostByteReceived b) s = .next
       (if b = 0xC3 then { s with host := { s.host with rx := { phase := .length, gap := some 2 } } } else s)) ∧
     (s.host.rx.phase = .length → exec (.hostByteReceived b) s = .next
       { s with host := { s.host with
         rx := if 200 < b.toNat then { phase := .hunting, gap := none } else { phase := .body b [], gap := some 2 } } }) ∧
     ∀ (n : Byte) (got : List Byte), s.host.rx.phase = .body n got → got.length + 1 < n.toNat + 4 →
       exec (.hostByteReceived b) s = .next
         { s with host := { s.host with rx := { phase := .body n (got ++ [b]), gap := some 2 } } }) ∧
  ∀ (port : Port) (b : Byte) (s : State),
    exec (.linkGapTimerExpiry port) s = .next
      (if (s.portRx port).gap = none then s else s.withRx port { phase := .hunting, gap := none }) ∧
    ((s.portRx port).phase = .hunting → exec (.linkByteReceived port b) s = .next
      (if b = 0xC3 then s.withRx port { phase := .length, gap := some 2 } else s)) ∧
    ((s.portRx port).phase = .length → exec (.linkByteReceived port b) s = .next
      (s.withRx port (if 200 < b.toNat then { phase := .hunting, gap := none } else { phase := .body b [], gap := some 2 }))) ∧
    (∀ (n : Byte) (got : List Byte), (s.portRx port).phase = .body n got → got.length + 1 < n.toNat + 4 →
      exec (.linkByteReceived port b) s = .next (s.withRx port { phase := .body n (got ++ [b]), gap := some 2 })) ∧
    ∀ (hi kind tag : Byte) (payload : List Byte), payload.length ≤ 200 →
      (s.portRx port).phase = .body (byteOf payload.length) (kind :: tag :: payload ++ [hi]) →
      hi ++ b ≠ crc16 (byteOf payload.length :: kind :: tag :: payload) →
      exec (.linkByteReceived port b) s = .next (s.withRx port { phase := .hunting, gap := none })

/-- The byte that completes a good frame of any link message does what that message's own command does: the frame's bytes
decode to the message they were encoded from. That an odd priority, repeat count or style of an EVENT UP is taken too is
the model's choice, log 17. -/
def Obligations.GoodLinkFrameIsItsMessage : Prop :=
  ∀ (port : Port) (m : LinkMsg) (b hi : Byte) (s : State), LinkMsg.fits m = true →
    (s.portRx port).phase =
      .body (byteOf (linkPayload m).length) (linkKind m :: linkTag m :: linkPayload m ++ [hi]) →
    hi ++ b = crc16 (byteOf (linkPayload m).length :: linkKind m :: linkTag m :: linkPayload m) →
    exec (.linkByteReceived port b) s = exec (linkCommand port m) (s.withRx port { phase := .hunting, gap := none })

/-- The host transmitter has sent a frame that carries no PART RESET: the next frame of the send list begins, and with an
empty request buffer nothing else changes. A request that was held back is taken in the same happening: what follows is
what its command does on the state in which the next frame, if any, is being sent. With no frame being sent nothing
happens.
A port has sent a frame that carries no PART RESET's reply: the next waiting frame begins and the keepalive timer of a
link in SYNCING or UP is restarted, at a frame's end as at its beginning: the model's choice, log 15. Nothing else changes.
With no frame being sent nothing happens. -/
def Obligations.TransmittersGoOnToTheNextFrame : Prop :=
  (∀ (s : State) (x : SendItem) (c : Instr) (f : HostFrame), x.resets = none →
     (s.host.cur = none → exec .hostFrameSent s = .next s) ∧
     (s.host.cur = some x → s.host.buffer = [] →
       exec .hostFrameSent s = .next
         { s with host := { s.host with cur := s.host.sendList.head?, sendList := s.host.sendList.tail } }) ∧
     (s.host.cur = some x → s.host.buffer = [f] → hostFrameOf c = some f → f.payload.length ≤ 200 →
       exec .hostFrameSent s = exec c
         { s with host := { s.host with cur := s.host.sendList.head?, sendList := s.host.sendList.tail, buffer := [] } })) ∧
  ∀ (p : DPort) (x : TxFrame) (s : State),
    ((s.dl p).tx.cur = none → exec (.linkFrameSent (.d p)) s = .next s) ∧
    ((s.dl p).tx.cur = some x → exec (.linkFrameSent (.d p)) s = .next (s.withD p
      { s.dl p with tx := { cur := (s.dl p).tx.waiting.head?, waiting := (s.dl p).tx.waiting.tail },
                    keepalive := if (s.dl p).state.active then some 20 else (s.dl p).keepalive })) ∧
    (s.u.tx.cur = none → exec (.linkFrameSent .u) s = .next s) ∧
    (s.u.tx.cur = some x → x.resets = none → s.u.dumpPhase ≠ .sending ∨ s.u.tx.waiting ≠ [] →
      exec (.linkFrameSent .u) s = .next { s with
        u := { s.u with tx := { cur := s.u.tx.waiting.head?, waiting := s.u.tx.waiting.tail },
                        keepalive := if s.u.state.active then some 20 else s.u.keepalive } })

/-- A PROBE at a branch whose U is DOWN with carrier, of tier at most 2 and a path one longer: tier and path are
recorded, PROBE REPLY with the live rack id and class goes out, and the link is SYNCING with a dump begun, SYNC BEGIN
behind the reply. With an empty roster SYNC END goes behind it in the same happening and the ack is awaited: the
model's reading of R129's "at once", log 21. The hardware revision is a free value, log 12. Any other PROBE there, and
one at a root, changes nothing. On a link in SYNCING or UP such a PROBE first takes the link down, shown with the
roster's keys distinct (the budget law), and any other restarts the loss timer. A settle timer that runs out in
SETTLING puts a port's filter in PRESENT: carrier is there. On U nothing else happens. A D port in DOWN stays DOWN
while this part's tier is unknown; at tier 0 to 2 it is PROBING with PROBE sent and the probe timer loaded with 50 ms;
beyond, it is REFUSED and DEPTH_EXCEEDED holds for the port. The completeness flags follow. A PROBE REPLY takes a
PROBING port to SYNCING with the child's fields in the branch table, the timers of the link and the sync running; in
SYNCING and UP it only restarts the loss timer, and elsewhere nothing happens. -/
def Obligations.ProbeAndItsReplyStartTheLink : Prop :=
  (∀ (tier : Byte) (path : Path) (s : State),
     (s.role = .root → exec (.probe .u tier path) s = .next s) ∧
     (s.role = .branch → s.u.state = .down → exec (.probe .u tier path) s = .next
       (if s.u.filter.state = .present ∧ tier.toNat ≤ 2 ∧ path.length = tier.toNat + 1 then
          { s with u := { s.u with
            state := .syncing, keepalive := some 20, loss := some 60, recTier := some (tier.toNat + 1),
            recPath := some path, dumpPhase := if s.roster.entries = [] then .awaitingAck else .sending,
            dumpCause := .first, dumpList := s.roster.keys, cursor := 1,
            ackTimer := if s.roster.entries = [] then some 500 else none, deltas := [], retransmit := none,
            tx :=
              let begun := (s.u.tx.hand
                  { msg := .probeReply (headerRackId s.desc.liveBank) (headerRackClass s.desc.liveBank)
                             Config.hardwareRevision, resets := none }).hand
                  { msg := .syncBegin (byteOf s.roster.entries.length) .first, resets := none }
              if s.roster.entries = [] then begun.hand { msg := .syncEnd 0 s.roster.flags, resets := none } else begun } }
        else s)) ∧
     (s.hearsParent →
       if s.u.filter.state = .present ∧ tier.toNat ≤ 2 ∧ path.length = tier.toNat + 1 then
         s.u.tx.waitingReset = none → s.roster.keys.Nodup →
         ∃ t, exec (.probe .u tier path) s = .next t ∧ t.u.state = .syncing ∧ t.u.recTier = some (tier.toNat + 1) ∧
           t.u.recPath = some path ∧ t.u.tierKnown = false ∧ t.u.dumpCause = .first ∧ t.u.dumpList = t.roster.keys ∧
           (∀ p, (t.dl p).state = .down) ∧ t.ev.inFlight = none ∧ t.ev.reported = [] ∧
           t.slots = s.slots ∧ t.targets = s.targets ∧ t.filters = s.filters ∧ t.desc = s.desc
       else exec (.probe .u tier path) s = .next (s.heard .u))) ∧
  (∀ (p : DPort) (n : Nat) (s : State),
     (s.u.filter.state = .settling → s.u.filter.timer ≠ none → exec (.settleTimerExpiry (.carrier .u)) s = .next
       { s with u := { s.u with filter := { s.u.filter with state := .present, timer := none } } }) ∧
     ((s.dl p).filter.state = .settling → (s.dl p).filter.timer ≠ none → (s.dl p).state = .down →
       (s.tier = none → exec (.settleTimerExpiry (.carrier (.d p))) s = .next
         (s.withD p { s.dl p with filter := { (s.dl p).filter with state := .present, timer := none } })) ∧
       (s.tier = some n → s.roster.marker1 = false → s.roster.marker2 = false →
         ∃ t, exec (.settleTimerExpiry (.carrier (.d p))) s = .next t ∧
           t.dl p = (if n ≤ 2 then
                       { s.dl p with filter := { (s.dl p).filter with state := .present, timer := none },
                                     state := .probing, probe := some 50 }.send (.probe (byteOf n) (s.ownPath ++ [p]))
                     else { s.dl p with filter := { (s.dl p).filter with state := .present, timer := none },
                                        state := .refused }) ∧
           (2 < n → t.ev.localHolds .depthExceeded (portLocus p) = true) ∧ t.roster.flags = t.causedFlags ∧
           t.roster.entries = s.roster.entries ∧ t.ops = s.ops ∧ t.rescan = s.rescan ∧ State.portFrame p s t))) ∧
  ∀ (p : DPort) (rackId : Word32) (rackClass : Word16) (revision : Byte) (s : State),
    ((s.dl p).state = .probing → (s.dl p).child = none → s.roster.flags = s.causedFlags →
      exec (.probeReply (.d p) rackId rackClass revision) s = .next (s.withD p
        { s.dl p with
          state := .syncing, probe := none, keepalive := some 20, loss := some 60, syncPhase := .awaiting,
          syncTimer := some 500,
          child := some { rackId := rackId, rackClass := rackClass, revision := revision, tier := s.ownTier + 1,
                          reported := none } })) ∧
    ((s.dl p).state.active = true →
      exec (.probeReply (.d p) rackId rackClass revision) s = .next (s.heard (.d p))) ∧
    ((s.dl p).state = .down ∨ (s.dl p).state = .refused →
      exec (.probeReply (.d p) rackId rackClass revision) s = .next s)

/-- KEEPALIVE restarts the loss timer of a link in SYNCING or UP and does nothing else; INFO on such a D port also stores
the child's rack id and class. On a port that takes no messages neither does anything.
The probe timer sends PROBE again in PROBING, the keepalive timer sends KEEPALIVE in SYNCING and UP, each reloaded. The
model's choices: a timer that does not run, or runs in no such state, does nothing, log 4; and a KEEPALIVE handed to a
busy port reloads its timer too, log 15. -/
def Obligations.KeepalivesKeepTheLink : Prop :=
  (∀ (port : Port) (p : DPort) (rackId : Word32) (rackClass : Word16) (s : State),
     (s.hears port → exec (.keepalive port) s = .next (s.heard port)) ∧
     (¬s.hears port → exec (.keepalive port) s = .next s) ∧
     (s.hears (.d p) → exec (.info (.d p) rackId rackClass) s = .next (s.withD p
       { s.dl p with loss := some 60,
                     child := (s.dl p).child.map fun c => { c with rackId := rackId, rackClass := rackClass } })) ∧
     (¬s.hears (.d p) → exec (.info (.d p) rackId rackClass) s = .next s)) ∧
  ∀ (p : DPort) (s : State),
    exec (.probeTimerExpiry p) s = .next
      (if (s.dl p).state = .probing ∧ (s.dl p).probe ≠ none then
         s.withD p ({ s.dl p with probe := some 50 }.send (.probe (byteOf s.ownTier) (s.ownPath ++ [p])))
       else s) ∧
    exec (.keepaliveTimerExpiry (.d p)) s = .next
      (if (s.dl p).state.active = true ∧ (s.dl p).keepalive ≠ none then
         s.withD p ({ s.dl p with keepalive := some 20 }.send .keepalive)
       else s) ∧
    exec (.keepaliveTimerExpiry .u) s = .next
      (if s.u.state.active = true ∧ s.u.keepalive ≠ none then
         State.toParent { s with u := { s.u with keepalive := some 20 } } .keepalive
       else s)

/-- The loss of a branch's U link, by LINK RESET, by its loss timer or by its carrier, with no PART RESET's reply waiting:
U is DOWN with its frames discarded but the one being sent, tier and path are unknown, every FORWARD of its parent is
freed, every D port is DOWN and its entries gone, and the drain holds nothing.
Where a PART RESET's reply waits unsent, the loss, by a PROBE too, begins the soft reset in the same happening: the values
of the chapters' reset rules, with the role and the rate kept, and the descriptor store as KEEP_DESCRIPTOR has it. The
model's choices: the reset's effect stands over what else the happening does (log 18), and of several such replies the
one that waits first gives the flag (log 37). -/
def Obligations.LostParentTearsEverythingDown : Prop :=
  (∀ (s : State) (c : Instr), s.role = .branch → s.u.state.active = true → s.u.tx.waitingReset = none →
     (c = .linkReset .u ∨ c = .lossTimerExpiry .u ∧ s.u.loss ≠ none ∨
       c = .presenceInputChange (.carrier .u) false ∧ s.u.filter.state = .present) →
     ∃ t, exec c s = .next t ∧ t.u.state = .down ∧ t.u.tx = { cur := s.u.tx.cur, waiting := [] } ∧ t.u.loss = none ∧
       t.u.keepalive = none ∧ t.u.recTier = none ∧ t.u.recPath = none ∧ t.u.tierKnown = false ∧ t.u.dumpPhase = .none ∧
       t.u.deltas = [] ∧ (∀ e ∈ t.ops.entries, e.kind = .forward → ∃ tag, e.origin = .host tag) ∧
       (∀ p, (t.dl p).state = .down) ∧ (∀ p, (s.dl p).state ≠ .down → ∀ e ∈ t.roster.entries, e.via p = false) ∧
       t.ev.inFlight = none ∧ t.ev.reported = [] ∧ t.ev.retransmit = none ∧ t.slots = s.slots ∧ t.targets = s.targets ∧
       t.filters = s.filters ∧ t.desc = s.desc ∧ t.rack = s.rack ∧ t.role = s.role ∧ t.pending = s.pending ∧
       t.budget.units = s.budget.units) ∧
  ∀ (keep : Bool) (tier : Byte) (path : Path) (line : Filter) (s : State) (c : Instr), s.role = .branch →
    s.u.state.active = true → s.u.tx.waitingReset = some keep →
    ((c = .linkReset .u ∨ c = .lossTimerExpiry .u ∧ s.u.loss ≠ none ∨
          c = .probe .u tier path ∧ s.u.filter.state = .present ∧ tier.toNat ≤ 2 ∧ path.length = tier.toNat + 1) ∧
        line = s.u.filter ∨
      c = .presenceInputChange (.carrier .u) false ∧ s.u.filter.state = .present ∧ line = { s.u.filter with raw := false }) →
    ∃ t, exec c s = .next t ∧ State.resetFrom { s with u := { s.u with filter := line } } t ∧ t.role = s.role ∧
      t.rate = s.rate ∧ t.lineRate = s.lineRate ∧ t.desc.commit = none ∧
      if keep then
        t.desc.staging = s.desc.staging ∧ t.desc.live = s.desc.live ∧ t.desc.liveBank = s.desc.liveBank ∧
          (t.desc.bank s.desc.live.other).blank
      else t.desc.staging.blank ∧ t.desc.bank0.blank ∧ t.desc.bank1.blank ∧ t.desc.live = .bank0

/-- FORWARD REQUEST at a branch that hears its parent: a path that is no path, or too long for the tree, a next port that is
not UP, and a full operation table are refused with this part's tier; otherwise it is relayed with the rest of its path,
under a new op id with the hop timeout of this part's tier. Nothing else changes. While the tier is unknown, in the first
SYNCING of a link, it is a free value: the model's choice, log 11. -/
def Obligations.ForwardRequestIsRelayed : Prop :=
  ∀ (tag path kind : Byte) (payload : List Byte) (p : DPort) (rest : Path) (s : State), s.hearsParent →
    payload.length ≤ 198 →
    (pathOf path = none → exec (.forwardRequest .u tag path kind payload) s = .next
      (s.sentUp (.forwardReply tag .refused (refusalPayload .badPath (word16Of s.ownTier))))) ∧
    (pathOf path = some (p :: rest) → exec (.forwardRequest .u tag path kind payload) s = .next
      (if 3 < rest.length + 1 + s.ownTier then
         s.sentUp (.forwardReply tag .refused (refusalPayload .badPath (word16Of s.ownTier)))
       else if (s.dl p).state ≠ .up then
         s.sentUp (.forwardReply tag .refused (refusalPayload .noRoute (word16Of s.ownTier)))
       else if 4 ≤ s.ops.entries.length then
         s.sentUp (.forwardReply tag .refused (refusalPayload .busy (word16Of s.ownTier)))
       else
         { s.withD p ((s.dl p).send (.forwardRequest s.ops.nextOp (pathByte rest) kind payload)) with
           u := { s.u with loss := some 60 },
           ops := s.ops.take .forward (.upstream tag) (some p) (some (250 - 50 * s.ownTier)) }))

/-- Requests executed at the branch they were sent to and answered up U: RACK CONFIGURE stores its settings; DESC COMMIT and
SLOT EJECT (of a slot without an entry) take their operations with the parent's tag as origin, as a root does for its
host, and so does RESCAN, which leaves the loss timers of the ports it asks (log 39). Refused are FORWARD, BAD_PATH with this part's tier for a malformed path byte and BAD_ARGUMENT
else (the model's order, log 22; the tier while unknown, log 11), EVENT FETCH and EVENT ACK, NOT_AT_BRANCH, and an unknown
kind. A PART RESET's reply carries the reset. -/
def Obligations.InnerRequestIsExecutedAtTheBranch : Prop :=
  ∀ (tag kind path width timeout m : Byte) (keep flag : Bool) (seqs : List Word16) (payload : List Byte) (i : SlotId)
    (s : State), s.hearsParent → payload.length ≤ 197 → seqs.length ≤ 98 →
    (1 ≤ width.toNat → width.toNat ≤ 100 → timeout ≠ 0 →
      exec (.forwardRequest .u tag 0 0x15 [width, timeout]) s = .next
        (State.sentUp { s with rack := { pulseWidth := width, ejectTimeout := timeout } }
          (.forwardReply tag .ok [width, timeout]))) ∧
    (s.desc.commit = none → headerPages s.desc.staging ≤ 8 → s.ops.entries.length < 4 →
      exec (.forwardRequest .u tag 0 0x22 [boolCode flag]) s = .next (State.sentUp
        { s with
          ops := s.ops.take .commit (.upstream tag) none none,
          desc := { s.desc with
                    commit := if s.pinCount s.desc.live.other = 0 then
                                some { phase := .copying, op := s.ops.nextOp, reannounce := flag,
                                       target := s.desc.live.other,
                                       timer := some (if headerPages s.desc.staging = 0 then 1
                                                      else 2 * headerPages s.desc.staging),
                                       newGen := if s.desc.generation = 0xFFFF then 1 else s.desc.generation + 1,
                                       selected := [] }
                              else
                                some { phase := .draining, op := s.ops.nextOp, reannounce := flag,
                                       target := s.desc.live.other, timer := none, newGen := 0, selected := [] } } }
        (.forwardReply tag .accepted [s.ops.nextOp]))) ∧
    ((s.slot i).state = .enabled ∨ (s.slot i).state = .online → s.localEntry i = none → s.ops.entries.length < 4 →
      exec (.forwardRequest .u tag 0 0x13 [slotByte i]) s = .next (State.sentUp
        (State.withSlot { s with ops := s.ops.take .eject (.upstream tag) none none } i
          { s.slot i with state := .leaving, timer := some (100 * s.rack.ejectTimeout.toNat), ejectRequested := true,
                          ejectOp := s.ops.nextOp })
        (.forwardReply tag .accepted [s.ops.nextOp]))) ∧
    (s.rescan = none → s.ops.entries.length < 4 → s.d1.state = .up ∨ s.d2.state = .up →
      ∃ t, exec (.forwardRequest .u tag 0 0x42 []) s = .next t ∧ t.ops = s.ops.take .rescan (.upstream tag) none none ∧
        { msg := .forwardReply tag .accepted [s.ops.nextOp], resets := none } ∈ t.u.tx.frames ∧
        t.rescan = some { op := s.ops.nextOp,
                          ports := (if s.d1.state = .up then [.d1] else []) ++ (if s.d2.state = .up then [.d2] else []),
                          synced := 0 } ∧
        ∀ p, t.dl p = if (s.dl p).state = .up then
                        { s.dl p with state := .syncing, syncPhase := .awaiting, syncTimer := some 500 }.send .resync
                      else s.dl p) ∧
    (payload.length ≤ 196 → exec (.forwardRequest .u tag 0 0x03 (path :: kind :: payload)) s = .next
      (s.sentUp (.forwardReply tag .refused
        (if pathOf path = none then refusalPayload .badPath (word16Of s.ownTier) else refusalPayload .badArgument 0)))) ∧
    exec (.forwardRequest .u tag 0 0x50 [m]) s = .next
      (s.sentUp (.forwardReply tag .refused (refusalPayload .notAtBranch 0))) ∧
    exec (.forwardRequest .u tag 0 0x51 (byteOf seqs.length :: seqs.flatMap be16)) s = .next
      (s.sentUp (.forwardReply tag .refused (refusalPayload .notAtBranch 0))) ∧
    (isRequest kind = false → exec (.forwardRequest .u tag 0 kind payload) s = .next
      (s.sentUp (.forwardReply tag .refused (refusalPayload .unknownKind ((0 : Byte) ++ kind))))) ∧
    exec (.forwardRequest .u tag 0 0x02 [boolCode keep]) s = .next
      { s with u := { s.u with
        loss := some 60, tx := s.u.tx.hand { msg := .forwardReply tag .ok [], resets := some keep },
        keepalive := if s.u.tx.cur = none then some 20 else s.u.keepalive } }

/-- A waiting FORWARD is answered by its FORWARD REPLY, or FORWARD_TIMEOUT with this part's tier (a free value while unknown,
log 11) when its hop timer runs out: its entry is freed, and the reply goes up U under the parent's tag, or to the host
as a late reply under the host's tag, and into the repeat memory where that still waits for it, as it is handed on (the
model's choice, log 13). A fifth late reply beside
four that wait is not handed on: the model's choice, log 14. A reply without such an entry only restarts the
loss timer, and an expiry without one does nothing (log 4). A FORWARD REPLY whose payload is none of its kind is a frame
that R172 discards, and does nothing (log 7); the data of an OK reply are not judged (log 17). -/
def Obligations.WaitingForwardIsAnswered : Prop :=
  ∀ (e : OpEntry) (p : DPort) (tag : Byte) (kind : ReplyKind) (payload : List Byte) (m : RepeatRec)
    (s base answered : State) (c : Instr), payload.length ≤ 199 →
    (replyFits kind payload = false → exec (.forwardReply (.d p) tag kind payload) s = .next s) ∧
    (s.ops.ids.Nodup → e.kind = .forward → e.hopPort = some p → e.hopTimer ≠ none →
      (c = .forwardReply (.d p) e.op kind payload ∧ (s.dl p).state.active = true ∧ replyFits kind payload = true ∧
          base = s.heard (.d p) ∨
        c = .hopTimerExpiry e.op ∧ kind = .refused ∧ payload = refusalPayload .forwardTimeout (word16Of s.ownTier) ∧
          base = s) →
      (e ∈ s.ops.entries → e.origin = .upstream tag → s.u.state.active = true →
        exec c s = .next (State.toParent
          { base with ops := { s.ops with entries := s.ops.entries.filter fun x => decide (x.op ≠ e.op) } }
          (.forwardReply tag kind payload))) ∧
      (e ∈ s.ops.entries → e.origin = .host tag → s.host.memory = some m →
        answered = { base with
          ops := { s.ops with entries := s.ops.entries.filter fun x => decide (x.op ≠ e.op) },
          host := { s.host with memory := some (if m.reply = .pending e.op then
                                                  { m with reply := .frame (replyFrame tag kind payload) } else m) } } →
        exec c s = .next (if s.host.waitingOf .late < 4 then
                            State.handed answered { sort := .late, frame := replyFrame tag kind payload, resets := none }
                          else answered)) ∧
      (e.op ∉ s.ops.ids → exec c s = .next base))

/-! ### Roster propagation (chapter 7) -/

/-- RESYNC from the parent, and the ack timer's expiry, begin a new dump of every key the roster holds: a link that was UP
is SYNCING, the outbound delta queue is empty, and SYNC BEGIN is handed on; nothing else changes. With an empty roster SYNC
END is handed on in the same happening and the ack awaited: the model's reading of R129's "at once", log 21.
While a dump is SENDING, the last waiting frame of U gone out makes the next frame of the dump: the SYNC ENTRY of the
list's next key, as the roster stands now, or, behind the last key, SYNC END, after which the ack is awaited for 500 ms. -/
def Obligations.DumpIsBegunAndSentFrameByFrame : Prop :=
  (∀ (x : TxFrame) (s : State), s.u.tx.cur = some x → x.resets = none → s.u.tx.waiting = [] → s.u.dumpPhase = .sending →
     s.u.state.active = true → 1 ≤ s.u.cursor →
     (∀ k, s.u.dumpList[s.u.cursor - 1]? = some k → exec (.linkFrameSent .u) s = .next { s with
       u := { s.u with
         tx := { cur := some { msg := .syncEntry (byteOf s.u.cursor)
                                 (match findEntry k s.roster.entries with
                                   | some e => .present e.record
                                   | none => .vacant k), resets := none }, waiting := [] },
         keepalive := some 20, cursor := s.u.cursor + 1 } }) ∧
     (s.u.dumpList.length < s.u.cursor → exec (.linkFrameSent .u) s = .next { s with
       u := { s.u with
         tx := { cur := some { msg := .syncEnd (byteOf s.u.dumpList.length) s.roster.flags, resets := none }, waiting := [] },
         keepalive := some 20, dumpPhase := .awaitingAck, ackTimer := some 500 } })) ∧
  ∀ (s begun : State) (c : Instr) (cause : DumpCause) (loss : Timer), s.hearsParent →
    (c = .resync .u ∧ cause = .requested ∧ loss = some 60 ∨
      c = .ackTimerExpiry ∧ cause = .noAck ∧ loss = s.u.loss ∧ s.u.dumpPhase = .awaitingAck ∧ s.u.ackTimer ≠ none) →
    begun = State.toParent
      { s with
        u := { s.u with state := .syncing, loss := loss, dumpPhase := .sending, dumpCause := cause,
                        dumpList := s.roster.keys, cursor := 1, ackTimer := none, deltas := [], retransmit := none },
        ev := { s.ev with retransmit := if s.u.state = .up then none else s.ev.retransmit } }
      (.syncBegin (byteOf s.roster.entries.length) cause) →
    exec c s = .next
      (if s.roster.entries = [] then
         State.toParent { begun with u := { begun.u with dumpPhase := .awaitingAck, ackTimer := some 500 } }
           (.syncEnd 0 s.roster.flags)
       else begun)

/-- SYNC ACK, awaited in SYNCING, takes U to UP with sequence numbers from 1 on: with nothing to send nothing else
changes but that the dump list is empty and the cursor 1, as the table of section 7.2 ranges it (DEDUCED, log 40). On
the first one of a link, the roster's keys distinct (the budget law), the tier becomes known, and every D port in DOWN
with carrier is probed or refused by it. A SYNC ACK that is not awaited only restarts the loss timer. -/
def Obligations.SyncAckBringsUUp : Prop :=
  ∀ (s : State) (n : Nat), s.hearsParent →
    (s.u.state ≠ .syncing ∨ s.u.dumpPhase ≠ .awaitingAck → exec (.syncAck .u) s = .next (s.heard .u)) ∧
    (s.u.state = .syncing → s.u.dumpPhase = .awaitingAck → s.u.tierKnown = true → s.u.deltas = [] → s.ev.queue = [] →
      s.ev.reported = [] → s.ev.inFlight = none →
      exec (.syncAck .u) s = .next { s with
        u := { s.u with state := .up, dumpPhase := .none, dumpList := [], cursor := 1, ackTimer := none, nextSeq := 1,
                        loss := some 60 } }) ∧
    (s.u.state = .syncing → s.u.dumpPhase = .awaitingAck → s.u.tierKnown = false → s.u.recTier = some n →
      s.u.deltas.length < 32 → s.d1.state = .down → s.d2.state = .down → s.roster.keys.Nodup →
      ∃ t, exec (.syncAck .u) s = .next t ∧ t.u.state = .up ∧ t.u.tierKnown = true ∧ t.u.recTier = some n ∧
        (∀ p, (t.dl p).state = if (s.dl p).filter.state = .present then (if n ≤ 2 then .probing else .refused) else .down) ∧
        (∀ p, (s.dl p).filter.state = .present → n ≤ 2 → (t.dl p).probe = some 50) ∧
        t.roster.entries = s.roster.entries ∧ t.slots = s.slots ∧ t.targets = s.targets ∧ t.desc = s.desc ∧
        t.ops = s.ops ∧ t.rescan = s.rescan ∧ t.pending = s.pending)

/-- DELTA ACK in UP of a sent delta removes it and every delta ahead of it; with none left unsent the timer is reloaded
while some are left and stopped otherwise. One that names no delta only restarts the loss timer.
DELTA ACK in UP with unsent deltas behind the window: the deltas not acknowledged keep their numbers and order, and the
next ones are numbered in turn and sent, until eight are unacknowledged or none is left.
A change that a child's delta makes to a branch's roster or completeness flags, shown for one that touches no second
entry, is handed up as one delta under the port's path: discarded while U is not SYNCING or UP, queued unsent in SYNCING,
and in UP sent with the next number while fewer than eight are unacknowledged, or else queued unsent; where 32 are queued
a dump with cause QUEUE_FULL begins instead, with SYNC END at once for an empty roster (log 21). The flags a child reports
are stored in the branch table and the completeness flags reckoned anew. -/
def Obligations.DeltaAckRemovesThrough : Prop :=
  (∀ (seq : Byte) (ahead rest : List Delta) (d : Delta) (s : State), s.hearsParent →
     (s.u.state = .up → s.u.deltas = ahead ++ d :: rest → d.seq = some seq → (∀ x ∈ ahead, x.seq ≠ some seq) →
       (∀ x ∈ rest, x.seq ≠ none) →
       exec (.deltaAck .u seq) s = .next { s with
         u := { s.u with loss := some 60, deltas := rest, retransmit := if rest = [] then none else some 40 } }) ∧
     ((∀ x ∈ s.u.deltas, x.seq ≠ some seq) → exec (.deltaAck .u seq) s = .next (s.heard .u))) ∧
  (∀ (seq : Byte) (ahead rest : List Delta) (d : Delta) (s : State) (sent more : Nat), s.hearsParent →
     s.u.state = .up → s.u.deltas = ahead ++ d :: rest → d.seq = some seq → (∀ x ∈ ahead, x.seq ≠ some seq) →
     windowed s.u.deltas → (s.u.tx.cur = none → s.u.tx.waiting = []) →
     sent = (rest.filterMap Delta.seq).length → more = min 8 rest.length - sent →
     ∃ t, exec (.deltaAck .u seq) s = .next t ∧ t.u.deltas.map Delta.body = rest.map Delta.body ∧ windowed t.u.deltas ∧
       t.u.deltas.filterMap Delta.seq = rest.filterMap Delta.seq ++ seqsFrom s.u.nextSeq more ∧
       s.u.nextSeq :: seqsFrom (nextByte s.u.nextSeq) more = seqsFrom s.u.nextSeq more ++ [t.u.nextSeq] ∧
       t.u.retransmit = (if rest = [] then none else some 40) ∧
       t.u.tx.frames = s.u.tx.frames ++ (t.u.deltas.drop sent).filterMap (fun x => x.seq.map fun n =>
         { msg := LinkMsg.delta n x.body, resets := none }) ∧
       { t with u := { t.u with deltas := s.u.deltas, nextSeq := s.u.nextSeq, retransmit := s.u.retransmit, tx := s.u.tx,
                                keepalive := s.u.keepalive } } = s.heard .u) ∧
  ∀ (p : DPort) (seq : Byte) (body up : DeltaBody) (k : Key) (r : LinkRecord) (o : Entry) (f g : Flags) (s : State),
    s.role = .branch → (s.dl p).state.active = true → (s.dl p).syncPhase = .none → seq = (s.dl p).expected →
    s.roster.marker1 = false → s.roster.marker2 = false → s.roster.keys.Nodup →
    (s.u.tx.cur = none → s.u.tx.waiting = []) →
    (body = .remove k ∧ up = .remove (remoteKey p k) ∧ findEntry (remoteKey p k) s.roster.entries = some o ∧
        o.state ≠ .conflict ∧ (∀ x ∈ s.roster.entries, x.serial = o.serial → x.key = o.key) ∨
      (body = .add r ∧ up = .add { r with key := remoteKey p r.key } ∧
            findEntry (remoteKey p r.key) s.roster.entries = none ∧ s.roster.entries.length < 96 ∧
            (∀ x ∈ s.roster.entries, x.serial = r.serial → x.state = .conflict) ∨
          body = .update r ∧ up = .update { r with key := remoteKey p r.key } ∧
            findEntry (remoteKey p r.key) s.roster.entries = some o ∧ o.serial = r.serial ∧ o.state ≠ .conflict ∧
            o.reported ≠ some .conflict ∧ r.state ≠ .conflict ∧ (o.state ≠ r.state ∨ o.grant ≠ r.grant)) ∧
        r.serial ≠ 0 ∧ r.caps.length ≤ 8 ∧ r.key.path.length + 1 + s.ownTier ≤ 3 ∧ r.draw.toNat ≤ 3 ∨
      body = .flags f ∧ up = .flags g ∧ g ≠ s.roster.flags ∧
        g = (s.withD p { s.dl p with
              child := (s.dl p).child.map fun c => { c with reported := some f } }).causedFlags) →
    ∃ t, exec (.delta (.d p) seq body) s = .next t ∧
      (s.u.state.active = false → t.u = s.u) ∧
      (s.u.state = .syncing → s.u.deltas.length < 32 →
        t.u = { s.u with deltas := s.u.deltas ++ [{ body := up, seq := none }] }) ∧
      (s.u.state = .up → windowed s.u.deltas → s.u.deltas.length < 8 →
        t.u.deltas = s.u.deltas ++ [{ body := up, seq := some s.u.nextSeq }] ∧ t.u.nextSeq = nextByte s.u.nextSeq ∧
          t.u.retransmit = (if s.u.deltas = [] then some 40 else s.u.retransmit) ∧
          t.u.tx.frames = s.u.tx.frames ++ [{ msg := .delta s.u.nextSeq up, resets := none }]) ∧
      (s.u.state = .up → windowed s.u.deltas → 8 ≤ s.u.deltas.length → s.u.deltas.length < 32 →
        t.u = { s.u with deltas := s.u.deltas ++ [{ body := up, seq := none }] }) ∧
      (s.u.state.active = true → 32 ≤ s.u.deltas.length →
        t.u.state = .syncing ∧ t.u.deltas = [] ∧ t.u.dumpCause = .queueFull ∧ t.u.dumpList = t.roster.keys ∧
          t.u.dumpPhase = (if t.roster.entries = [] then .awaitingAck else .sending) ∧
          t.u.tx.frames = s.u.tx.frames ++
            { msg := .syncBegin (byteOf t.roster.entries.length) .queueFull, resets := none } ::
              if t.roster.entries = [] then [{ msg := .syncEnd 0 t.roster.flags, resets := none }] else []) ∧
      (body = .flags f → t.roster.flags = g ∧ t.roster.flags = t.causedFlags ∧
        (t.dl p).child = (s.dl p).child.map fun c => { c with reported := some f })

/-- The retransmit timers, running with U UP: every unacknowledged delta is handed on again in order, and the event item
in flight is handed on again; each timer is reloaded with 40 ms, and nothing else changes. -/
def Obligations.UnacknowledgedItemsAreSentAgain : Prop :=
  ∀ (s : State) (x : InFlight), s.u.state = .up →
    (s.u.retransmit ≠ none → (s.u.tx.cur = none → s.u.tx.waiting = []) →
      ∃ t, exec .deltaRetransmitExpiry s = .next t ∧ t.u.retransmit = some 40 ∧
        t.u.tx.frames = s.u.tx.frames ++ s.u.deltas.filterMap (fun d => d.seq.map fun seq =>
          { msg := LinkMsg.delta seq d.body, resets := none }) ∧
        { t with u := { t.u with tx := s.u.tx, keepalive := s.u.keepalive, retransmit := s.u.retransmit } } = s) ∧
    (s.ev.inFlight = some x → s.ev.retransmit ≠ none →
      exec .eventRetransmitExpiry s = .next
        (State.toParent { s with ev := { s.ev with retransmit := some 40 } } (flightMsg x)))

/-- SYNC BEGIN on a D port in SYNCING or UP: every entry of the port is marked stale, and the port awaits entries from
ordinal 1 on; on a port that was UP before, BRANCH_RESYNC is raised with the dump's cause. A count above 96 does nothing. -/
def Obligations.SyncBeginMarksEntriesStale : Prop :=
  ∀ (p : DPort) (count : Byte) (cause : DumpCause) (pr : Fin 4) (s : State), (s.dl p).state.active = true →
    (96 < count.toNat → exec (.syncBegin (.d p) count cause) s = .next (s.heard (.d p))) ∧
    (count.toNat ≤ 96 →
      ∃ t, exec (.syncBegin (.d p) count cause) s = .next t ∧
        t.roster.entries = (s.roster.entries.map fun e => if e.via p then { e with stale := true } else e) ∧
        t.dl p = { s.dl p with loss := some 60, state := .syncing, syncPhase := .receiving, announced := count.toNat,
                               nextOrdinal := 1, recent := [], syncTimer := some 500 } ∧
        (∀ q, q ≠ p → t.dl q = s.dl q) ∧ t.roster.flags = t.causedFlags ∧ t.ops = s.ops ∧ t.rescan = s.rescan ∧
        ((s.dl p).everUp = true → s.ev.takesNew pr .branchResync (portLocus p) →
          latchedRecord s.ev pr .branchResync (portLocus p) (detailOf (dumpCauseCode cause)) ∈ t.ev.queue))

/-- A record of a child's entry, by the SYNC ENTRY with the next ordinal or by the DELTA with the expected sequence, is
stored by the parent's roster; the ordinal or the sequence moves on, and a delta is acknowledged.
A key that the child no longer holds, by the SYNC ENTRY of a vacant key or by a REMOVE delta, is removed from the
parent's roster, and no other. -/
def Obligations.ChildsRecordsReachTheRoster : Prop :=
  (∀ (p : DPort) (ordinal seq : Byte) (r : LinkRecord) (s : State) (c : Instr), (s.dl p).state.active = true →
     s.roster.marker1 = false → s.roster.marker2 = false → LinkRecord.fits r = true → r.caps.length ≤ 85 →
     (c = .syncEntry (.d p) ordinal (.present r) ∧ (s.dl p).syncPhase = .receiving ∧
         ordinal.toNat = (s.dl p).nextOrdinal ∧ (s.dl p).nextOrdinal ≤ (s.dl p).announced ∨
       (c = .delta (.d p) seq (.add r) ∨ c = .delta (.d p) seq (.update r)) ∧ (s.dl p).syncPhase = .none ∧
         seq = (s.dl p).expected) →
     ∃ t, exec c s = .next t ∧ State.storesRecord p r s t ∧ State.portFrame p s t ∧ t.ops = s.ops ∧ t.rescan = s.rescan ∧
       t.dl p = (if (s.dl p).syncPhase = .none then
                   { s.dl p with loss := some 60, expected := nextByte seq,
                                 recent := lastEight ((s.dl p).recent ++ [seq]) }.send (.deltaAck seq)
                 else { s.dl p with loss := some 60, nextOrdinal := (s.dl p).nextOrdinal + 1 })) ∧
  ∀ (p : DPort) (ordinal seq : Byte) (k : Key) (s : State) (c : Instr), (s.dl p).state.active = true →
    s.roster.marker1 = false → s.roster.marker2 = false →
    (c = .syncEntry (.d p) ordinal (.vacant k) ∧ (s.dl p).syncPhase = .receiving ∧
        ordinal.toNat = (s.dl p).nextOrdinal ∧ (s.dl p).nextOrdinal ≤ (s.dl p).announced ∨
      c = .delta (.d p) seq (.remove k) ∧ (s.dl p).syncPhase = .none ∧ seq = (s.dl p).expected) →
    ∃ t, exec c s = .next t ∧
      t.roster.keys = s.roster.keys.filter (fun x => decide (x ≠ remoteKey p k)) ∧ State.portFrame p s t ∧
      t.ops = s.ops ∧ t.rescan = s.rescan

/-- A delta out of its turn: one lately taken is acknowledged again with the last sequence taken and not applied; any
other makes the port ask for a dump; and while a dump is awaited or received a delta does nothing. -/
def Obligations.DeltaOutOfTurn : Prop :=
  ∀ (p : DPort) (seq : Byte) (body : DeltaBody) (s : State), (s.dl p).state.active = true →
    LinkMsg.fits (.delta seq body) = true →
    ((s.dl p).syncPhase ≠ .none → exec (.delta (.d p) seq body) s = .next (s.heard (.d p))) ∧
    ((s.dl p).syncPhase = .none → seq ≠ (s.dl p).expected → seq ∈ (s.dl p).recent →
      exec (.delta (.d p) seq body) s = .next (s.withD p
        ({ s.dl p with loss := some 60 }.send (.deltaAck ((s.dl p).recent.getLastD 0))))) ∧
    ((s.dl p).syncPhase = .none → seq ≠ (s.dl p).expected → seq ∉ (s.dl p).recent →
      ∃ t, exec (.delta (.d p) seq body) s = .next t ∧
        t.dl p = { s.dl p with loss := some 60, state := .syncing, syncPhase := .awaiting, syncTimer := some 500 }.send .resync ∧
        t.roster.entries = s.roster.entries ∧ t.roster.flags = t.causedFlags ∧ (∀ q, q ≠ p → t.dl q = s.dl q) ∧
        State.portFrame p s t ∧ t.ops = s.ops ∧ t.budget = s.budget)

/-- SYNC END that matches what was announced and received completes the sync: the port is UP with the child's flags,
SYNC ACK goes out, deltas are expected from 1 on, and the entries still stale are gone; one that does not match, and the
sync timer's expiry, make the port ask for a dump. -/
def Obligations.SyncEndCompletesTheSync : Prop :=
  ∀ (p : DPort) (count : Byte) (f : Flags) (s : State) (c : Instr), (s.dl p).state.active = true →
    s.roster.marker1 = false → s.roster.marker2 = false → s.roster.keys.Nodup →
    (c = .syncEnd (.d p) count f → (s.dl p).syncPhase = .receiving → count.toNat = (s.dl p).announced →
      (s.dl p).nextOrdinal = count.toNat + 1 →
      ∃ t, exec c s = .next t ∧ (t.dl p).state = .up ∧ (t.dl p).syncPhase = .none ∧ (t.dl p).syncTimer = none ∧
        (t.dl p).expected = 1 ∧ (t.dl p).everUp = true ∧ (t.dl p).loss = some 60 ∧
        (t.dl p).child = (s.dl p).child.map (fun x => { x with reported := some f }) ∧
        (t.dl p).tx = (s.dl p).tx.hand { msg := .syncAck, resets := none } ∧
        t.roster.keys = (s.roster.entries.filter fun e => !(e.via p && e.stale)).map Entry.key ∧
        t.roster.flags = t.causedFlags ∧ (∀ r, t.rescan = some r → p ∉ r.ports) ∧ State.portFrame p s t) ∧
    (c = .syncEnd (.d p) count f ∧ (s.dl p).syncPhase = .receiving ∧
          (count.toNat ≠ (s.dl p).announced ∨ (s.dl p).nextOrdinal ≠ count.toNat + 1) ∨
        c = .syncTimerExpiry p ∧ (s.dl p).syncPhase ≠ .none ∧ (s.dl p).syncTimer ≠ none →
      ∃ t, exec c s = .next t ∧
        t.dl p = { s.dl p with loss := if c = Instr.syncTimerExpiry p then (s.dl p).loss else some 60, state := .syncing,
                               syncPhase := .awaiting, syncTimer := some 500 }.send .resync ∧
        t.roster.entries = s.roster.entries ∧ t.roster.flags = t.causedFlags ∧ State.portFrame p s t ∧
        t.rescan = s.rescan ∧ t.ops = s.ops)

/-! ### Events carried up the tree (chapter 8) -/

/-- An event record whose detail is outside the enumeration of its kind is a frame that R172 discards, and does nothing
(log 7; which enumeration a CHECKIN_REFUSED and an OP_DONE are held to is the model's reading, log 46). Of the others,
an event record from a child: too deep it is dropped without an answer; already taken it is only acknowledged; a new
LATCHED one with no lost count is acknowledged and queued with the port in front of its locus and origin, its kind at this
part's priority, or, where one of its kind and locus is pending, added to that one. With a lost count BRANCH_EVENTS_LOST is
queued first with that number, or added to the pending one.
A child's CONDITION enters the remote condition set with its record, and a CONDITION CLEAR takes it out again; each is
acknowledged. Shown where the part's own parent has been told of nothing. That the record is queued even where a local
owner claims the instance (log 29), and whatever the style of its kind in the kind table (log 17), is the model's choice. -/
def Obligations.ChildsEventsAndConditionsAreTaken : Prop :=
  (∀ (port : Port) (e : EventUp) (s : State), ¬ detailOfItsCodes e → exec (.eventUp port e) s = .next s) ∧
  (∀ (p : DPort) (e : EventUp) (pr : Fin 4) (s : State), (s.dl p).state.active = true → detailOfItsCodes e →
     (4 < e.locus.path.length + 1 ∨ 3 < e.origin.length + 1 →
       exec (.eventUp (.d p) e) s = .next (s.heard (.d p))) ∧
     (e.locus.path.length ≤ 3 → e.origin.length ≤ 2 → (s.dl p).lastChildSeq = some e.seq →
       exec (.eventUp (.d p) e) s = .next
         (s.withD p ({ s.dl p with loss := some 60 }.send (.eventAck .record e.seq)))) ∧
     (e.locus.path.length ≤ 3 → e.origin.length ≤ 2 → (s.dl p).lastChildSeq ≠ some e.seq → e.lost = 0 →
       e.style = .latched → s.ev.takesNew pr e.kind { e.locus with path := p :: e.locus.path } →
       ∃ t, exec (.eventUp (.d p) e) s = .next t ∧
         t.ev.queue = s.ev.queue ++ [{ seq := s.ev.counter, kind := e.kind, priority := pr, style := .latched,
                                       locus := { e.locus with path := p :: e.locus.path }, detail := e.detail,
                                       count := e.count.toNat, origin := p :: e.origin }] ∧
         State.sameButEvents t (s.withD p
           ({ s.dl p with loss := some 60, lastChildSeq := some e.seq }.send (.eventAck .record e.seq)))) ∧
     (e.locus.path.length ≤ 3 → e.origin.length ≤ 2 → (s.dl p).lastChildSeq ≠ some e.seq → e.lost = 0 →
       e.style = .latched → s.ev.setting e.kind ≠ none →
       s.ev.isPending e.kind { e.locus with path := p :: e.locus.path } = true →
       exec (.eventUp (.d p) e) s = .next { s.withD p
           ({ s.dl p with loss := some 60, lastChildSeq := some e.seq }.send (.eventAck .record e.seq)) with
         ev := { s.ev with queue := s.ev.queue.map fun r =>
           if r.kind = e.kind ∧ r.locus = { e.locus with path := p :: e.locus.path } then
             { r with count := min 255 (r.count + e.count.toNat), origin := p :: e.origin,
                      detail := if e.kind = .branchEventsLost then
                                  word16Of (min 65535 (r.detail.toNat + e.detail.toNat))
                                else e.detail }
           else r } })) ∧
  (∀ (p : DPort) (e : EventUp) (pr low : Fin 4) (s : State) (new : EvRecord), (s.dl p).state.active = true →
     detailOfItsCodes e → e.locus.path.length ≤ 3 → e.origin.length ≤ 2 → (s.dl p).lastChildSeq ≠ some e.seq → e.lost ≠ 0 →
     e.style = .latched → e.kind ≠ .branchEventsLost →
     s.ev.takesNew pr e.kind { e.locus with path := p :: e.locus.path } →
     new = { seq := s.ev.counter, kind := e.kind, priority := pr, style := .latched,
             locus := { e.locus with path := p :: e.locus.path }, detail := e.detail, count := e.count.toNat,
             origin := p :: e.origin } →
     ∃ t, exec (.eventUp (.d p) e) s = .next t ∧
       State.sameButEvents t (s.withD p
         ({ s.dl p with loss := some 60, lastChildSeq := some e.seq }.send (.eventAck .record e.seq))) ∧
       (s.ev.takesNew low .branchEventsLost (portLocus p) → s.ev.queue.length + 2 ≤ 32 →
         t.ev.queue = s.ev.queue ++
           [latchedRecord s.ev low .branchEventsLost (portLocus p) (word16Of e.lost.toNat),
            { new with seq := counterAfter s.ev.counter (s.ev.queue ++
                [latchedRecord s.ev low .branchEventsLost (portLocus p) (word16Of e.lost.toNat)]) }]) ∧
       (s.ev.setting .branchEventsLost ≠ none → s.ev.isPending .branchEventsLost (portLocus p) = true →
         t.ev.queue = (s.ev.queue.map fun r =>
             if r.kind = .branchEventsLost ∧ r.locus = portLocus p then
               { r with count := min 255 (r.count + 1), origin := [],
                        detail := word16Of (min 65535 (r.detail.toNat + e.lost.toNat)) }
             else r) ++ [new])) ∧
  ∀ (p : DPort) (e : EventUp) (k : EvKind) (l : Locus) (seq : Word16) (pr : Fin 4) (s : State),
    (s.dl p).state.active = true → s.ev.reported = [] →
    (detailOfItsCodes e → e.locus.path.length ≤ 3 → e.origin.length ≤ 2 → (s.dl p).lastChildSeq ≠ some e.seq → e.lost = 0 →
      e.style = .condition → s.ev.remoteHolds e.kind { e.locus with path := p :: e.locus.path } = false →
      s.ev.remoteConds.length < 32 → s.ev.takesNew pr e.kind { e.locus with path := p :: e.locus.path } →
      ∃ t, exec (.eventUp (.d p) e) s = .next t ∧
        t.ev.queue = s.ev.queue ++ [{ seq := s.ev.counter, kind := e.kind, priority := pr, style := .condition,
                                      locus := { e.locus with path := p :: e.locus.path }, detail := e.detail,
                                      count := e.count.toNat, origin := p :: e.origin }] ∧
        State.sameButEvents t { s.withD p
            ({ s.dl p with loss := some 60, lastChildSeq := some e.seq }.send (.eventAck .record e.seq)) with
          ev := { s.ev with remoteConds := s.ev.remoteConds ++
            [{ port := p, kind := e.kind, locus := { e.locus with path := p :: e.locus.path }, detail := e.detail,
               origin := p :: e.origin }] } }) ∧
    exec (.conditionClear (.d p) k l seq) s = .next { s.withD p
        ({ s.dl p with loss := some 60 }.send (.eventAck .clear seq)) with
      ev := { s.ev with remoteConds := s.ev.remoteConds.filter fun c =>
        !(decide (c.kind = k) && decide (c.locus = { l with path := p :: l.path })) } }

/-- EVENT ACK from the parent, shown in SYNCING: the record in flight leaves the queue, and a CONDITION is noted as
reported, waiting to be cleared where it has ended; a record that gained occurrences since stays, renewed with a new number
and the count not yet reported; the clear in flight drops its reported condition; any other number only restarts the
loss timer. Shown for a queue that holds the one record in flight. The model's choices: a condition reported again
takes the place of its earlier entry, log 24, and a record sent with the greatest count, 255, leaves the queue though
occurrences were coalesced into it since, log 43.
With U UP the acknowledgement of the clear in flight sends the next item in the same happening: the clear marked first of
those that wait, or else the record first in delivery order with the lost count, which is then 0, or else none. -/
def Obligations.EventAckSettlesTheItemInFlight : Prop :=
  (∀ (e : EventUp) (r : EvRecord) (k : EvKind) (l : Locus) (n seq : Word16) (s : State), s.role = .branch →
     s.u.state = .syncing →
     (s.ev.inFlight = some (.record e) → s.ev.queue = [r] → r.seq = e.seq →
       (r.count ≤ e.count.toNat → exec (.linkEventAck .u .record e.seq) s = .next { s.heard .u with
         ev := { s.ev with
           inFlight := none, retransmit := none, queue := [],
           reported := if r.style = .latched then s.ev.reported
                       else (s.ev.reported.filter fun x => !(x.is r.kind r.locus)) ++
                         [{ kind := r.kind, locus := r.locus, seq := r.seq, waiting := !s.ev.holds r.kind r.locus }] } }) ∧
       (e.count.toNat < r.count → ∃ t x, exec (.linkEventAck .u .record e.seq) s = .next t ∧ t.ev.inFlight = none ∧
         t.ev.queue = [x] ∧ x.seq = s.ev.counter ∧ x.kind = r.kind ∧ x.locus = r.locus ∧
         x.count = r.count - e.count.toNat ∧ t.ev.reported = s.ev.reported ∧ { t with ev := s.ev } = s.heard .u)) ∧
     (s.ev.inFlight = some (.clear k l n) → exec (.linkEventAck .u .clear n) s = .next { s.heard .u with
       ev := { s.ev with inFlight := none, retransmit := none,
                         reported := s.ev.reported.filter fun x => !(x.is k l) } }) ∧
     (s.ev.inFlight = some (.record e) → seq ≠ e.seq → exec (.linkEventAck .u .record seq) s = .next (s.heard .u))) ∧
  ∀ (k : EvKind) (l : Locus) (n : Word16) (kept : List Reported) (r : Reported) (x : EvRecord) (later : List EvRecord)
    (e : EventUp) (s : State), s.role = .branch → s.u.state = .up → s.ev.inFlight = some (.clear k l n) →
    kept = (s.ev.reported.filter fun y => !(decide (y.kind = k) && decide (y.locus = l))) →
    e = { seq := x.seq, kind := x.kind, priority := byteOf x.priority.val, style := x.style, locus := x.locus,
          detail := x.detail, count := byteOf x.count, origin := x.origin, lost := byteOf s.ev.lost } →
    (kept.find? Reported.waiting = some r → exec (.linkEventAck .u .clear n) s = .next (State.toParent
      { s.heard .u with ev := { s.ev with inFlight := some (.clear r.kind r.locus r.seq), retransmit := some 40,
                                          reported := kept } } (.conditionClear r.kind r.locus r.seq))) ∧
    ((∀ y ∈ kept, y.waiting = false) → deliveryOrder s.ev.queue = x :: later →
      exec (.linkEventAck .u .clear n) s = .next (State.toParent
        { s.heard .u with ev := { s.ev with inFlight := some (.record e), retransmit := some 40, reported := kept,
                                            lost := 0 } } (.eventUp e))) ∧
    ((∀ y ∈ kept, y.waiting = false) → s.ev.queue = [] → exec (.linkEventAck .u .clear n) s = .next
      { s.heard .u with ev := { s.ev with inFlight := none, retransmit := none, reported := kept } })

/-! ### Encodings and invariants -/

/-- A link message whose fields its layout can encode is what its kind, tag and payload decode to, whatever the values of
its fields, of which the model judges no more than R172 lists (log 17); an EVENT UP whose detail is outside the enumeration
of its kind (log 46) decodes to no message; and a path of at most 4 elements and its byte determine each other. -/
def Obligations.EncodedMessagesDecodeToThemselves : Prop :=
  (∀ m : LinkMsg, LinkMsg.fits m = true → linkMsgOf (linkKind m) (linkTag m) (linkPayload m) = some m) ∧
  (∀ (e : EventUp) (tag : Byte), Locus.fits e.locus = true → ¬ detailOfItsCodes e →
    linkMsgOf (linkKind (.eventUp e)) tag (linkPayload (.eventUp e)) = none) ∧
  (∀ path : Path, path.length ≤ 4 → pathOf (pathByte path) = some path) ∧
  ∀ (b : Byte) (path : Path), pathOf b = some path → pathByte path = b

/-- The state after reset has every invariant stated below. -/
def Obligations.ResetHasTheInvariants : Prop :=
  State.reset.desc.canonical = true ∧ State.reset.desc.partBytes ∧ State.reset.withinSizes ∧ State.reset.budgetLaw

/-- Every step keeps the descriptor's copies in their canonical form, and the part-written bytes of staging as hardware
reset left them. -/
def Obligations.StepsKeepTheDescriptorCanonical : Prop :=
  ∀ s t : State, s.desc.canonical = true → s.desc.partBytes → step s = .next t →
    t.desc.canonical = true ∧ t.desc.partBytes

/-- Every step keeps the part's lists within their sizes, its op ids and pending records told apart, and a refused marker
standing only over a full roster. -/
def Obligations.StepsKeepTheListsWithinTheirSizes : Prop :=
  ∀ s t : State, s.withinSizes → step s = .next t → t.withinSizes

/-- Every step keeps the budget law: the granted sum never exceeds the budget, the waiting list holds exactly the slots
whose local entries are WAITING, each once, a local entry in CONFLICT or RETURNING holds no grant, PWR is high exactly where
a local entry is GRANTED, and an entry is local exactly where it has no reported state. -/
def Obligations.StepsKeepTheBudgetLaw : Prop :=
  ∀ s t : State, s.budgetLaw → step s = .next t → t.budgetLaw
end

