-- ==== Sys2Proof/Laws/Events.lean ====
section
/-! SUPPORT. What the event unit's operations can touch: the event unit, and the happening's notes of what has entered and
what is to be drained. Each lemma says so once, through a mask that blanks these. -/

namespace Sys2Proof.Machine

/-- A happening with the event unit blanked: what stands outside the event unit. -/
def Hap.offEv (h : Hap) : Hap := { h with ev := EventUnit.reset, entered := [], drainDue := false }

/-- A fold of operations that leave a mask alone leaves it alone. -/
theorem foldl_mask {α β γ : Type} (mask : α → γ) (f : α → β → α) (hf : ∀ a b, mask (f a b) = mask a) :
    ∀ (bs : List β) (a : α), mask (bs.foldl f a) = mask a
  | [], _ => rfl
  | b :: t, a => by rw [List.foldl_cons, foldl_mask mask f hf t, hf]

variable (h : Hap)

@[simp] theorem enter_offEv (o : Occ) (p : Fin 4) : (enter o p h).offEv = h.offEv := by
  unfold enter
  split
  · rfl
  · split
    · rfl
    · split <;> rfl

@[simp] theorem raise_offEv (o : Occ) : (raise o h).offEv = h.offEv := by
  unfold raise
  split
  · rfl
  · split
    · split <;> rfl
    · simp

@[simp] theorem raiseLatched_offEv (k : EvKind) (l : Locus) (d : Word16) : (raiseLatched k l d h).offEv = h.offEv :=
  raise_offEv h _

@[simp] theorem withdrawClear_offEv (k : EvKind) (l : Locus) : (withdrawClear k l h).offEv = h.offEv := by
  unfold withdrawClear
  split <;> rfl

@[simp] theorem markEnded_offEv (k : EvKind) (l : Locus) : (markEnded k l h).offEv = h.offEv := by
  unfold markEnded
  split
  · rfl
  · split <;> rfl

@[simp] theorem beginCond_offEv (k : EvKind) (l : Locus) : (beginCond k l h).offEv = h.offEv := by
  unfold beginCond
  split
  · rfl
  · simp only
    split
    · rfl
    · rw [raise_offEv, withdrawClear_offEv]; rfl

@[simp] theorem endCond_offEv (k : EvKind) (l : Locus) : (endCond k l h).offEv = h.offEv := by
  unfold endCond
  split
  · simp only
    split
    · rfl
    · rw [markEnded_offEv]; rfl
  · rfl

@[simp] theorem setCond_offEv (k : EvKind) (l : Locus) (b : Bool) : (setCond k l b h).offEv = h.offEv := by
  unfold setCond
  split <;> simp

@[simp] theorem endRemote_offEv (k : EvKind) (l : Locus) : (endRemote k l h).offEv = h.offEv := by
  unfold endRemote
  split
  · simp only
    split
    · rfl
    · rw [markEnded_offEv]; rfl
  · rfl

@[simp] theorem endRemotesOf_offEv (p : DPort) : (endRemotesOf p h).offEv = h.offEv := by
  unfold endRemotesOf
  rw [foldl_mask Hap.offEv]
  intro h c
  simp

@[simp] theorem storeRemote_offEv (c : RemoteCond) : (storeRemote c h).offEv = h.offEv := by
  unfold storeRemote
  split
  · rfl
  · simp only
    split
    · rfl
    · rw [withdrawClear_offEv]; rfl

@[simp] theorem requeue_offEv (k : EvKind) (l : Locus) : (requeue k l h).offEv = h.offEv := raise_offEv h _

@[simp] theorem fetchEffect_offEv : (fetchEffect h).offEv = h.offEv := rfl

@[simp] theorem ackEffect_offEv (seqs : List Word16) : (ackEffect seqs h).offEv = h.offEv := by
  unfold ackEffect
  rw [foldl_mask Hap.offEv]
  · rfl
  · intro h r
    split <;> simp

@[simp] theorem setupEffect_offEv (k : EvKind) (v : Option (Fin 4)) : (setupEffect k v h).offEv = h.offEv := by
  unfold setupEffect
  split
  · rfl
  · simp only
    split
    · rw [foldl_mask Hap.offEv]
      · rfl
      · intro h c
        split <;> simp
    · rfl

@[simp] theorem queueHolding_offEv : (queueHolding h).offEv = h.offEv := by
  unfold queueHolding
  rw [foldl_mask Hap.offEv]
  intro h k
  rw [foldl_mask Hap.offEv]
  intro h c
  simp

@[simp] theorem queueOddHolding_offEv : (queueOddHolding h).offEv = h.offEv := by
  unfold queueOddHolding
  rw [foldl_mask Hap.offEv]
  intro h k
  rw [foldl_mask Hap.offEv]
  intro h c
  simp

/-- What an operation that leaves the mask alone leaves alone, field by field. -/
theorem offEv_fields {h h' : Hap} (e : h'.offEv = h.offEv) :
    h'.role = h.role ∧ h'.rate = h.rate ∧ h'.filters = h.filters ∧ h'.slots = h.slots ∧ h'.rack = h.rack ∧
      h'.targets = h.targets ∧ h'.desc = h.desc ∧ h'.roster = h.roster ∧ h'.budget = h.budget ∧ h'.ops = h.ops ∧
      h'.host = h.host ∧ h'.u = h.u ∧ h'.d1 = h.d1 ∧ h'.d2 = h.d2 ∧ h'.rescan = h.rescan ∧ h'.pending = h.pending := by
  refine ⟨?_, ?_, ?_, ?_, ?_, ?_, ?_, ?_, ?_, ?_, ?_, ?_, ?_, ?_, ?_, ?_⟩
  · have := congrArg (fun x : Hap => x.role) e; exact this
  · have := congrArg (fun x : Hap => x.rate) e; exact this
  · have := congrArg (fun x : Hap => x.filters) e; exact this
  · have := congrArg (fun x : Hap => x.slots) e; exact this
  · have := congrArg (fun x : Hap => x.rack) e; exact this
  · have := congrArg (fun x : Hap => x.targets) e; exact this
  · have := congrArg (fun x : Hap => x.desc) e; exact this
  · have := congrArg (fun x : Hap => x.roster) e; exact this
  · have := congrArg (fun x : Hap => x.budget) e; exact this
  · have := congrArg (fun x : Hap => x.ops) e; exact this
  · have := congrArg (fun x : Hap => x.host) e; exact this
  · have := congrArg (fun x : Hap => x.u) e; exact this
  · have := congrArg (fun x : Hap => x.d1) e; exact this
  · have := congrArg (fun x : Hap => x.d2) e; exact this
  · have := congrArg (fun x : Hap => x.rescan) e; exact this
  · have := congrArg (fun x : Hap => x.pending) e; exact this

end Sys2Proof.Machine
end

