-- ==== Sys2Proof/Laws/State.lean ====
section
/-! SUPPORT. One lemma per field and update: what reading a field gives after a named write. -/

namespace Sys2Proof.Machine

variable {h : Hap} {s : State} {i j : SlotId} {p q : DPort}

/-! ### Slots -/

@[simp] theorem setSlot_slot_self (x : Slot) : (h.setSlot i x).slot i = x := by simp [State.slot, Hap.setSlot]

theorem setSlot_slot_ne (x : Slot) (e : i ≠ j) : (h.setSlot i x).slot j = h.slot j := by
  have e' : i.val ≠ j.val := fun c => e (Fin.ext c)
  simp [State.slot, Hap.setSlot, e']

@[simp] theorem setSlot_filters (x : Slot) : (h.setSlot i x).filters = h.filters := rfl
@[simp] theorem setSlot_targets (x : Slot) : (h.setSlot i x).targets = h.targets := rfl
@[simp] theorem setSlot_desc (x : Slot) : (h.setSlot i x).desc = h.desc := rfl
@[simp] theorem setSlot_roster (x : Slot) : (h.setSlot i x).roster = h.roster := rfl
@[simp] theorem setSlot_budget (x : Slot) : (h.setSlot i x).budget = h.budget := rfl
@[simp] theorem setSlot_ops (x : Slot) : (h.setSlot i x).ops = h.ops := rfl
@[simp] theorem setSlot_host (x : Slot) : (h.setSlot i x).host = h.host := rfl
@[simp] theorem setSlot_ev (x : Slot) : (h.setSlot i x).ev = h.ev := rfl
@[simp] theorem setSlot_u (x : Slot) : (h.setSlot i x).u = h.u := rfl
@[simp] theorem setSlot_rack (x : Slot) : (h.setSlot i x).rack = h.rack := rfl

/-! ### Filters -/

@[simp] theorem setFilter_filter_self (x : Filter) : (h.setFilter i x).filter i = x := by
  simp [State.filter, Hap.setFilter]

@[simp] theorem setFilter_slots (x : Filter) : (h.setFilter i x).slots = h.slots := rfl
@[simp] theorem setFilter_slot (x : Filter) : (h.setFilter i x).slot j = h.slot j := rfl
@[simp] theorem setFilter_desc (x : Filter) : (h.setFilter i x).desc = h.desc := rfl
@[simp] theorem setFilter_ev (x : Filter) : (h.setFilter i x).ev = h.ev := rfl
@[simp] theorem setFilter_roster (x : Filter) : (h.setFilter i x).roster = h.roster := rfl

/-! ### Targets -/

@[simp] theorem setTarget_target_self (x : Target) : (h.setTarget i x).target i = x := by
  simp [State.target, Hap.setTarget]

@[simp] theorem setTarget_slots (x : Target) : (h.setTarget i x).slots = h.slots := rfl
@[simp] theorem setTarget_slot (x : Target) : (h.setTarget i x).slot j = h.slot j := rfl
@[simp] theorem setTarget_desc (x : Target) : (h.setTarget i x).desc = h.desc := rfl
@[simp] theorem setTarget_ev (x : Target) : (h.setTarget i x).ev = h.ev := rfl
@[simp] theorem setTarget_roster (x : Target) : (h.setTarget i x).roster = h.roster := rfl

/-! ### D ports -/

@[simp] theorem setD_dl_self (x : DLink) : (h.setD p x).dl p = x := by cases p <;> rfl

theorem setD_dl_ne (x : DLink) (e : p ≠ q) : (h.setD p x).dl q = h.dl q := by
  cases p <;> cases q <;> first | rfl | exact absurd rfl e

@[simp] theorem setD_slots (x : DLink) : (h.setD p x).slots = h.slots := by cases p <;> rfl
@[simp] theorem setD_desc (x : DLink) : (h.setD p x).desc = h.desc := by cases p <;> rfl
@[simp] theorem setD_roster (x : DLink) : (h.setD p x).roster = h.roster := by cases p <;> rfl
@[simp] theorem setD_budget (x : DLink) : (h.setD p x).budget = h.budget := by cases p <;> rfl
@[simp] theorem setD_ops (x : DLink) : (h.setD p x).ops = h.ops := by cases p <;> rfl
@[simp] theorem setD_ev (x : DLink) : (h.setD p x).ev = h.ev := by cases p <;> rfl
@[simp] theorem setD_u (x : DLink) : (h.setD p x).u = h.u := by cases p <;> rfl
@[simp] theorem setD_host (x : DLink) : (h.setD p x).host = h.host := by cases p <;> rfl
@[simp] theorem setD_role (x : DLink) : (h.setD p x).role = h.role := by cases p <;> rfl
@[simp] theorem setD_rescan (x : DLink) : (h.setD p x).rescan = h.rescan := by cases p <;> rfl
@[simp] theorem setD_pending (x : DLink) : (h.setD p x).pending = h.pending := by cases p <;> rfl

/-! ### PWR lines -/

@[simp] theorem setPwr_self (x : Bool) : (h.setPwr i x).pwrLine i = x := by simp [State.pwrLine, Hap.setPwr]
@[simp] theorem setPwr_slots (x : Bool) : (h.setPwr i x).slots = h.slots := rfl
@[simp] theorem setPwr_roster (x : Bool) : (h.setPwr i x).roster = h.roster := rfl
@[simp] theorem setPwr_ev (x : Bool) : (h.setPwr i x).ev = h.ev := rfl

end Sys2Proof.Machine
end

