-- ==== Sys2Proof/Laws/Closing.lean ====
section
/-! SUPPORT. The end of a happening: it does nothing where nothing is due, and what it can touch otherwise. -/

namespace Sys2Proof.Machine

/-- A happening that leaves nothing for its end. -/
structure Hap.Quiet (h : Hap) : Prop where
  settle : h.settleDue = false
  flags : h.flagsDue = false
  dirty : h.dirty = false
  delta : h.deltaDue = false
  drain : h.drainDue = false
  entered : h.entered = []
  reset : h.resetDue = none

theorem start_quiet (s : State) : (Hap.start s).Quiet := ⟨rfl, rfl, rfl, rfl, rfl, rfl, rfl⟩

theorem closing_quiet {h : Hap} (q : h.Quiet) : closing h = h := by
  have e1 : settleIfDue h = h := by simp [settleIfDue, q.settle]
  have e2 : overflowRecovery h = h := by simp [overflowRecovery, q.dirty]
  have e3 : recomputeFlags h = h := by simp [recomputeFlags, q.flags]
  have e4 : advanceGeneration h = h := by simp [advanceGeneration, q.dirty]
  have e5 : handUpward h = h := by simp [handUpward, q.dirty]
  have e6 : sendDeltasIfDue h = h := by simp [sendDeltasIfDue, q.delta]
  have e7 : drainIfDue h = h := by simp [drainIfDue, q.drain]
  have e8 : attend h = h := by simp [attend, q.entered, topPriority]
  simp only [closing, e1, e2, e3, e4, e5, e6, e7, e8]

/-- Where nothing is due, the state a happening leaves is the state its own step left. -/
theorem finish_quiet {h : Hap} (q : h.Quiet) : finish h = h.toState := by
  simp [finish, q.reset, closing_quiet q]

/-- A happening that leaves nothing for its end answers with the state its own step left. -/
theorem happen_quiet {f : Hap → Hap} {s : State} (q : (f (Hap.start s)).Quiet) :
    happen f s = .next (f (Hap.start s)).toState := by
  rw [happen, finish_quiet q]

/-! ### What the end of a happening can touch -/

/-- A happening with the roster, the budget unit, the event unit, the host link, the ports and the scratch blanked: what
the end of a happening cannot touch. -/
def Hap.offEnd (h : Hap) : Hap :=
  { Hap.start { h.toState with roster := .reset, budget := .reset, ev := .reset, host := .reset, u := .reset, d1 := .reset,
                               d2 := .reset } with resetDue := h.resetDue }

theorem offEnd_of_offEv {h h' : Hap} (e : h'.offEv = h.offEv) : h'.offEnd = h.offEnd := by
  have := congrArg Hap.offEnd e
  exact this

variable (h : Hap)

@[simp] theorem setD_offEnd (p : DPort) (x : DLink) : (h.setD p x).offEnd = h.offEnd := by cases p <;> rfl
@[simp] theorem setCond_offEnd (k : EvKind) (l : Locus) (b : Bool) : (setCond k l b h).offEnd = h.offEnd :=
  offEnd_of_offEv (setCond_offEv h k l b)

@[simp] theorem grantLoop_offEnd : ∀ (n : Nat) (h : Hap), (grantLoop n h).offEnd = h.offEnd
  | 0, _ => rfl
  | n + 1, h => by
    unfold grantLoop
    split
    · split
      · rw [grantLoop_offEnd n]; rfl
      · rfl
    · rfl

@[simp] theorem settle_offEnd : (settle h).offEnd = h.offEnd := by
  have : (settle h).offEnd =
      (setCond .grantBlocked rackLocus (grantLoop h.budget.waiting.length h).blocked
        (grantLoop h.budget.waiting.length h)).offEnd := rfl
  rw [this, setCond_offEnd, grantLoop_offEnd]

@[simp] theorem settleIfDue_offEnd : (settleIfDue h).offEnd = h.offEnd := by
  unfold settleIfDue
  split <;> simp

@[simp] theorem askDump_offEnd (p : DPort) : (askDump p h).offEnd = h.offEnd := by
  unfold askDump
  simp only
  split
  · exact setD_offEnd h p _
  · rfl

@[simp] theorem reckonOverflow_offEnd : (reckonOverflow h).offEnd = h.offEnd := by
  unfold reckonOverflow
  rw [setCond_offEnd]; rfl

@[simp] theorem clearRefused_offEnd (p : DPort) : (clearRefused p h).offEnd = h.offEnd := by
  unfold clearRefused
  split
  · rw [reckonOverflow_offEnd]; rfl
  · rfl

@[simp] theorem overflowRecovery_offEnd : (overflowRecovery h).offEnd = h.offEnd := by
  unfold overflowRecovery
  simp only
  split
  · split <;> split <;> simp
  · rfl

@[simp] theorem recomputeFlags_offEnd : (recomputeFlags h).offEnd = h.offEnd := by
  unfold recomputeFlags
  split <;> rfl

@[simp] theorem advanceGeneration_offEnd : (advanceGeneration h).offEnd = h.offEnd := by
  unfold advanceGeneration
  split <;> rfl

@[simp] theorem openDump_offEnd (c : DumpCause) : (openDump c h).offEnd = h.offEnd := by
  have : (openDump c h).offEnd = (recomputeFlags h).offEnd := rfl
  rw [this, recomputeFlags_offEnd]

@[simp] theorem sendSyncEnd_offEnd : (sendSyncEnd h).offEnd = h.offEnd := rfl

@[simp] theorem beginDump_offEnd (c : DumpCause) : (beginDump c h).offEnd = h.offEnd := by
  unfold beginDump
  split <;> simp

@[simp] theorem handUpward_offEnd : (handUpward h).offEnd = h.offEnd := by
  unfold handUpward
  split
  · simp only
    split
    · rfl
    · split
      · simp
      · rfl
  · rfl

@[simp] theorem sendDeltas_offEnd : ∀ (n : Nat) (h : Hap), (sendDeltas n h).offEnd = h.offEnd
  | 0, _ => rfl
  | n + 1, h => by
    unfold sendDeltas
    split
    · rfl
    · split
      · simp only
        rw [sendDeltas_offEnd n]; rfl
      · rfl

@[simp] theorem sendDeltasIfDue_offEnd : (sendDeltasIfDue h).offEnd = h.offEnd := by
  unfold sendDeltasIfDue
  split <;> simp

@[simp] theorem drainIfDue_offEnd : (drainIfDue h).offEnd = h.offEnd := by
  unfold drainIfDue
  split
  · split <;> rfl
  · rfl

@[simp] theorem attend_offEnd : (attend h).offEnd = h.offEnd := by
  unfold attend
  split
  · split <;> rfl
  · rfl

/-- The end of a happening touches the roster, the budget unit, the event unit, the host link and the ports, and nothing
else. -/
theorem closing_offEnd : (closing h).offEnd = h.offEnd := by simp [closing]

/-- What a step without a soft reset leaves as the command's own step left it. -/
theorem finish_offEnd {h : Hap} (e : h.resetDue = none) :
    (finish h).role = h.role ∧ (finish h).rate = h.rate ∧ (finish h).filters = h.filters ∧ (finish h).slots = h.slots ∧
      (finish h).rack = h.rack ∧ (finish h).targets = h.targets ∧ (finish h).desc = h.desc ∧ (finish h).ops = h.ops ∧
      (finish h).rescan = h.rescan ∧ (finish h).pending = h.pending := by
  have m := closing_offEnd h
  have f : finish h = (closing h).toState := by simp [finish, e]
  rw [f]
  refine ⟨?_, ?_, ?_, ?_, ?_, ?_, ?_, ?_, ?_, ?_⟩
  · have := congrArg (fun x : Hap => x.role) m; exact this
  · have := congrArg (fun x : Hap => x.rate) m; exact this
  · have := congrArg (fun x : Hap => x.filters) m; exact this
  · have := congrArg (fun x : Hap => x.slots) m; exact this
  · have := congrArg (fun x : Hap => x.rack) m; exact this
  · have := congrArg (fun x : Hap => x.targets) m; exact this
  · have := congrArg (fun x : Hap => x.desc) m; exact this
  · have := congrArg (fun x : Hap => x.ops) m; exact this
  · have := congrArg (fun x : Hap => x.rescan) m; exact this
  · have := congrArg (fun x : Hap => x.pending) m; exact this

end Sys2Proof.Machine
end

