-- ==== Sys2Proof/Laws/HostRows.lean ====
section
/-! SUPPORT. A request's row at a root whose host link is free: it is taken at once, judged, and answered. -/

namespace Sys2Proof.Machine

/-- A ready host link takes the frame in the happening that completes it. -/
theorem hostFrameIn_ready {s : State} {f : HostFrame} (r : s.ready f = true) :
    hostFrameIn f (Hap.start s) =
      answerHost f (judge (.host f.tag) f.kind f.payload (Hap.start s)).2
        (judge (.host f.tag) f.kind f.payload (Hap.start s)).1 := by
  simp only [State.ready, Bool.and_eq_true, decide_eq_true_eq, Bool.not_eq_true', List.isEmpty_iff] at r
  obtain ⟨⟨⟨⟨⟨hrole, htag⟩, hbuf⟩, hwait⟩, hreset⟩, hmem⟩ := r
  have h1 : (Hap.start s).host.buffer = [] := hbuf
  have hh : ({ s.host with buffer := ([] : List HostFrame) } : HostLink) = s.host := by
    cases h : s.host; rw [h] at hbuf; simp_all
  unfold hostFrameIn
  simp only [h1, List.length_nil, bufferSize, Nat.zero_lt_succ, if_true, List.nil_append, takeBuffered,
    List.length_singleton, takeRequests]
  have h2 : HostLink.replyWaits { (Hap.start s).host with buffer := [f] } = false := hwait
  have h3 : State.resetPending { (Hap.start s).toState with host := { (Hap.start s).host with buffer := [f] } } = false := hreset
  simp only [h2, h3, Bool.or_self, Bool.false_eq_true, if_false]
  have h4 : ({ Hap.start s with host := { (Hap.start s).host with buffer := [] } } : Hap) = Hap.start s := by
    have : (Hap.start s).host = s.host := rfl
    rw [this, hh]; rfl
  rw [h4]
  have h5 : judgeHost f (Hap.start s) = judge (.host f.tag) f.kind f.payload (Hap.start s) := by
    have : (Hap.start s).role = .root := hrole
    simp [judgeHost, this]
  unfold handleFrame
  simp only [htag, if_false]
  have h6 : (Hap.start s).host.memory = s.host.memory := rfl
  rw [h6]
  split
  · simp only [executeHost, h5]
  · next m hm =>
    rw [hm] at hmem
    simp only [Bool.not_eq_true'] at hmem
    simp only [hmem, Bool.false_eq_true, if_false, executeHost, h5]

/-- A request's row at a ready root. -/
theorem hostRow_ready {s : State} {kind tag : Byte} {payload : List Byte} (r : s.ready ⟨kind, tag, payload⟩ = true) :
    hostRow kind tag payload s =
      .next (finish (answerHost ⟨kind, tag, payload⟩ (judge (.host tag) kind payload (Hap.start s)).2
        (judge (.host tag) kind payload (Hap.start s)).1)) := by
  rw [hostRow, happen, hostFrameIn_ready r]

/-- A request that is answered OK and leaves the happening as it was: the reply, and nothing else. -/
theorem hostRow_ok {s : State} {kind tag : Byte} {payload data : List Byte} (r : s.ready ⟨kind, tag, payload⟩ = true)
    (e : judge (.host tag) kind payload (Hap.start s) = (Hap.start s, .ok data)) :
    hostRow kind tag payload s = .next (s.replied ⟨kind, tag, payload⟩ .ok data) := by
  rw [hostRow_ready r, e]
  rw [finish_quiet]
  · rfl
  · exact ⟨rfl, rfl, rfl, rfl, rfl, rfl, rfl⟩

/-- A request that is refused: the reply, and nothing else. -/
theorem hostRow_refused {s : State} {kind tag : Byte} {payload : List Byte} {code : RefCode} {detail : Word16}
    (r : s.ready ⟨kind, tag, payload⟩ = true)
    (e : judge (.host tag) kind payload (Hap.start s) = (Hap.start s, .refuse code detail)) :
    hostRow kind tag payload s = .next (s.refused ⟨kind, tag, payload⟩ code detail) := by
  rw [hostRow_ready r, e]
  rw [finish_quiet]
  · simp only [answerHost, Answer.refuse, Answer.reply, Answer.mark, List.append_nil]; rfl
  · simp only [answerHost, Answer.refuse, Answer.reply, Answer.mark]
    exact ⟨rfl, rfl, rfl, rfl, rfl, rfl, rfl⟩

end Sys2Proof.Machine
end

