-- ==== Sys2Proof/Laws/Memory.lean ====
section
/-! SUPPORT. The laws of a descriptor copy: a read after a write, and that every operation keeps the canonical form. -/

namespace Sys2Proof.Machine

theorem Memory.read_cell_self (a : Nat) (v : Byte) (t : Memory) (ht : Memory.read t a = resetByte a) :
    Memory.read (Memory.cell a v t) a = v := by
  unfold Memory.cell
  split
  · next e => rw [ht, e]
  · simp [Memory.read]

theorem Memory.read_cell_ne {a b : Nat} (v : Byte) (t : Memory) (e : b ≠ a) :
    Memory.read (Memory.cell a v t) b = Memory.read t b := by
  unfold Memory.cell
  split
  · rfl
  · simp [Memory.read, e]

theorem Memory.wfFrom_mono {lo hi : Nat} (e : lo ≤ hi) : ∀ {m : Memory}, Memory.wfFrom hi m = true → Memory.wfFrom lo m = true
  | [], _ => rfl
  | (a, v) :: t, hm => by
    simp only [Memory.wfFrom, Bool.and_eq_true, decide_eq_true_eq] at hm ⊢
    exact ⟨⟨by omega, hm.1.2⟩, hm.2⟩

/-- A canonical list reads as reset leaves it below its first address. -/
theorem Memory.read_below {lo a : Nat} (e : a < lo) : ∀ {m : Memory}, Memory.wfFrom lo m = true → Memory.read m a = resetByte a
  | [], _ => rfl
  | (b, v) :: t, hm => by
    simp only [Memory.wfFrom, Bool.and_eq_true, decide_eq_true_eq] at hm
    have hb : a ≠ b := by omega
    simp only [Memory.read, hb, if_false]
    exact Memory.read_below (by omega) hm.2

theorem Memory.wfFrom_cell {lo a : Nat} {v : Byte} {t : Memory} (hlo : lo ≤ a) (ha : a < copySize)
    (ht : Memory.wfFrom (a + 1) t = true) : Memory.wfFrom lo (Memory.cell a v t) = true := by
  unfold Memory.cell
  split
  · exact Memory.wfFrom_mono (by omega) ht
  · next hv => simp [Memory.wfFrom, hlo, ha, hv, ht]

theorem Memory.wfFrom_write {a : Nat} {v : Byte} (ha : a < copySize) :
    ∀ {m : Memory} {lo : Nat}, lo ≤ a → Memory.wfFrom lo m = true → Memory.wfFrom lo (Memory.write m a v) = true
  | [], lo, hlo, _ => Memory.wfFrom_cell hlo ha rfl
  | (b, w) :: t, lo, hlo, hm => by
    simp only [Memory.wfFrom, Bool.and_eq_true, decide_eq_true_eq] at hm
    simp only [Memory.write]
    split
    · next hab =>
      exact Memory.wfFrom_cell hlo ha (by simp [Memory.wfFrom, hm.1.2.1, hm.1.2.2, hm.2]; omega)
    · next hab =>
      split
      · next e => subst e; exact Memory.wfFrom_cell hlo ha hm.2
      · next e =>
        have hw := Memory.wfFrom_write ha (v := v) (m := t) (lo := b + 1) (by omega) hm.2
        simp [Memory.wfFrom, hm.1.1, hm.1.2.1, hm.1.2.2, hw]

/-- A write inside the copy keeps the canonical form. -/
theorem Memory.wf_write {m : Memory} {a : Nat} (v : Byte) (ha : a < copySize) (hm : m.wf = true) :
    (Memory.write m a v).wf = true := Memory.wfFrom_write ha (Nat.zero_le a) hm

theorem Memory.read_write_of {a : Nat} (v : Byte) (b : Nat) :
    ∀ {m : Memory} {lo : Nat}, Memory.wfFrom lo m = true →
      Memory.read (Memory.write m a v) b = if b = a then v else Memory.read m b
  | [], lo, _ => by
    simp only [Memory.write]
    by_cases e : b = a
    · subst e; simp [Memory.read_cell_self _ _ [] rfl]
    · simp [Memory.read_cell_ne v [] e, e]
  | (c, w) :: t, lo, hm => by
    have hm' := hm
    simp only [Memory.wfFrom, Bool.and_eq_true, decide_eq_true_eq] at hm
    simp only [Memory.write]
    split
    · next hac =>
      by_cases e : b = a
      · subst e
        have hr : Memory.read ((c, w) :: t) b = resetByte b :=
          Memory.read_below (lo := b + 1) (by omega)
            (by simp [Memory.wfFrom, hm.1.2.1, hm.1.2.2, hm.2]; omega)
        simp [Memory.read_cell_self _ _ _ hr]
      · simp [Memory.read_cell_ne v _ e, e]
    · split
      · next e =>
        subst e
        by_cases e : b = a
        · subst e
          simp [Memory.read_cell_self _ _ _ (Memory.read_below (Nat.lt_succ_self b) hm.2)]
        · simp [Memory.read_cell_ne v _ e, e, Memory.read]
      · next hab hne =>
        by_cases e : b = c
        · subst e
          have : b ≠ a := fun x => hne x.symm
          simp [Memory.read, this]
        · simp only [Memory.read, e, if_false]
          exact Memory.read_write_of v b hm.2

/-- A read after a write: the value written there, and elsewhere what stood there. -/
theorem Memory.read_write {m : Memory} (hm : m.wf = true) (a : Nat) (v : Byte) (b : Nat) :
    Memory.read (Memory.write m a v) b = if b = a then v else Memory.read m b := Memory.read_write_of v b hm

/-- Writing bytes inside the copy keeps the canonical form. -/
theorem Memory.wf_writeAll : ∀ {bs : List Byte} {m : Memory} {a : Nat}, a + bs.length ≤ copySize → m.wf = true →
    (Memory.writeAll m a bs).wf = true
  | [], _, _, _, hm => hm
  | b :: t, m, a, ha, hm => by
    simp only [List.length_cons] at ha
    have hw := Memory.wf_write (a := a) b (by omega) hm
    exact Memory.wf_writeAll (bs := t) (by omega) hw

/-- What reading gives after writing bytes: the bytes where they were written, and elsewhere what stood there. -/
theorem Memory.read_writeAll : ∀ {bs : List Byte} {m : Memory} {a : Nat} (b : Nat), a + bs.length ≤ copySize →
    m.wf = true →
    Memory.read (Memory.writeAll m a bs) b = if a ≤ b ∧ b < a + bs.length then bs.getD (b - a) 0 else Memory.read m b
  | [], m, a, b, _, _ => by
    simp [Memory.writeAll]
  | c :: t, m, a, b, ha, hm => by
    simp only [List.length_cons] at ha
    simp only [Memory.writeAll]
    rw [Memory.read_writeAll b (by omega) (Memory.wf_write c (by omega) hm), Memory.read_write hm]
    simp only [List.length_cons]
    by_cases h1 : b = a
    · subst h1; simp
    · by_cases h2 : a + 1 ≤ b ∧ b < a + 1 + t.length
      · have h3 : a ≤ b ∧ b < a + (t.length + 1) := by omega
        obtain ⟨k, hk⟩ : ∃ k, b - a = k + 1 := ⟨b - a - 1, by omega⟩
        have : b - (a + 1) = k := by omega
        simp only [if_pos h2, if_pos h3, hk, this, List.getD_cons_succ]
      · have h3 : ¬ (a ≤ b ∧ b < a + (t.length + 1)) := by omega
        rw [if_neg h2, if_neg h3, if_neg h1]

/-- A built copy is canonical. -/
theorem Memory.wf_build (f : Nat → Byte) : (Memory.build f).wf = true := by
  have key : ∀ (n lo : Nat), lo + n ≤ copySize →
      Memory.wfFrom lo ((List.range' lo n).filterMap fun a => if f a = resetByte a then none else some (a, f a)) = true := by
    intro n
    induction n with
    | zero => intro lo _; rfl
    | succ n ih =>
      intro lo hlo
      have hi := ih (lo + 1) (by omega)
      rw [List.range'_succ, List.filterMap_cons]
      split
      · exact Memory.wfFrom_mono (by omega) hi
      · next x hx =>
        split at hx
        · cases hx
        · next hv => cases hx; simp [Memory.wfFrom, hv, hi]; omega
  have := key copySize 0 (by omega)
  simpa [Memory.build, Memory.wf, List.range_eq_range'] using this

theorem Memory.read_filterMap (f : Nat → Byte) (a : Nat) : ∀ (n lo : Nat),
    Memory.read ((List.range' lo n).filterMap fun a => if f a = resetByte a then none else some (a, f a)) a =
      if lo ≤ a ∧ a < lo + n then f a else resetByte a
  | 0, lo => by
    simp [Memory.read]
  | n + 1, lo => by
    rw [List.range'_succ, List.filterMap_cons]
    have ih := Memory.read_filterMap f a n (lo + 1)
    split
    · next hx =>
      split at hx
      · next e =>
        rw [ih]
        by_cases h1 : lo = a
        · subst h1; simp [e]
        · have : (lo + 1 ≤ a ∧ a < lo + 1 + n) ↔ (lo ≤ a ∧ a < lo + (n + 1)) := by omega
          simp only [this]
      · cases hx
    · next x hx =>
      split at hx
      · cases hx
      · next e =>
        cases hx
        simp only [Memory.read]
        by_cases h1 : a = lo
        · subst h1; simp
        · have : (lo + 1 ≤ a ∧ a < lo + 1 + n) ↔ (lo ≤ a ∧ a < lo + (n + 1)) := by omega
          simp only [h1, if_false, ih, this]

/-- What a built copy reads as. -/
theorem Memory.read_build (f : Nat → Byte) {a : Nat} (ha : a < copySize) : (Memory.build f).read a = f a := by
  have := Memory.read_filterMap f a copySize 0
  simp [ha] at this
  simpa [Memory.build, List.range_eq_range'] using this

end Sys2Proof.Machine
end

