-- ==== Sys2Proof/Tests/Slice0.lean ====
section
/-! SUPPORT. Tests: the checks of WellFormed, single steps with values from the spec, and for each statement with
hypotheses a state and operands that meet them, clause by clause. -/

namespace Sys2Proof.Tests

-- One theorem after another: a thread for each would pass the memory a check is given.
set_option Elab.async false

open Sys2Proof Sys2Proof.Machine

/-! ### WellFormed refuses -/

def longPath : Path := [.d1, .d1, .d1, .d1, .d1]

def record (path : Path) (caps : Nat) : LinkRecord :=
  { key := { path := path, slot := 0 }, serial := 1, classCode := 2, revision := 3, draw := 0, state := .online,
    grant := .none, caps := List.replicate caps 7 }

def event (locus origin : Path) (slot : Nat) : EventUp :=
  { seq := 1, kind := .slotOccupied, priority := 1, style := .latched, locus := { path := locus, slot := slot, op := 0 },
    detail := 0, count := 1, origin := origin, lost := 0 }

theorem test_wf_refuses_known_kind : (Instr.requestUnknownKind 0x10 1 [1, 0, 1, 0, 0]).wellFormed = false := by
  decide +kernel
theorem test_wf_refuses_long_request : (Instr.requestUnknownKind 0x77 1 (List.replicate 201 0)).wellFormed = false := by
  decide +kernel
theorem test_wf_refuses_long_forward : (Instr.forward 1 0 2 (List.replicate 199 0)).wellFormed = false := by decide +kernel
theorem test_wf_refuses_long_write : (Instr.descWrite 1 0 2 64 (List.replicate 198 0)).wellFormed = false := by
  decide +kernel
theorem test_wf_refuses_long_ack : (Instr.eventAck 1 100 (List.replicate 100 0)).wellFormed = false := by decide +kernel
theorem test_wf_refuses_good_writes : (Instr.badCommand 0 1 []).wellFormed = false ∧
    (Instr.badCommand 0 2 [0, 0, 1]).wellFormed = false ∧ (Instr.badCommand 0 3 []).wellFormed = false ∧
    (Instr.badCommand 0 4 []).wellFormed = false := by decide +kernel
theorem test_wf_refuses_long_paths : (Instr.probe .u 4 longPath).wellFormed = false ∧
    (Instr.syncEntry .u 1 (.present (record longPath 0))).wellFormed = false ∧
    (Instr.syncEntry .u 1 (.vacant ⟨longPath, 0⟩)).wellFormed = false ∧
    (Instr.delta .u 1 (.add (record longPath 0))).wellFormed = false ∧
    (Instr.delta .u 1 (.update (record longPath 0))).wellFormed = false ∧
    (Instr.delta .u 1 (.remove ⟨longPath, 0⟩)).wellFormed = false ∧
    (Instr.eventUp .u (event longPath [] 1)).wellFormed = false ∧
    (Instr.eventUp .u (event [] longPath 1)).wellFormed = false ∧
    (Instr.conditionClear .u .slotParked ⟨longPath, 1, 0⟩ 1).wellFormed = false := by decide +kernel
theorem test_wf_refuses_slot_eleven : (Instr.eventUp .u (event [] [] 11)).wellFormed = false ∧
    (Instr.conditionClear .u .slotParked ⟨[], 11, 0⟩ 1).wellFormed = false := by decide +kernel
/-- Events whose detail is outside the enumeration of its kind (R173). -/
def oddEvents : List EventUp :=
  [{ event [] [] 1 with kind := .moduleLeft, detail := 7 }, { event [] [] 1 with kind := .moduleLeft, detail := 0x0101 },
   { event [] [] 1 with kind := .checkinRefused, detail := 11 }, { event [] [] 1 with kind := .slotParked, detail := 4 },
   { event [] [] 1 with kind := .opDone, detail := 5 }, { event [] [] 0 with kind := .branchLost, detail := 9 },
   { event [] [] 0 with kind := .branchResync, detail := 4 }, { event [] [] 0 with kind := .hostFrameError, detail := 1 }]
/-- Events whose detail just lies within its enumeration, or is none. -/
def evenEvents : List EventUp :=
  [{ event [] [] 1 with kind := .moduleLeft, detail := 6 }, { event [] [] 1 with kind := .checkinRefused, detail := 10 },
   { event [] [] 1 with kind := .slotParked, detail := 3 }, { event [] [] 1 with kind := .opDone, detail := 4 },
   { event [] [] 0 with kind := .opDone, detail := 9000 }, { event [] [] 0 with kind := .branchLost, detail := 4 },
   { event [] [] 0 with kind := .branchResync, detail := 0 },
   { event [] [] 0 with kind := .hostFrameError, detail := 0x02FF }]
theorem test_wf_refuses_odd_details : (oddEvents.all fun e => !(Instr.eventUp .u e).wellFormed) = true ∧
    (evenEvents.all fun e => (Instr.eventUp .u e).wellFormed) = true := by decide +kernel
theorem test_wf_refuses_many_capabilities : (record [] 256).fits = false ∧
    (Instr.syncEntry .u 1 (.present (record [] 92))).wellFormed = false := by decide +kernel
theorem test_wf_refuses_long_messages :
    (Instr.forwardRequest .u 1 0 2 (List.replicate 199 0)).wellFormed = false ∧
    (Instr.forwardReply .u 1 .ok (List.replicate 200 0)).wellFormed = false ∧
    (Instr.hopTimerExpiry 0).wellFormed = false := by decide +kernel

/-! ### Encodings, with values the spec gives (10_frame_and_record_layouts.md section 10.1) -/

/-- The check value of the CRC over "123456789". -/
theorem test_crc_check_value : crc16 [0x31, 0x32, 0x33, 0x34, 0x35, 0x36, 0x37, 0x38, 0x39] = 0x29B1 := by decide +kernel

/-- The path (1, 2) is 0x24 and the empty path 0x00; bit 7, a length above 4 and a bit beyond the length are malformed. -/
theorem test_path_bytes : pathByte [.d1, .d2] = 0x24 ∧ pathByte [] = 0 ∧ pathOf 0x24 = some [.d1, .d2] ∧
    pathOf 0xA4 = none ∧ pathOf 0x50 = none ∧ pathOf 0x22 = none := by decide +kernel

/-! ### States -/

/-- The state a step left. -/
def after (o : Host.Outcome State Fault Refusal) : State :=
  match o with
  | .next s => s
  | .fault _ => State.reset
  | .refused _ => State.reset

/-- A root after reset. -/
def root : State := State.reset

/-- A branch at tier 1 whose U link is UP. -/
def branch : State :=
  { State.reset with
    role := .branch,
    u := { ULink.reset with state := .up, filter := { raw := true, state := .present, timer := none }, keepalive := some 20,
                            loss := some 60, recTier := some 1, recPath := some [.d1], tierKnown := true } }

/-- A root whose D1 is UP. -/
def parent : State :=
  State.reset.withD .d1
    { DLink.reset with state := .up, filter := { raw := true, state := .present, timer := none }, keepalive := some 20,
                       loss := some 60, everUp := true,
                       child := some { rackId := 1, rackClass := 2, revision := 3, tier := 1, reported := some .clear } }

/-- A root whose D1 is receiving a dump of one entry. -/
def receiving : State :=
  parent.withD .d1 { parent.d1 with state := .syncing, syncPhase := .receiving, announced := 1, syncTimer := some 500 }

/-- A local entry. -/
def localEntry (i : SlotId) (st : EntryState) (g : Grant) : Entry :=
  { key := localKey i, serial := 5, classCode := 6, revision := 7, draw := 1, caps := [], state := st, reported := none,
    grant := g, joinStamp := 1, stale := false }

/-- A present line. -/
def presentLine : Filter := { raw := true, state := .present, timer := none }

/-- Slot 1 in a state with its timer running, with an entry in the roster. -/
def slotIn (st : SlotState) : State :=
  let slotOne : Slot := { Slot.reset with state := st, timer := some 0, ejectOp := 1, ejectRequested := true }
  let eject : OpEntry := { op := 1, kind := .eject, origin := .host 9, hopPort := none, hopTimer := none }
  { (State.reset.withSlot 0 slotOne).withFilter 0 presentLine with
    roster := { Roster.reset with entries := [localEntry 0 .online .none], joinCounter := 1 },
    ops := { entries := [eject], counter := 2 } }

/-- A live descriptor of one page. -/
def published : Desc := { Desc.reset with bank0 := [(1, 1), (2, 1)] }

/-- A host receiver one byte short of a frame. -/
def shortOf (kind tag : Byte) (payload : List Byte) (hi : Byte) : Rx :=
  { phase := .body (byteOf payload.length) (kind :: tag :: payload ++ [hi]), gap := some 2 }

/-- A pending record of slot 1's SLOT_PARKED. -/
def parkedRecord : EvRecord :=
  { seq := 3, kind := .slotParked, priority := 2, style := .condition, locus := slotLocus 0, detail := 0, count := 1, origin := [] }

/-- Slot 1 ENABLED under MANUAL, its module present. -/
def present : State :=
  { slotIn .enabled with slots := (slotIn .enabled).slots.set 0 { (slotIn .enabled).slot 0 with policy := .manual, permit := true } }

/-- One entry of slot 1 in the roster, in a slot that takes a check-in, with a budget. -/
def holding (st : EntryState) (g : Grant) : State :=
  { slotIn .enabled with
    roster := { Roster.reset with entries := [localEntry 0 st g], joinCounter := 1 },
    budget := { Budget.reset with units := 6, pwr := (Vector.replicate 10 false).set 0 (decide (g = .granted)) } }

/-! ### One step -/

/-- 2.1: a drop of any length during SETTLING returns the filter to EMPTY. -/
theorem test_presence_drop_in_settling :
    ((after (exec (.presenceInputChange (.slot 3) false)
      (root.withFilter 3 { raw := true, state := .settling, timer := some 1 }))).filter 3) = Filter.reset := by decide +kernel

/-- R33: with no descriptor a present slot under DESCRIPTOR is HELD. -/
theorem test_settle_expiry_holds :
    ((after (exec (.settleTimerExpiry (.slot 3))
      (root.withFilter 3 { raw := true, state := .settling, timer := some 0 }))).slot 3).state = .held := by decide +kernel

/-- R35: a check-in limit of 20 is 2000 ms. -/
theorem test_enable_delay_loads_limit :
    ((after (exec (.enableDelayExpiry 0) (slotIn .delaying))).slot 0).timer = some 2000 := by decide +kernel

/-- R38: the expiry removes the entry and parks the slot. -/
theorem test_checkin_limit_parks :
    ((after (exec (.checkinLimitExpiry 0) (slotIn .enabled))).slot 0).parkReason = .checkinTimeout ∧
    (after (exec (.checkinLimitExpiry 0) (slotIn .enabled))).roster.entries = [] := by decide +kernel

/-- R43: a RELEASE in LEAVING is answered OK and frees the operation. -/
theorem test_release_ends_eject :
    ((after (exec (.release 0) (slotIn .leaving))).target 0).phase = .holding [0] 0 ∧
    (after (exec (.release 0) (slotIn .leaving))).ops.entries = [] := by decide +kernel

/-- A check-in record with a draw class and a number of capability words. -/
def checkIn (serial draw : Byte) (caps : Nat) : List Byte :=
  [0x12, 0x34, 0, 0, 0, 0, 0, serial, 1, draw, byteOf caps] ++ (List.replicate caps [(0 : Byte), 9]).flatten

def bare : State := { slotIn .enabled with roster := .reset, budget := { Budget.reset with units := 6 } }

/-- R8, R65, R96: draw class 1 costs 2 of 6 units; the response is ACCEPTED, GRANTED, generation 0. -/
theorem test_check_in_is_granted :
    ((after (exec (.checkIn 0 (checkIn 5 1 8)) bare)).target 0).phase = .holding [1, 2, 0, 0] 0 ∧
    (after (exec (.checkIn 0 (checkIn 5 1 8)) bare)).budget.pwr[0] = true := by decide +kernel

/-- R64: nine capabilities, and serial id 0, are malformed. -/
theorem test_check_in_malformed : checkInRecOf (checkIn 5 1 9) = none ∧ checkInRecOf (checkIn 0 1 0) = none ∧
    checkInRecOf (checkIn 5 4 0) = none := by decide +kernel

/-- R58: 32 bytes at offset 96 are the last that fit; one further is BAD_RANGE, one more BAD_RANGE by its length. -/
theorem test_page_read_range :
    ((after (exec (.pageRead 0 0 96 32) { slotIn .online with desc := published })).slot 0).lastRead = 1 ∧
    ((after (exec (.pageRead 0 0 97 32) { slotIn .online with desc := published })).target 0).phase =
      .holding [9, 0, 1, 1] 0 := by decide +kernel

/-- R76: bytes 0 and 1 of page 0 are protected, byte 2 is not. -/
theorem test_desc_write_protection :
    (after (exec (.descWrite 1 0 2 1 [8]) root)).desc.staging = [(2, 8)] ∧
    (after (exec (.descWrite 1 0 1 1 [8]) root)).desc.staging = [] := by decide +kernel

/-- R104: 80 is taken, 81 refused. -/
theorem test_budget_limit : (after (exec (.budgetSet 1 80) root)).budget.units = 80 ∧
    (after (exec (.budgetSet 1 81) root)).budget.units = 0 := by decide +kernel

/-- R110: tier 2 with a path of 3 is taken, tier 3 is not. -/
theorem test_probe_tier :
    (after (exec (.probe .u 2 [.d1, .d1, .d2]) { branch with u := { branch.u with state := .down } })).u.recTier = some 3 ∧
    (after (exec (.probe .u 3 [.d1, .d1, .d2, .d1]) { branch with u := { branch.u with state := .down } })).u.state = .down := by
  decide +kernel

/-- R162 case 5: SLOT EJECT with two bytes is refused BAD_LENGTH, code 2, with the length received. -/
theorem test_bad_length : ((after (exec (.requestUnknownKind 0x13 1 [4, 0]) root)).host.cur.map fun x => x.frame.payload) =
    some [2, 0, 2] := by decide +kernel

/-- R28: under MANUAL presence loss raises SLOT_VACATED and leaves the slot as it was. -/
theorem test_manual_presence_loss : (after (exec (.presenceInputChange (.slot 0) false) present)).slots = present.slots ∧
    (after (exec (.presenceInputChange (.slot 0) false) present)).ev.queue.map EvRecord.kind = [.slotVacated] := by
  decide +kernel

/-- R4, R42: an eject makes a RETURNING entry LEAVING and leaves one in CONFLICT. -/
theorem test_eject_entry : (after (exec (.slotEject 1 1) (holding .returning .none))).roster.entries =
      [localEntry 0 .leaving .none] ∧
    (after (exec (.slotEject 1 1) (holding .conflict .none))).roster.entries = [localEntry 0 .conflict .none] := by
  decide +kernel

/-- R157: RATE straps (high, low) select 460800 baud, (low, high) 230400. -/
theorem test_line_rate : (after (exec (.hardwareReset .root ⟨true, false⟩) root)).lineRate = 460800 ∧
    (after (exec (.hardwareReset .root ⟨false, true⟩) root)).lineRate = 230400 := by decide +kernel

/-- R120: the hop timeout at the root is 250 ms, and the rest of the path goes down. -/
theorem test_forward_relays : (after (exec (.forward 4 0x24 0x31 []) parent)).ops.entries =
    [{ op := 1, kind := .forward, origin := .host 4, hopPort := some .d1, hopTimer := some 250 }] ∧
    (after (exec (.forward 4 0x24 0x31 []) parent)).d1.tx.cur =
      some { msg := .forwardRequest 1 0x18 0x31 [], resets := none } := by decide +kernel

/-- R129: a branch with an empty roster sends SYNC BEGIN and SYNC END at once. -/
theorem test_empty_dump : (after (exec (.resync .u) branch)).u.tx.frames.map TxFrame.msg =
    [.syncBegin 0 .requested, .syncEnd 0 .clear] := by decide +kernel

/-- R154: the port goes in front of the locus and of the origin. -/
theorem test_event_up_odd_detail_discarded : (oddEvents.all fun e =>
    decide (after (exec (.eventUp (.d .d1) e) parent) = parent)) = true := by decide +kernel
theorem test_event_up_prefixes : ((after (exec (.eventUp (.d .d1) (event [.d2] [.d2] 1)) parent)).ev.queue.map
    fun r => (r.locus.path, r.origin)) = [([.d1, .d2], [.d1, .d2])] := by decide +kernel

/-! ### Witnesses: the hypotheses of the statements are met -/

def replying : State :=
  let marked : Option SendItem := some ⟨.reply, ⟨0, 1, []⟩, some true⟩
  { root with host := { root.host with cur := marked } }
def answering : State :=
  let marked : TxFrame := { msg := .forwardReply 1 .ok [], resets := some false }
  { branch with u := { branch.u with tx := { cur := some marked, waiting := [] } } }

theorem test_witness_reset_marks : (∃ x, replying.host.cur = some x ∧ x.resets = some true) ∧
    ∃ x, answering.u.tx.cur = some x ∧ x.resets = some false :=
  ⟨⟨_, rfl, rfl⟩, ⟨_, rfl, rfl⟩⟩

theorem test_witness_raw_line : (root.filter 9).state ≠ .present ∧ root.u.filter.state ≠ .present ∧
    (root.dl .d2).filter.state ≠ .present := by decide +kernel

def settling : State := root.withFilter 0 { raw := true, state := .settling, timer := some 0 }

theorem test_witness_presence_arriving : (settling.filter 0).state = .settling ∧ (settling.filter 0).timer = some 0 ∧
    settling.ev.takesNew 1 .slotOccupied (slotLocus 0) ∧ (settling.slot 0).state = .idle :=
  ⟨by decide +kernel, by decide +kernel, ⟨by decide +kernel, by decide +kernel, by decide +kernel⟩, by decide +kernel⟩

theorem test_witness_presence_loss : ((slotIn .leaving).filter 0).state = .present ∧
    ((slotIn .leaving).slot 0).policy ≠ .manual ∧ ((slotIn .leaving).slot 0).state = .leaving := by decide +kernel

theorem test_witness_vacated_under_manual : (present.filter 0).state = .present ∧ (present.slot 0).policy = .manual ∧
    present.ev.queue.length + 8 ≤ 32 ∧ present.ev.takesNew 1 .slotVacated (slotLocus 0) :=
  ⟨by decide +kernel, by decide +kernel, by decide +kernel, by decide +kernel, by decide +kernel, by decide +kernel⟩

/-- A full roster that has turned D1's records away, with the local entry of slot 1, ENABLED; D1 is UP. -/
def overflowing : State :=
  { slotIn .enabled with
    roster := { Roster.reset with entries := localEntry 0 .online .none :: List.replicate 95 (localEntry 9 .conflict .none),
                                  marker1 := true },
    d1 := parent.d1 }

theorem test_witness_presence_loss_elsewhere : ((slotIn .held).slot 0).state = .held ∧
    ((slotIn .parked).slot 0).state = .parked ∧ ((slotIn .announcing).slot 0).state = .announcing ∧
    ((slotIn .held).filter 0).state = .present ∧ (overflowing.filter 0).state = .present ∧
    (overflowing.slot 0).policy ≠ .manual ∧ (overflowing.slot 0).state = .enabled ∧ overflowing.localEntry 0 ≠ none ∧
    overflowing.roster.entries.length ≤ 96 ∧ overflowing.roster.marker1 = true ∧ (overflowing.dl .d1).state.active = true ∧
    overflowing.roster.marker .d2 = false := by decide +kernel

theorem test_witness_eject_ends : ((slotIn .leaving).slot 0).state = .leaving ∧ ((slotIn .leaving).slot 0).timer ≠ none ∧
    ((slotIn .leaving).target 0).pin = none ∧ (slotIn .leaving).ev.queue.length + 5 ≤ 32 ∧
    (slotIn .leaving).ev.takesNew 1 .opDone (opLocus (some 0) ((slotIn .leaving).slot 0).ejectOp) :=
  ⟨by decide +kernel, by decide +kernel, by decide +kernel, by decide +kernel,
    ⟨by decide +kernel, by decide +kernel, by decide +kernel⟩⟩

theorem test_witness_pulse_end : ((slotIn .announcing).slot 0).state = .announcing ∧
    ((slotIn .announcing).slot 0).timer = some 0 ∧ (slotIn .announcing).idleCond 0 = false ∧
    (slotIn .announcing).gateOpen 0 = false ∧ ({ slotIn .announcing with desc := published } : State).gateOpen 0 = true := by
  decide +kernel

def copying : Commit :=
  { phase := .copying, op := 1, reannounce := false, target := .bank1, timer := some 0, newGen := 1, selected := [] }

theorem test_witness_switch : ({ Desc.reset with commit := some copying } : Desc).commit = some copying ∧
    copying.phase = .copying ∧ copying.timer = some 0 ∧ copying.reannounce = false := by decide +kernel

/-- A rack about to re-announce generation 2: slot 1 ONLINE with an entry, having read generation 1. -/
def announcing (st : SlotState) (policy : Policy) (lastRead : Word16) : State :=
  let slotOne : Slot := { Slot.reset with state := st, policy := policy, lastRead := lastRead }
  { slotIn .online with
    slots := (Vector.replicate 10 Slot.reset).set 0 slotOne,
    desc := { published with staging := [(2, 1)], commit := some { copying with reannounce := true, newGen := 2 } } }

theorem test_witness_switch_moves_slots : headerPages (announcing .online .auto 1).desc.staging = 1 ∧
    ((announcing .online .auto 1).slot 0).lastRead = 1 ∧ ((announcing .online .auto 1).slot 0).policy = .auto ∧
    ((announcing .enabled .descriptor 1).filter 0).state = .present ∧
    ((announcing .enabled .descriptor 1).slot 0).policy = .descriptor ∧
    ((announcing .leaving .auto 1).slot 0).state = .leaving ∧ ((announcing .online .auto 0).slot 0).lastRead = 0 ∧
    ((announcing .online .auto 2).slot 0).lastRead = 2 ∧
    (announcing .online .auto 1).localEntry 0 = some (localEntry 0 .online .none) ∧
    ({ announcing .online .auto 1 with role := .branch, u := branch.u } : State).u.state.active = true := by decide +kernel

/-- The budget law holds of a roster with one local entry without a grant. -/
theorem test_witness_switch_budget_law : (announcing .online .auto 1).budgetLaw :=
  ⟨by decide +kernel, by decide +kernel, by decide +kernel, by decide +kernel, fun _ h => (List.not_mem_nil h).elim,
    by decide +kernel, by decide +kernel, by decide +kernel⟩

theorem test_witness_desc_requests : root.ready ⟨0x20, 1, [7, 62, 64] ++ List.replicate 64 0⟩ = true ∧
    root.ready ⟨0x22, 1, [1]⟩ = true ∧ root.ready ⟨0x21, 1, [0, 7, 0, 128]⟩ = true := by decide +kernel

def badCrc : State := { root with host := { root.host with rx := shortOf 1 7 [] 0 } }
def goodCrc : State :=
  { root with host := { root.host with rx := shortOf 1 7 [] ((crc16 [0, 1, 7]).extractLsb' 8 8) } }

theorem test_witness_host_crc : badCrc.host.rx.phase = .body (byteOf 0) [1, 7, 0] ∧ (0 : Byte) ++ (0 : Byte) ≠ crc16 [0, 1, 7] ∧
    badCrc.ev.takesNew 0 .hostFrameError rackLocus ∧
    (crc16 [0, 1, 7]).extractLsb' 8 8 ++ (crc16 [0, 1, 7]).extractLsb' 0 8 = crc16 [byteOf 0, 1, 7] ∧
    goodCrc.host.rx.phase = .body (byteOf 0) [1, 7, (crc16 [0, 1, 7]).extractLsb' 8 8] :=
  ⟨by decide +kernel, by decide +kernel, ⟨by decide +kernel, by decide +kernel, by decide +kernel⟩, by decide +kernel,
    by decide +kernel⟩

/-- A bad frame's last byte before a queue of 32 records of priority 2, with HOST_FRAME_ERROR at a setting. -/
def fullQueue (setting : Option (Fin 4)) : State :=
  { badCrc with ev := { badCrc.ev with queue := List.replicate 32 parkedRecord,
                                       kinds := badCrc.ev.kinds.set (kindIndex .hostFrameError) setting } }

theorem test_witness_frame_error_full_queue : (fullQueue none).ev.setting .hostFrameError = none ∧
    (fullQueue (some 2)).ev.setting .hostFrameError = some 2 ∧ (fullQueue (some 3)).ev.setting .hostFrameError = some 3 ∧
    (fullQueue (some 3)).ev.isPending .hostFrameError rackLocus = false ∧ 32 ≤ (fullQueue (some 3)).ev.queue.length ∧
    (fullQueue (some 3)).role = .root ∧
    ((fullQueue (some 3)).ev.queue.filter fun r => decide (some r.seq ≠ (fullQueue (some 3)).ev.flightSeq)) =
      List.replicate 31 parkedRecord ++ parkedRecord :: [] ∧
    (∀ r ∈ List.replicate 31 parkedRecord, parkedRecord.priority ≤ r.priority) ∧ parkedRecord.priority < 3 := by
  decide +kernel

/-- A frame error waits to be fetched, or a condition of priority 2 that has been announced. -/
def oneWaits (r : EvRecord) : State := { badCrc with ev := { badCrc.ev with queue := [r], announced := some 2 } }

theorem test_witness_frame_error_announced :
    (oneWaits { parkedRecord with kind := .hostFrameError, locus := rackLocus }).ev.isPending .hostFrameError rackLocus = true ∧
    badCrc.ev.queue = [] ∧ badCrc.role = .root ∧ (oneWaits parkedRecord).ev.takesNew 0 .hostFrameError rackLocus ∧
    (∀ r ∈ (oneWaits parkedRecord).ev.queue, r.priority ≤ 2) ∧ (∃ r ∈ (oneWaits parkedRecord).ev.queue, r.priority = 2) :=
  ⟨by decide +kernel, by decide +kernel, by decide +kernel, ⟨by decide +kernel, by decide +kernel, by decide +kernel⟩,
    by decide +kernel, by decide +kernel⟩

theorem test_witness_refused_requests : isRequest 0x77 = false ∧ root.ready ⟨0x77, 1, List.replicate 200 0⟩ = true ∧
    root.ready ⟨0x51, 1, 5 :: [].flatMap be16⟩ = true ∧ root.host.buffer = [] ∧ root.host.replyWaits = false ∧
    root.resetPending = false ∧ branch.role = .branch ∧ branch.host.memory = none ∧ branch.host.replyWaits = false ∧
    branch.resetPending = false ∧ isRequest 0x13 = true ∧ lengthAllowed 0x13 [4, 0] = false ∧
    root.ready ⟨0x13, 1, [4, 0]⟩ = true ∧ branch.u.state.active = true ∧ hostFrameOf (.slotEject 0 4) = some ⟨0x13, 0, [4]⟩ ∧
    hostFrameOf (.slotEject 1 4) = some ⟨0x13, 1, [4]⟩ ∧
    RepeatRec.describes { tag := 1, kind := 1, crc := crc16 [0, 1, 1], reply := .pending 1 } ⟨0x13, 1, [4]⟩ = false := by
  decide +kernel

def remembered : State :=
  { root with host := { root.host with
      memory := some { tag := 1, kind := 0x13, crc := crc16 [1, 0x13, 1, 4], reply := .frame ⟨0x81, 1, [2]⟩ } } }
def fullBuffer : State := { root with host := { root.host with buffer := List.replicate 4 ⟨1, 2, []⟩ } }

theorem test_witness_repeats_and_overruns : remembered.host.memory =
      some { tag := 1, kind := 0x13, crc := crc16 [1, 0x13, 1, 4], reply := .frame ⟨0x81, 1, [2]⟩ } ∧
    remembered.host.replyWaits = false ∧ remembered.resetPending = false ∧ fullBuffer.host.buffer.length = 4 ∧
    fullBuffer.host.waitingOf .overrun < 4 := by decide +kernel

/-- Four buffered requests, and four OVERRUN answers that wait. -/
def overrun : State :=
  { fullBuffer with host := { fullBuffer.host with sendList := List.replicate 4 ⟨.overrun, ⟨0x82, 1, [1, 0, 0]⟩, none⟩ } }

theorem test_witness_pending_repeats_and_drops : hostFrameOf (.forward 1 0x10 0x31 []) = some ⟨3, 1, [0x10, 0x31]⟩ ∧
    (RepeatRec.mk 1 3 (crc16 [2, 3, 1, 0x10, 0x31]) (.pending 7)).reply = .pending 7 ∧ overrun.host.buffer.length = 4 ∧
    4 ≤ overrun.host.waitingOf .overrun ∧ overrun.ev.takesNew 0 .hostFrameError rackLocus :=
  ⟨by decide +kernel, by decide +kernel, by decide +kernel, by decide +kernel,
    ⟨by decide +kernel, by decide +kernel, by decide +kernel⟩⟩

theorem test_witness_part_reset_and_forward : root.ready ⟨2, 1, [1]⟩ = true ∧ root.ready ⟨3, 1, [0x90, 0x31]⟩ = true ∧
    pathOf 0x90 = none ∧ parent.ready ⟨3, 1, [0x30, 0x31]⟩ = true ∧ pathOf 0x30 = some [.d1, .d1, .d1] ∧
    ([.d1, .d1] : Path).length ≤ 2 := by decide +kernel

theorem test_witness_reading : root.ready ⟨0x30, 1, 0 :: 5 :: be32 1⟩ = true ∧ (1 : Word32) ≠ root.roster.generation ∧
    root.ready ⟨0x30, 1, 0 :: 5 :: be32 root.roster.generation⟩ = true ∧ root.ready ⟨1, 1, []⟩ = true ∧
    root.ready ⟨0x14, 1, [slotByte 9]⟩ = true ∧ root.ready ⟨0x31, 1, []⟩ = true ∧ root.ready ⟨0x39, 1, []⟩ = true ∧
    root.ready ⟨0x40, 1, []⟩ = true ∧ branch.role = .branch ∧ branch.u.state.active = true := by decide +kernel

theorem test_witness_reading_orders :
    ([⟨1, .eject, .host 9, none, none⟩, ⟨3, .rescan, .host 8, none, none⟩] : List OpEntry).Pairwise
      (fun a b => a.op.toNat < b.op.toNat) ∧
    ([⟨1, .eject, .host 9, none, none⟩, ⟨3, .rescan, .host 8, none, none⟩] : List OpEntry).Perm
      [⟨3, .rescan, .host 8, none, none⟩, ⟨1, .eject, .host 9, none, none⟩] := by decide +kernel

theorem test_witness_slot_requests : root.ready ⟨0x15, 1, [100, 255]⟩ = true ∧
    root.ready ⟨0x10, 1, [slotByte 0, policyCode .manual, 1, 0, 255]⟩ = true ∧
    root.ready ⟨0x11, 1, [slotByte 9, boolCode true]⟩ = true ∧ (slotIn .parked).ready ⟨0x12, 1, [slotByte 0]⟩ = true ∧
    ((slotIn .parked).slot 0).state = .parked ∧ (root.slot 0).state ≠ .parked ∧
    root.ready ⟨0x10, 1, [11, 4, 0, 0, 0]⟩ = true ∧ root.ready ⟨0x11, 1, [0, 2]⟩ = true ∧ 10 < (11 : Byte).toNat ∧
    3 < (4 : Byte).toNat ∧ root.ready ⟨0x14, 1, [11]⟩ = true := by decide +kernel

theorem test_witness_slot_eject : bare.ready ⟨0x13, 1, [slotByte 0]⟩ = true ∧ bare.roster.marker1 = false ∧
    bare.roster.marker2 = false ∧ (bare.slot 0).state = .enabled ∧ bare.ops.entries.length < 4 ∧
    bare.localEntry 0 = none ∧ (holding .returning .none).localEntry 0 = some (localEntry 0 .returning .none) ∧
    (holding .conflict .none).localEntry 0 = some (localEntry 0 .conflict .none) ∧
    (holding .returning .none).ready ⟨0x13, 1, [slotByte 0]⟩ = true ∧ bare.roster.keys.Nodup ∧
    (holding .returning .none).roster.keys.Nodup ∧ ((slotIn .leaving).slot 0).state = .leaving := by
  decide +kernel

def waits : State :=
  { slotIn .online with roster := { Roster.reset with entries := [localEntry 0 .online .waiting] },
                        budget := { Budget.reset with waiting := [0] } }

theorem test_witness_budget_set : waits.ready ⟨0x38, 1, [80]⟩ = true ∧ grantedSum waits.roster.entries ≤ 80 ∧
    waits.roster.keys.Nodup ∧ (∀ i ∈ waits.budget.waiting, waits.localEntry i ≠ none) ∧
    (2 : Nat) < grantedSum [localEntry 0 .online .granted, localEntry 1 .online .granted] := by decide +kernel

theorem test_witness_lost_child : parent.ops.ids.Nodup ∧ parent.rescan = none ∧ (parent.dl .d1).state.active = true ∧
    (parent.dl .d1).loss ≠ none ∧ (parent.dl .d1).filter.state = .present ∧ (parent.dl .d1).state ≠ .down ∧
    parent.ready ⟨0x41, 1, [dportByte .d1]⟩ = true ∧ parent.ev.queue.length + parent.roster.entries.length + 4 ≤ 32 ∧
    parent.ev.takesNew 3 .branchLost (portLocus .d1) :=
  ⟨by decide +kernel, by decide +kernel, by decide +kernel, by decide +kernel, by decide +kernel, by decide +kernel,
    by decide +kernel, by decide +kernel, ⟨by decide +kernel, by decide +kernel, by decide +kernel⟩⟩

theorem test_witness_rescan : parent.ready ⟨0x42, 1, []⟩ = true ∧ parent.rescan = none ∧ parent.ops.entries.length < 4 := by
  decide +kernel

def holdsParked : State :=
  { root with ev := { root.ev with queue := [parkedRecord], counter := 4, localConds := [⟨.slotParked, slotLocus 0⟩] } }

theorem test_witness_event_requests : holdsParked.ready ⟨0x50, 1, [12]⟩ = true ∧
    holdsParked.ready ⟨0x51, 1, 1 :: [(3 : Word16)].flatMap be16⟩ = true ∧ holdsParked.ev.queue.length ≤ queueSize ∧
    (holdsParked.ev.queue.map fun r => (r.kind, r.locus)).Nodup ∧ holdsParked.ev.holds .slotParked (slotLocus 0) = true ∧
    holdsParked.ev.setting .slotParked ≠ none ∧
    holdsParked.ready ⟨0x51, 1, 17 :: (List.replicate 17 (3 : Word16)).flatMap be16⟩ = true := by decide +kernel

/-- R148: an acknowledged condition is queued anew while it holds, and not once it has ended. -/
theorem test_event_ack : (after (exec (.eventAck 1 1 [3]) holdsParked)).ev.queue.map EvRecord.seq = [4] ∧
    (after (exec (.eventAck 1 1 [3]) { holdsParked with ev := { holdsParked.ev with localConds := [] } })).ev.queue = [] := by
  decide +kernel

def turnedOff : State :=
  { holdsParked with ev := { holdsParked.ev with kinds := holdsParked.ev.kinds.set 12 none } }

theorem test_witness_event_setup : root.ready ⟨0x52, 1, [18, 0]⟩ = true ∧ root.ready ⟨0x52, 1, [1, 4]⟩ = true ∧
    root.ready ⟨0x52, 1, [evKindCode .opDone, 0xFF]⟩ = true ∧ root.ev.inFlight = none ∧
    root.ready ⟨0x52, 1, [evKindCode .opDone, byteOf (3 : Fin 4).val]⟩ = true ∧ root.ev.setting .opDone ≠ none ∧
    turnedOff.ready ⟨0x52, 1, [evKindCode .slotParked, byteOf (0 : Fin 4).val]⟩ = true ∧
    turnedOff.ev.setting .slotParked = none ∧
    turnedOff.ev.queue.length + turnedOff.ev.localConds.length + turnedOff.ev.remoteConds.length ≤ 32 := by decide +kernel

def burst (header remaining : Nat) : Burst :=
  { bank := .bank0, generation := 1, page := 0, offset := 127, remaining := remaining, headerRead := header }
def inBurst (header remaining : Nat) : State :=
  (slotIn .online).withTarget 0 { Target.reset with phase := .burst (burst header remaining), stall := some 0 }
def draining : Commit :=
  { phase := .draining, op := 1, reannounce := false, target := .bank0, timer := none, newGen := 0, selected := [] }
def drained : State := { inBurst 3 1 with desc := { (inBurst 3 1).desc with live := .bank1, commit := some draining } }

theorem test_witness_slot_link : (root.target 0).pin = none ∧ (root.target 0).phase = .ready ∧ root.desc.commit = none ∧
    ((inBurst 0 2).target 0).phase = .burst (burst 0 2) ∧ (burst 1 2).headerRead = 1 ∧ (burst 2 2).headerRead = 2 ∧
    ((inBurst 3 2).target 0).phase = .burst (burst 3 2) ∧ ((inBurst 3 1).target 0).phase = .burst (burst 3 1) ∧
    (inBurst 3 1).desc.commit = none ∧ ((root.withTarget 0 { Target.reset with phase := .holding [9] 1 }).target 0).phase =
      .holding [9] 1 := by decide +kernel

theorem test_witness_stall : ((inBurst 3 1).target 0).stall = some 0 ∧
    (inBurst 3 1).ev.takesNew 1 .burstStall (slotLocus 0) ∧ drained.desc.commit = some draining ∧
    (drained.target 0).phase = .burst (burst 3 1) ∧ draining.phase = .draining ∧ draining.target = (burst 3 1).bank ∧
    (∀ j : SlotId, j ≠ 0 → (drained.target j).pin ≠ some (burst 3 1).bank) ∧ headerPages drained.desc.staging ≤ 8 :=
  ⟨by decide +kernel, ⟨by decide +kernel, by decide +kernel, by decide +kernel⟩, by decide +kernel, by decide +kernel,
    by decide +kernel, by decide +kernel, by decide +kernel, by decide +kernel⟩

def crowded : State :=
  { bare with roster := { Roster.reset with entries := List.replicate 96 (localEntry 9 .conflict .none) } }

theorem test_witness_refused_writes : (slotIn .leaving).ev.takesNew 2 .checkinRefused (slotLocus 0) ∧
    root.enLine 0 = false ∧ ((slotIn .leaving).slot 0).state = .leaving ∧ (root.slot 0).state ≠ .leaving ∧
    (crowded.slot 0).state = .enabled ∧ (checkInRecOf (checkIn 5 3 0)).isSome = true ∧ crowded.localEntry 0 = none ∧
    96 ≤ crowded.roster.entries.length :=
  ⟨⟨by decide +kernel, by decide +kernel, by decide +kernel⟩, by decide +kernel, by decide +kernel, by decide +kernel,
    by decide +kernel, by decide +kernel, by decide +kernel, by decide +kernel⟩

theorem test_witness_parking : ((slotIn .enabled).slot 0).state = .enabled ∧ ((slotIn .enabled).slot 0).timer = some 0 ∧
    ((slotIn .online).slot 0).state = .online ∧ checkInRecOf [] = none := by decide +kernel

theorem test_witness_check_in : (bare.slot 0).state = .enabled ∧ (checkInRecOf (checkIn 5 1 8)).isSome = true ∧
    bare.localEntry 0 = none ∧ bare.roster.entries.length < 96 ∧ bare.budget.waiting = [] ∧ (bare.target 0).pin = none ∧
    (∃ x ∈ ({ bare with roster := { Roster.reset with entries := [localEntry 1 .online .none] } } : State).roster.entries,
      x.serial = 5 ∧ x.state ≠ .conflict) := by decide +kernel

/-- A check-in finds the slot's entry ONLINE with a grant, RETURNING or in CONFLICT. -/
theorem test_witness_check_in_finds : (holding .online .granted).localEntry 0 = some (localEntry 0 .online .granted) ∧
    (holding .online .granted).budgetLaw ∧ (holding .returning .none).budgetLaw ∧ (holding .conflict .none).budgetLaw ∧
    ((holding .returning .none).slot 0).state = .enabled ∧ (localEntry 0 .returning .none).state ≠ .leaving ∧
    (∀ r, checkInRecOf (checkIn 5 2 0) = some r → r.serial = 5 ∧ r.draw = 2) ∧
    (holding .online .granted).budget.waiting = [] ∧ ((holding .online .granted).target 0).pin = none := by
  refine ⟨by decide +kernel, ?_, ?_, ?_, by decide +kernel, by decide +kernel,
    fun r h => by cases h; decide +kernel, by decide +kernel, by decide +kernel⟩ <;>
  exact ⟨by decide +kernel, by decide +kernel, by decide +kernel, by decide +kernel,
    fun _ h => (List.not_mem_nil h).elim, by decide +kernel, by decide +kernel, by decide +kernel⟩

/-- The holder of serial id 5 in slot 1, and a remote entry in conflict with it. -/
def claimed : State :=
  { holding .online .granted with
    roster := { Roster.reset with
      joinCounter := 2,
      entries := [localEntry 0 .online .granted,
                  { localEntry 0 .conflict .none with key := ⟨[.d1], 0⟩, reported := some .online, joinStamp := 2 }] } }

theorem test_witness_check_in_replaces : claimed.localEntry 0 = some (localEntry 0 .online .granted) ∧
    (∀ r, checkInRecOf (checkIn 8 1 0) = some r → (localEntry 0 .online .granted).serial ≠ r.serial) ∧
    claimed.budgetLaw ∧ claimed.roster.entries.length ≤ 96 ∧ claimed.ev.queue.length + 6 ≤ 32 ∧
    claimed.ev.takesNew 2 .moduleLeft (slotLocus 0) ∧
    (∀ x ∈ claimed.roster.entries, x.key ≠ localKey 0 → x.serial = 5 ∧ x.inConflict = true ∧ x.reported ≠ none) ∧
    (∃ x ∈ claimed.roster.entries, x.key ≠ localKey 0) :=
  ⟨by decide +kernel, fun r h => by cases h; decide +kernel,
    ⟨by decide +kernel, by decide +kernel, by decide +kernel, by decide +kernel, fun _ h => (List.not_mem_nil h).elim,
      by decide +kernel, by decide +kernel, by decide +kernel⟩, by decide +kernel, by decide +kernel,
    ⟨by decide +kernel, by decide +kernel, by decide +kernel⟩, by decide +kernel, by decide +kernel⟩

theorem test_witness_receivers : root.host.rx.phase = .hunting ∧
    ({ phase := .body 0 [1, 7], gap := some 2 } : Rx).phase = .body 0 [1, 7] ∧ [(1 : Byte), 7].length + 1 < (0 : Byte).toNat + 4 ∧
    ((parent.withRx (.d .d1) (shortOf 0xA2 0 [] 0)).portRx (.d .d1)).phase = .body (byteOf 0) [0xA2, 0, 0] ∧
    (0 : Byte) ++ (0 : Byte) ≠ crc16 [byteOf 0, 0xA2, 0] := by decide +kernel

theorem test_witness_good_link_frame : LinkMsg.fits (.syncEntry 1 (.present (record [.d1, .d2, .d1] 8))) = true ∧
    ((parent.withRx (.d .d1) (shortOf 0xA2 0 [] ((crc16 [0, 0xA2, 0]).extractLsb' 8 8))).portRx (.d .d1)).phase =
      .body (byteOf (linkPayload .keepalive).length) (linkKind .keepalive :: linkTag .keepalive :: linkPayload .keepalive ++
        [(crc16 [0, 0xA2, 0]).extractLsb' 8 8]) := by decide +kernel

def sending : TxFrame := { msg := .keepalive, resets := none }

theorem test_witness_transmitters : sending.resets = none ∧ root.host.cur = none ∧ root.host.buffer = [] ∧
    root.ready ⟨1, 1, []⟩ = true ∧ replying.host.buffer = [] ∧
    ((parent.withD .d1 (parent.d1.send .keepalive)).dl .d1).tx.cur = some sending ∧
    (branch.toParent .keepalive).u.tx.cur = some sending ∧ branch.u.dumpPhase ≠ .sending := by decide +kernel

/-- A frame is being sent, a reply waits behind it, and a request is held back in the buffer. -/
def heldBack : State :=
  let sent : SendItem := ⟨.attention, ⟨0x8F, 0, [1, 2]⟩, none⟩
  { root with host := { root.host with cur := some sent, sendList := [⟨.reply, ⟨0x81, 1, [2]⟩, none⟩],
                                       buffer := [⟨0x13, 2, [4]⟩] } }

theorem test_witness_held_back : heldBack.host.cur.map SendItem.resets = some none ∧
    heldBack.host.buffer = [⟨0x13, 2, [4]⟩] ∧ hostFrameOf (.slotEject 2 4) = some ⟨0x13, 2, [4]⟩ ∧
    heldBack.host.replyWaits = true := by decide +kernel

def probing : State := root.withD .d2 { DLink.reset with state := .probing, probe := some 0 }

theorem test_witness_link_start : root.role = .root ∧
    ({ branch with u := { branch.u with state := .down } } : State).u.state = .down ∧ branch.u.filter.state = .present ∧
    (probing.dl .d2).state = .probing ∧ (probing.dl .d2).child = none ∧
    ({ probing with roster := { probing.roster with flags := probing.causedFlags } } : State).roster.flags =
      probing.causedFlags ∧ (parent.dl .d1).state.active = true ∧ (root.dl .d1).state = .down ∧
    (parent.hears (.d .d1)) ∧ branch.hears .u := by
  refine ⟨by decide +kernel, by decide +kernel, by decide +kernel, by decide +kernel, by decide +kernel, by decide +kernel,
    by decide +kernel, by decide +kernel, ?_, ?_⟩
  · show parent.d1.state.active = true
    decide +kernel
  · exact ⟨by decide +kernel, by decide +kernel⟩

/-- A filter whose settle time has run out. -/
def settled : Filter := { raw := true, state := .settling, timer := some 0 }

/-- A branch at a tier with carrier arriving on D1 and on U. -/
def arriving (tier : Nat) : State :=
  { branch with u := { branch.u with filter := settled, recTier := some tier },
                d1 := { DLink.reset with filter := settled } }

theorem test_witness_carrier : (arriving 2).u.filter.state = .settling ∧ (arriving 2).u.filter.timer ≠ none ∧
    ((arriving 2).dl .d1).filter.state = .settling ∧ ((arriving 2).dl .d1).state = .down ∧ (arriving 2).tier = some 2 ∧
    (arriving 3).tier = some 3 ∧ ({ arriving 2 with u := { branch.u with tierKnown := false } } : State).tier = none ∧
    (arriving 3).roster.marker1 = false := by decide +kernel

theorem test_witness_probe_again : branch.hearsParent ∧ branch.u.filter.state = .present ∧ (2 : Byte).toNat ≤ 2 ∧
    ([.d1, .d1, .d2] : Path).length = (2 : Byte).toNat + 1 ∧ branch.u.tx.waitingReset = none ∧
    branch.roster.keys.Nodup ∧ (3 : Byte).toNat > 2 :=
  ⟨⟨by decide +kernel, by decide +kernel⟩, by decide +kernel, by decide +kernel, by decide +kernel, by decide +kernel,
    by decide +kernel, by decide +kernel⟩

theorem test_witness_lost_parent : branch.role = .branch ∧ branch.u.state.active = true ∧ branch.u.tx.waitingReset = none ∧
    branch.u.loss ≠ none ∧ branch.u.filter.state = .present := by decide +kernel

/-- A branch whose PART RESET's reply waits behind the frame being sent. -/
def resetWaits (keep : Bool) : State :=
  let marked : TxFrame := { msg := .forwardReply 1 .ok [], resets := some keep }
  { branch with u := { branch.u with tx := { cur := some { msg := .keepalive, resets := none }, waiting := [marked] } } }

theorem test_witness_lost_parent_resets : (resetWaits true).u.tx.waitingReset = some true ∧
    (resetWaits false).u.tx.waitingReset = some false ∧ (resetWaits true).role = .branch ∧
    (resetWaits true).u.state.active = true ∧ (resetWaits true).u.loss ≠ none ∧
    (resetWaits true).u.filter.state = .present ∧ (2 : Byte).toNat ≤ 2 ∧ ([.d1, .d1, .d2] : Path).length = (2 : Byte).toNat + 1 := by
  decide +kernel

def relaying : State := { branch with d2 := parent.d1 }

theorem test_witness_forward_request : relaying.hearsParent ∧ pathOf 0x80 = none ∧ pathOf 0x2C = some [.d2, .d2] ∧
    [DPort.d2].length + 1 + relaying.ownTier ≤ 3 ∧ (relaying.dl .d2).state = .up ∧ relaying.ops.entries.length < 4 :=
  ⟨⟨by decide +kernel, by decide +kernel⟩, by decide +kernel, by decide +kernel, by decide +kernel, by decide +kernel,
    by decide +kernel⟩

/-- A branch that executes inner requests: slot 1 ENABLED without an entry, D2 UP. -/
def serving : State := { bare with role := .branch, u := branch.u, d2 := parent.d1 }

theorem test_witness_inner_requests : serving.hearsParent ∧ serving.desc.commit = none ∧
    headerPages serving.desc.staging ≤ 8 ∧ serving.ops.entries.length < 4 ∧ (serving.slot 0).state = .enabled ∧
    serving.localEntry 0 = none ∧ serving.rescan = none ∧ serving.d2.state = .up ∧ isRequest 0x77 = false :=
  ⟨⟨by decide +kernel, by decide +kernel⟩, by decide +kernel, by decide +kernel, by decide +kernel, by decide +kernel,
    by decide +kernel, by decide +kernel, by decide +kernel, by decide +kernel⟩

/-- The longest inner FORWARD: 200 bytes of link payload, and one more is no frame (R108). -/
theorem test_witness_inner_forward_bound : (linkPayload (.forwardRequest 1 0 0x03 (0 :: 2 :: List.replicate 196 0))).length =
      200 ∧
    (Instr.forwardRequest .u 1 0 0x03 (0 :: 2 :: List.replicate 196 0)).wellFormed = true ∧
    (Instr.forwardRequest .u 1 0 0x03 (0 :: 2 :: List.replicate 197 0)).wellFormed = false ∧
    (after (exec (.forwardRequest .u 1 0 0x03 (0 :: 2 :: List.replicate 196 0)) serving)).u.tx.frames.map TxFrame.msg =
      [.forwardReply 1 .refused (refusalPayload .badArgument 0)] := by decide +kernel

def waiting (o : Origin) : OpEntry := { op := 2, kind := .forward, origin := o, hopPort := some .d1, hopTimer := some 0 }
def awaitsReply (o : Origin) : State := { parent with ops := { entries := [waiting o], counter := 3 } }

/-- The root whose host waits for the reply of its FORWARD, with late replies of others waiting to be sent. -/
def remembersForward (late : Nat) : State :=
  let pending : RepeatRec := ⟨9, 3, crc16 [2, 3, 9, 0x10, 0x31], .pending 2⟩
  { awaitsReply (.host 9) with host := { root.host with
      memory := some pending, sendList := List.replicate late ⟨.late, ⟨0x80, 1, []⟩, none⟩ } }

theorem test_witness_waiting_forward : (remembersForward 0).ops.ids.Nodup ∧
    waiting (.host 9) ∈ (remembersForward 0).ops.entries ∧ (waiting (.host 9)).origin = .host 9 ∧
    (remembersForward 0).host.memory.map RepeatRec.reply = some (.pending (waiting (.host 9)).op) ∧
    (remembersForward 0).host.waitingOf .late < 4 ∧ ¬(remembersForward 4).host.waitingOf .late < 4 ∧
    waiting (.upstream 9) ∈ (awaitsReply (.upstream 9)).ops.entries ∧ (waiting (.host 9)).hopTimer ≠ none ∧
    (parent.dl .d1).state.active = true ∧ (waiting (.host 9)).op ∉ parent.ops.ids ∧ replyFits .ok [1] = true ∧
    replyFits .refused [0xFF, 0, 0] = false ∧
    ({ awaitsReply (.upstream 9) with u := branch.u } : State).u.state.active = true := by decide +kernel

def rescanning : State :=
  { parent with ops := { entries := [⟨5, .rescan, .host 9, none, none⟩], counter := 6 },
                rescan := some { op := 5, ports := [.d1], synced := 0 } }

theorem test_witness_lost_child_answers : (awaitsReply (.host 9)).host.waitingOf .late +
      (awaitsReply (.host 9)).ops.entries.length ≤ 4 ∧ (waiting (.host 9)).kind = .forward ∧
    (waiting (.host 9)).hopPort = some .d1 ∧ (awaitsReply (.host 9)).rescan = none ∧
    rescanning.rescan = some { op := 5, ports := [.d1], synced := 0 } ∧ (5 : Byte) ∈ rescanning.ops.ids ∧
    (∀ e ∈ rescanning.ops.entries, e.op = 5 → e.kind = .rescan) ∧ (rescanning.dl .d1).loss ≠ none ∧
    root.ready ⟨0x41, 1, [3]⟩ = true ∧ root.ready ⟨0x41, 1, [dportByte .d2]⟩ = true ∧ (root.dl .d2).state = .down ∧
    (root.dl .d2).filter.state ≠ .present := by decide +kernel

def dumping : State :=
  { branch with u := { branch.u with state := .syncing, dumpPhase := .sending, dumpList := [localKey 0],
                                     tx := { cur := some sending, waiting := [] } } }
def acked : State := { branch with u := { branch.u with state := .syncing, dumpPhase := .awaitingAck, ackTimer := some 0 } }

theorem test_witness_dump : dumping.u.tx.cur = some sending ∧ dumping.u.tx.waiting = [] ∧ dumping.u.dumpPhase = .sending ∧
    dumping.u.state.active = true ∧ 1 ≤ dumping.u.cursor ∧ dumping.u.dumpList[dumping.u.cursor - 1]? = some (localKey 0) ∧
    ({ dumping.u with cursor := 2 } : ULink).dumpList.length < 2 ∧ acked.u.dumpPhase = .awaitingAck ∧
    acked.u.ackTimer ≠ none ∧ acked.hearsParent :=
  ⟨by decide +kernel, by decide +kernel, by decide +kernel, by decide +kernel, by decide +kernel, by decide +kernel,
    by decide +kernel, by decide +kernel, by decide +kernel, ⟨by decide +kernel, by decide +kernel⟩⟩

theorem test_witness_sync_ack : branch.u.state ≠ .syncing ∧ acked.u.state = .syncing ∧ acked.u.tierKnown = true ∧
    acked.u.deltas = [] ∧ acked.ev.queue = [] ∧ acked.ev.reported = [] ∧ acked.ev.inFlight = none ∧
    ({ acked with u := { acked.u with tierKnown := false } } : State).u.recTier = some 1 ∧ acked.d1.state = .down ∧
    acked.d2.state = .down ∧ acked.roster.keys.Nodup ∧ acked.u.deltas.length < 32 := by decide +kernel

def twoDeltas : State :=
  { branch with u := { branch.u with deltas := [⟨.flags .clear, some 1⟩, ⟨.remove (localKey 0), some 2⟩],
                                     retransmit := some 0 } }

theorem test_witness_delta_ack : twoDeltas.u.state = .up ∧
    twoDeltas.u.deltas = [] ++ ⟨.flags .clear, some 1⟩ :: [⟨.remove (localKey 0), some 2⟩] ∧
    (∀ x ∈ ([⟨.remove (localKey 0), some 2⟩] : List Delta), x.seq ≠ none) ∧
    (∀ x ∈ twoDeltas.u.deltas, x.seq ≠ some 3) := by decide +kernel

/-- A branch with deltas queued, the first eight of them sent. -/
def queued (n : Nat) : State :=
  { branch with u := { branch.u with
      deltas := (List.range n).map fun j => ⟨.flags .clear, if j < 8 then some (byteOf (j + 1)) else none⟩,
      nextSeq := 9, retransmit := some 0 } }

theorem test_witness_delta_window : windowed (queued 10).u.deltas ∧ windowed (queued 32).u.deltas ∧
    (queued 10).u.deltas = [⟨.flags .clear, some 1⟩] ++ ⟨.flags .clear, some 2⟩ :: (queued 10).u.deltas.drop 2 ∧
    (queued 10).u.tx.waiting = [] ∧ (queued 10).hearsParent ∧ (queued 32).u.deltas.length = 32 ∧
    windowed ([] : List Delta) := by
  refine ⟨?_, ?_, by decide +kernel, by decide +kernel, ⟨by decide +kernel, by decide +kernel⟩, by decide +kernel, ?_⟩ <;>
  unfold windowed <;> decide +kernel

/-- A branch with a child on D1 whose entry of slot 1 is held, or none. -/
def passing (entries : List Entry) : State :=
  { branch with d1 := parent.d1, roster := { Roster.reset with entries := entries, joinCounter := 1 } }
def childEntry : Entry :=
  { localEntry 0 .online .none with key := ⟨[.d1], 0⟩, reported := some .online }

theorem test_witness_changes_passed_up : ((passing []).dl .d1).state.active = true ∧
    ((passing []).dl .d1).syncPhase = .none ∧ (1 : Byte) = ((passing []).dl .d1).expected ∧
    (passing [childEntry]).roster.keys.Nodup ∧
    findEntry (remoteKey .d1 ⟨[], 0⟩) (passing [childEntry]).roster.entries = some childEntry ∧
    (∀ x ∈ (passing [childEntry]).roster.entries, x.serial = childEntry.serial → x.key = childEntry.key) ∧
    findEntry (remoteKey .d1 (record [] 8).key) (passing []).roster.entries = none ∧
    (record [] 8).key.path.length + 1 + (passing []).ownTier ≤ 3 ∧ childEntry.reported ≠ some .conflict ∧
    { record [] 8 with serial := 5, state := .leaving }.serial = childEntry.serial ∧ childEntry.state ≠ .leaving ∧
    ((passing []).withD .d1 { (passing []).dl .d1 with
      child := ((passing []).dl .d1).child.map fun c =>
        { c with reported := some { Flags.clear with overflowed := true } } }).causedFlags ≠ (passing []).roster.flags := by
  decide +kernel

def flying : State :=
  { branch with ev := { branch.ev with inFlight := some (.record (event [] [] 1)), retransmit := some 0,
                                       queue := [{ parkedRecord with seq := 1 }] } }

theorem test_witness_retransmits : twoDeltas.u.retransmit ≠ none ∧ twoDeltas.u.tx.waiting = [] ∧
    flying.ev.inFlight = some (.record (event [] [] 1)) ∧ flying.ev.retransmit ≠ none ∧ flying.u.state = .up := by
  decide +kernel

theorem test_witness_sync_begin : (parent.dl .d1).state.active = true ∧ (parent.dl .d1).everUp = true ∧
    (96 : Byte).toNat ≤ 96 ∧ 96 < (97 : Byte).toNat ∧ parent.ev.takesNew 1 .branchResync (portLocus .d1) :=
  ⟨by decide +kernel, by decide +kernel, by decide +kernel, by decide +kernel,
    ⟨by decide +kernel, by decide +kernel, by decide +kernel⟩⟩

theorem test_witness_childs_records : (receiving.dl .d1).state.active = true ∧ receiving.roster.marker1 = false ∧
    receiving.roster.marker2 = false ∧ LinkRecord.fits (record [.d1, .d2] 8) = true ∧ (record [.d1, .d2] 8).caps.length ≤ 85 ∧
    (receiving.dl .d1).syncPhase = .receiving ∧ (1 : Byte).toNat = (receiving.dl .d1).nextOrdinal ∧
    (receiving.dl .d1).nextOrdinal ≤ (receiving.dl .d1).announced ∧ (parent.dl .d1).syncPhase = .none ∧
    (1 : Byte) = (parent.dl .d1).expected ∧ (record [.d1, .d2] 8).key.path.length + 1 + receiving.ownTier ≤ 3 := by
  decide +kernel

theorem test_witness_delta_out_of_turn : LinkMsg.fits (.delta 9 (.flags .clear)) = true ∧
    (receiving.dl .d1).syncPhase ≠ .none ∧ (9 : Byte) ≠ (parent.dl .d1).expected ∧ (9 : Byte) ∉ (parent.dl .d1).recent ∧
    (9 : Byte) ∈ ((parent.withD .d1 { parent.d1 with recent := [8, 9] }).dl .d1).recent := by decide +kernel

def received : State := receiving.withD .d1 { receiving.d1 with nextOrdinal := 2 }

theorem test_witness_sync_end : (received.dl .d1).state.active = true ∧ received.roster.keys.Nodup ∧
    (received.dl .d1).syncPhase = .receiving ∧ (1 : Byte).toNat = (received.dl .d1).announced ∧
    (received.dl .d1).nextOrdinal = (1 : Byte).toNat + 1 ∧ (receiving.dl .d1).nextOrdinal ≠ (1 : Byte).toNat + 1 ∧
    (received.dl .d1).syncTimer ≠ none := by decide +kernel

theorem test_witness_childs_events : (event [.d1, .d1, .d1] [.d1, .d1] 10).locus.path.length ≤ 3 ∧
    (event [.d1, .d1, .d1] [.d1, .d1] 10).origin.length ≤ 2 ∧ (parent.dl .d1).lastChildSeq ≠ some 1 ∧
    4 < (event [.d1, .d1, .d1, .d1] [] 1).locus.path.length + 1 ∧
    ((parent.withD .d1 { parent.d1 with lastChildSeq := some 1 }).dl .d1).lastChildSeq = some (event [] [] 1).seq ∧
    parent.ev.takesNew 1 .slotOccupied ⟨[.d1, .d1, .d1, .d1], 10, 0⟩ ∧ parent.ev.reported = [] ∧
    parent.ev.remoteHolds .slotParked ⟨[.d1], 1, 0⟩ = false ∧ parent.ev.remoteConds.length < 32 :=
  ⟨by decide +kernel, by decide +kernel, by decide +kernel, by decide +kernel, by decide +kernel,
    ⟨by decide +kernel, by decide +kernel, by decide +kernel⟩, by decide +kernel, by decide +kernel, by decide +kernel⟩

def lostSome : EventUp := { event [] [] 1 with lost := 255 }

theorem test_witness_event_details : (oddEvents.all fun e => decide (¬ detailOfItsCodes e)) = true ∧
    (oddEvents.all fun e => Locus.fits e.locus) = true ∧ (evenEvents.all fun e => decide (detailOfItsCodes e)) = true ∧
    detailOfItsCodes (event [.d1, .d1, .d1] [.d1, .d1] 10) ∧ detailOfItsCodes (event [.d1, .d1, .d1, .d1] [] 1) ∧
    detailOfItsCodes lostSome :=
  ⟨by decide +kernel, by decide +kernel, by decide +kernel, by decide +kernel, by decide +kernel, by decide +kernel⟩

theorem test_witness_childs_lost_count : lostSome.lost ≠ 0 ∧ lostSome.style = .latched ∧ lostSome.kind ≠ .branchEventsLost ∧
    parent.ev.takesNew 1 lostSome.kind ⟨[.d1], 1, 0⟩ ∧ parent.ev.takesNew 2 .branchEventsLost (portLocus .d1) ∧
    parent.ev.queue.length + 2 ≤ 32 ∧
    ({ parent.ev with queue := [{ parkedRecord with kind := .branchEventsLost, locus := portLocus .d1 }] } :
      EventUnit).isPending .branchEventsLost (portLocus .d1) = true :=
  ⟨by decide +kernel, by decide +kernel, by decide +kernel, ⟨by decide +kernel, by decide +kernel, by decide +kernel⟩,
    ⟨by decide +kernel, by decide +kernel, by decide +kernel⟩, by decide +kernel, by decide +kernel⟩

def settlingFlight (n : Nat) : State :=
  { acked with ev := { flying.ev with queue := [{ parkedRecord with seq := 1, count := n }] } }

theorem test_witness_event_ack : (settlingFlight 1).role = .branch ∧ (settlingFlight 1).u.state = .syncing ∧
    (settlingFlight 1).ev.inFlight = some (.record (event [] [] 1)) ∧
    (settlingFlight 1).ev.queue = [{ parkedRecord with seq := 1, count := 1 }] ∧ (1 : Nat) ≤ (event [] [] 1).count.toNat ∧
    (settlingFlight 2).ev.queue = [{ parkedRecord with seq := 1, count := 2 }] ∧ (event [] [] 1).count.toNat < 2 ∧
    ({ acked.ev with inFlight := some (.clear .slotParked rackLocus 4) } : EventUnit).inFlight =
      some (.clear .slotParked rackLocus 4) := by decide +kernel

/-- A branch in UP with a clear in flight, reported conditions and records behind it. -/
def clearing (reported : List Reported) (queue : List EvRecord) : State :=
  { branch with ev := { branch.ev with inFlight := some (.clear .slotParked rackLocus 4), retransmit := some 0,
                                       reported := reported, queue := queue } }
def endedToo : Reported := { kind := .grantBlocked, locus := rackLocus, seq := 5, waiting := true }

theorem test_witness_next_item : (clearing [endedToo] []).ev.inFlight = some (.clear .slotParked rackLocus 4) ∧
    ([endedToo].filter fun y => !(decide (y.kind = .slotParked) && decide (y.locus = rackLocus))).find? Reported.waiting =
      some endedToo ∧
    deliveryOrder (clearing [] [parkedRecord]).ev.queue = [parkedRecord] ∧ (clearing [] []).ev.queue = [] ∧
    (clearing [] []).role = .branch ∧ (clearing [] []).u.state = .up := by decide +kernel

theorem test_witness_path_bytes : LinkMsg.fits .linkReset = true ∧ ([.d1, .d2, .d1, .d2] : Path).length ≤ 4 ∧
    pathOf 0x45 = some [.d1, .d2, .d1, .d2] := by decide +kernel

/-- The invariants have states they hold of, and a step from there. -/
theorem test_witness_invariants : State.reset.desc.canonical = true ∧ State.reset.desc.staging.read 0 = 0 ∧
    (∃ t, step { State.reset with pending := [.hello 1] } = .next t) ∧ waits.budgetLaw :=
  ⟨by decide +kernel, by decide +kernel, ⟨_, rfl⟩, by decide +kernel, by decide +kernel, by decide +kernel,
    by decide +kernel, fun i h => by cases List.mem_singleton.mp h; exact ⟨_, rfl, rfl⟩, by decide +kernel,
    by decide +kernel, by decide +kernel⟩

end Sys2Proof.Tests
end

