-- ==== Sys2Proof/Proofs/RosterSummary.lean ====
section
/-! PROOF. ROSTER SUMMARY at a root and at a branch (R25), with the rule for an inner request that is answered OK and
changes nothing (R121, R122). -/

namespace Sys2Proof.Machine

/-! ### An inner request at a branch that hears its parent (R121, R122) -/

/-- A good frame on an active U restarts its loss timer before anything else, so that the rest of the happening starts
from the state with the timer restarted (R108). -/
theorem heardU_start {s : State} (active : s.u.state.active = true) :
    heardU (Hap.start s) = Hap.start (s.heard .u) := if_pos active

/-- A FORWARD REQUEST with the empty path, on the U link of a branch that hears its parent, is an inner request executed
here. -/
theorem linkIn_forwardRequest_here {s : State} (hears : s.hearsParent) (tag kind : Byte) (payload : List Byte) :
    linkIn .u (.forwardRequest tag 0 kind payload) (Hap.start s) =
      executeInner tag kind payload (Hap.start (s.heard .u)) := by
  obtain ⟨branch, active⟩ := hears
  have hrole : (Hap.start s).role = .branch := branch
  have hactive : (Hap.start s).u.state.active = true := active
  have hpath : pathOf 0 = some [] := rfl
  simp only [linkIn, linkInU, hrole, hactive, if_true, heardU_start active, takeActiveU, takeForwardRequest, hpath]

/-- A frame begun on U in SYNCING or UP restarts the keepalive timer, and U's reply to a message just heard is the
statements' `sentUp`. -/
theorem sendU_heard {s : State} (active : s.u.state.active = true) (m : LinkMsg) :
    sendU m (Hap.start (s.heard .u)) = Hap.start (s.sentUp m) := by
  simp [sendU, sendUMarked, Hap.start, State.heard, State.sentUp, State.toParent, restarted, active, keepaliveMs]

/-- An inner request that is answered OK and leaves the happening as it was: the reply goes up U, and nothing else
changes. -/
theorem exec_forwardRequest_ok {s : State} {tag kind : Byte} {payload data : List Byte} (hears : s.hearsParent)
    (short : payload.length + 2 ≤ maxPayload)
    (e : judge (.upstream tag) kind payload (Hap.start (s.heard .u)) = (Hap.start (s.heard .u), .ok data)) :
    exec (.forwardRequest .u tag 0 kind payload) s = .next (s.sentUp (.forwardReply tag .ok data)) := by
  have fits : ¬ maxPayload < (linkPayload (.forwardRequest tag 0 kind payload)).length := Nat.not_lt.mpr short
  have ⟨_, active⟩ := hears
  have taken : linkIn .u (.forwardRequest tag 0 kind payload) (Hap.start s) =
      Hap.start (s.sentUp (.forwardReply tag .ok data)) := by
    rw [linkIn_forwardRequest_here hears, executeInner, e]
    exact sendU_heard active _
  calc exec (.forwardRequest .u tag 0 kind payload) s
      = sizedLinkRow .u (.forwardRequest tag 0 kind payload) s := rfl
    _ = happen (linkIn .u (.forwardRequest tag 0 kind payload)) s := if_neg fits
    _ = .next (s.sentUp (.forwardReply tag .ok data)) := by
        rw [happen_quiet (taken ▸ start_quiet _), taken]; rfl

/-! ### The summary (R25) -/

/-- ROSTER SUMMARY is answered alike for host and parent, and leaves the happening as it was. -/
theorem judge_rosterSummary (o : Origin) (h : Hap) : judge o 0x31 [] h = (h, .ok (rosterSummaryData h.roster)) := rfl

/-- Every entry is in one of the four states. -/
theorem countState_total (es : List Entry) :
    countState .online es + countState .returning es + countState .leaving es + countState .conflict es = es.length := by
  induction es with
  | nil => rfl
  | cons e es ih =>
    simp only [countState, List.countP_cons, List.length_cons] at ih ⊢
    cases e.state <;> simp <;> omega

/-- The count of a state's entries, as the statements count them. -/
theorem countState_eq_filter (st : EntryState) (es : List Entry) :
    countState st es = (es.filter fun e => decide (e.state = st)).length := List.countP_eq_length_filter

/-- The count of the local entries, as the statements count them. -/
theorem countP_isLocal_eq_filter (es : List Entry) :
    es.countP Entry.isLocal = (es.filter fun e => decide (e.key.path = [])).length := by
  have hlocal : Entry.isLocal = fun e => decide (e.key.path = []) := by
    funext e
    cases h : e.key.path <;> simp [Entry.isLocal, h]
  rw [hlocal, List.countP_eq_length_filter]

/-- Settles O19: at a root and at a branch the request is answered OK with `rosterSummaryData`, whose counts are the
statement's, and `countState_total` gives the sum. -/
theorem rosterSummaryDescribesTheRoster : Obligations.RosterSummaryDescribesTheRoster := by
  unfold Obligations.RosterSummaryDescribesTheRoster
  intro tag s online returning leaving conflict data honline hreturning hleaving hconflict hdata
  rw [← countState_eq_filter] at honline hreturning hleaving hconflict
  subst honline hreturning hleaving hconflict
  have summary : rosterSummaryData s.roster = data := by
    rw [hdata, ← countP_isLocal_eq_filter]; rfl
  subst summary
  refine ⟨fun ready => ?root, fun hears => ?branch, countState_total _⟩
  case root => exact hostRow_ok ready (judge_rosterSummary _ _)
  case branch => exact exec_forwardRequest_ok hears (by decide) (judge_rosterSummary _ _)

end Sys2Proof.Machine
end

