-- ==== Sys2Proof/Proofs/SlotStatus.lean ====
section
/-! PROOF. STATUS on the slot link (R56, R57), with the rules for a command that meets no burst and for a command whose
whole effect is the response it holds (R54, R61). -/

namespace Sys2Proof.Machine

/-! ### Commands on a slot's target -/

/-- Only a target in a burst has something to end (R61). -/
theorem endBurst_of_pin_none {i : SlotId} {h : Hap} (unpinned : (h.target i).pin = none) : endBurst i h = h := by
  unfold endBurst
  cases phase : (h.target i).phase with
  | ready => rfl
  | holding response pos => rfl
  | burst b => simp [Target.pin, phase] at unpinned

/-- Without a burst to supersede, STATUS goes straight to its response (R55, R61). -/
theorem slotWrite_status {i : SlotId} {h : Hap} (unpinned : (h.target i).pin = none) :
    slotWrite i [1] h = holdResponse i (statusResponse h.toState i) h :=
  calc slotWrite i [1] h
      = slotStatusCmd i (endBurst i h) := rfl
    _ = holdResponse i (statusResponse h.toState i) h := by rw [endBurst_of_pin_none unpinned, slotStatusCmd]

/-- A happening whose only effect is to hold a response changes the target's phase and nothing else (R54). -/
theorem happen_holdResponse {f : Hap → Hap} {s : State} {i : SlotId} {response : List Byte}
    (held : f (Hap.start s) = holdResponse i response (Hap.start s)) :
    happen f s = .next (s.withTarget i { s.target i with phase := .holding response 0 }) := by
  have quiet : (holdResponse i response (Hap.start s)).Quiet := ⟨rfl, rfl, rfl, rfl, rfl, rfl, rfl⟩
  rw [happen_quiet (held ▸ quiet), held]
  rfl

/-! ### The response to STATUS (R56, R57) -/

/-- The visible state by the table of R57, as the statement writes it. -/
theorem visibleCode_eq_table (st : SlotState) :
    visibleCode st =
      match st with
      | .idle => 0
      | .held => 0
      | .delaying => 0
      | .announcing => 0
      | .enabled => 1
      | .online => 2
      | .leaving => 3
      | .parked => 4 := by
  cases st <;> rfl

/-- The byte of the last check-in result, as the statement writes it (R177). -/
theorem lastResultByte_eq_table (r : Option SlotResult) :
    lastResultByte r =
      match r with
      | some r => slotResultCode r
      | none => 0xFF := by
  cases r <;> rfl

/-- Settles O30: with no burst to supersede, STATUS only holds `statusResponse`, whose visible state and last result are
the statement's tables. -/
theorem statusShowsTheVisibleState : Obligations.StatusShowsTheVisibleState := by
  unfold Obligations.StatusShowsTheVisibleState
  intro i response s unpinned hresponse
  have shown : statusResponse s i = response := by
    rw [hresponse, statusResponse, visibleCode_eq_table, lastResultByte_eq_table]
    rfl
  have held : slotWrite i [1] (Hap.start s) = holdResponse i response (Hap.start s) := by
    rw [← shown]
    exact slotWrite_status unpinned
  exact happen_holdResponse held

end Sys2Proof.Machine
end

