-- ==== Sys2Proof/Proofs/Resets.lean ====
section
/-! PROOF. The two resets leave the values of the reset rules (R26, R51, R52, R70, R91, R92, R106, R125, R139, R156, R157,
R170, R171). -/

namespace Sys2Proof.Machine

/-! ### What a reset leaves (R51, R52) -/

/-- A filter put in EMPTY takes the level of its raw line as a change (R51, R52). -/
theorem Filter.restarted_afresh (f : Filter) : f.restarted f.afresh := by
  unfold Filter.restarted Filter.afresh
  cases f.raw
  case true => rfl
  case false => rfl

section
variable (role : Role) (rate : Rate) (desc : Desc) (s : State) (i : SlotId)

@[simp] theorem resetTo_filter : (resetTo role rate desc s).filter i = (s.filter i).afresh := Vector.getElem_map ..

@[simp] theorem resetTo_slot : (resetTo role rate desc s).slot i = .reset := Vector.getElem_replicate ..

@[simp] theorem resetTo_target : (resetTo role rate desc s).target i = .reset := Vector.getElem_replicate ..

@[simp] theorem resetTo_pwrLine : (resetTo role rate desc s).pwrLine i = false := Vector.getElem_replicate ..

@[simp] theorem resetTo_dl (p : DPort) :
    (resetTo role rate desc s).dl p = { DLink.reset with filter := (s.dl p).filter.afresh } := by
  cases p
  case d1 => rfl
  case d2 => rfl

/-- What the statements ask of both resets. The slots, filters, targets, PWR lines and D ports are vectors or chosen by
number and have their rules above; every other part of the state is stored as it is in `State.reset`. -/
theorem resetFrom_resetTo : s.resetFrom (resetTo role rate desc s) := by
  have uFilter : Filter.restarted s.u.filter (resetTo role rate desc s).u.filter := Filter.restarted_afresh _
  refine ⟨fun i => ?filter, resetTo_slot role rate desc s, rfl, fun i => ?target, rfl, rfl, rfl,
    resetTo_pwrLine role rate desc s, rfl, rfl, rfl, uFilter, rfl, rfl, rfl, rfl, rfl, rfl, rfl, rfl, rfl, rfl, rfl, rfl,
    rfl, fun p => ?port, rfl, rfl, rfl, rfl, rfl, rfl, rfl, rfl, rfl, rfl, rfl, rfl⟩
  case filter => rw [resetTo_filter]; exact Filter.restarted_afresh _
  case target => rw [resetTo_target]; exact ⟨rfl, rfl, rfl⟩
  case port => rw [resetTo_dl]; exact ⟨Filter.restarted_afresh _, rfl⟩

end

/-! ### The descriptor store of a reset (R91, R92) -/

/-- A copy with nothing listed is as hardware reset leaves it (R91). -/
theorem Memory.blank_nil : Memory.blank [] := fun _ _ => rfl

/-- KEEP_DESCRIPTOR keeps staging, the live pointer and the live bank; the other bank is blank, and no commit runs (R92). -/
theorem Desc.kept_keeps (d : Desc) :
    d.kept.staging = d.staging ∧ d.kept.live = d.live ∧ d.kept.liveBank = d.liveBank ∧
      (d.kept.bank d.live.other).blank ∧ d.kept.commit = none := by
  obtain ⟨staging, bank0, bank1, live, commit⟩ := d
  cases live
  case bank0 => exact ⟨rfl, rfl, rfl, Memory.blank_nil, rfl⟩
  case bank1 => exact ⟨rfl, rfl, rfl, Memory.blank_nil, rfl⟩

/-- The descriptor store that a soft reset leaves, as the statements put it. -/
theorem softReset_desc (keep : Bool) (s : State) :
    (softReset keep s).desc.commit = none ∧
      if keep then
        (softReset keep s).desc.staging = s.desc.staging ∧ (softReset keep s).desc.live = s.desc.live ∧
          (softReset keep s).desc.liveBank = s.desc.liveBank ∧ ((softReset keep s).desc.bank s.desc.live.other).blank
      else (softReset keep s).desc.staging.blank ∧ (softReset keep s).desc.bank0.blank ∧
        (softReset keep s).desc.bank1.blank ∧ (softReset keep s).desc.live = .bank0 := by
  cases keep
  case false => exact ⟨rfl, Memory.blank_nil, Memory.blank_nil, Memory.blank_nil, rfl⟩
  case true =>
    obtain ⟨staging, live, liveBank, other, commit⟩ := s.desc.kept_keeps
    exact ⟨commit, staging, live, liveBank, other⟩

/-! ### The line rate (R157) -/

/-- The rate of the RATE straps, as the statement writes it. -/
theorem baud_eq_table (r : Rate) :
    Rate.baud r =
      if r.first then (if r.second then 921600 else 460800) else if r.second then 230400 else 115200 := by
  obtain ⟨first, second⟩ := r
  cases first <;> cases second <;> rfl

/-! ### When a soft reset begins (R170) -/

/-- A happening in which a soft reset falls due leaves the state that the reset leaves (log 18). -/
theorem happen_resetDue {f : Hap → Hap} {s : State} {keep : Bool}
    (due : f (Hap.start s) = { Hap.start s with resetDue := some keep }) :
    happen f s = .next (softReset keep s) := by
  rw [happen, due]; rfl

/-- The host transmitter has sent the reply to a PART RESET. -/
theorem exec_hostFrameSent_resets {s : State} {x : SendItem} {keep : Bool} (sent : s.host.cur = some x)
    (resets : x.resets = some keep) : exec .hostFrameSent s = .next (softReset keep s) := by
  have due : hostFrameOut (Hap.start s) = { Hap.start s with resetDue := some keep } := by
    have cur : (Hap.start s).host.cur = some x := sent
    simp only [hostFrameOut, cur, resets]
  exact happen_resetDue due

/-- U has sent the reply to a forwarded PART RESET. -/
theorem exec_linkFrameSent_resets {s : State} {x : TxFrame} {keep : Bool} (sent : s.u.tx.cur = some x)
    (resets : x.resets = some keep) : exec (.linkFrameSent .u) s = .next (softReset keep s) := by
  have due : linkFrameOut .u (Hap.start s) = { Hap.start s with resetDue := some keep } := by
    have cur : (Hap.start s).u.tx.cur = some x := sent
    simp only [linkFrameOut, frameSentU, cur, resets]
  exact happen_resetDue due

/-- Settles O2: both resets are `resetTo`, the hardware reset at once and the soft reset at the end of the happening in
which the marked frame has been sent. -/
theorem resetsLeaveTheResetValues : Obligations.ResetsLeaveTheResetValues := by
  unfold Obligations.ResetsLeaveTheResetValues
  refine ⟨fun role rate s => ?hardware, fun c keep s marked => ?soft⟩
  case hardware =>
    exact ⟨hardReset role rate s, rfl, resetFrom_resetTo .., rfl, rfl, baud_eq_table rate, Memory.blank_nil,
      Memory.blank_nil, Memory.blank_nil, rfl, rfl⟩
  case soft =>
    have begins : exec c s = .next (softReset keep s) := by
      rcases marked with ⟨rfl, x, sent, resets⟩ | ⟨rfl, x, sent, resets⟩
      · exact exec_hostFrameSent_resets sent resets
      · exact exec_linkFrameSent_resets sent resets
    exact ⟨softReset keep s, begins, resetFrom_resetTo .., rfl, rfl, rfl, softReset_desc keep s⟩

end Sys2Proof.Machine
end

section
/-! PROOF. What every operation keeps. `Moves L h h'` says that going from `h` to `h'` leaves every part outside `L` as it
was, and keeps the three invariants of the statements (R73, R74 and R91; the sizes; the budget law). Each operation of the
model has one such lemma, assembled from those of the operations it calls. -/

namespace Sys2Proof.Machine

/-! ### The parts of a state, and what a move keeps -/

/-- The parts of a state that frames speak of. -/
inductive Part where
  | role | rate | rack | rescan | pending
  | slot (i : SlotId) | filter (i : SlotId) | target (i : SlotId)
  | copies | commit | ops
  | hostRx | hostBuffer | hostMemory | hostOut
  | units | waiting
  | keys | entries | markers | flags
  | queue | localConds | remoteConds | reported | kinds
  | uFilter | uRx | uLoss | uTier | uState | uOut | uDump | uDeltas
  | port (p : DPort)
  | resetDue

/-- A part is the same in two happenings. -/
def Part.same (h h' : Hap) : Part → Prop
  | .role => h'.role = h.role
  | .rate => h'.rate = h.rate
  | .rack => h'.rack = h.rack
  | .rescan => h'.rescan = h.rescan
  | .pending => h'.pending = h.pending
  | .slot i => h'.slot i = h.slot i
  | .filter i => h'.filter i = h.filter i
  | .target i => h'.target i = h.target i
  | .copies => (h'.desc.staging, h'.desc.bank0, h'.desc.bank1, h'.desc.live) =
      (h.desc.staging, h.desc.bank0, h.desc.bank1, h.desc.live)
  | .commit => h'.desc.commit = h.desc.commit
  | .ops => h'.ops = h.ops
  | .hostRx => h'.host.rx = h.host.rx
  | .hostBuffer => h'.host.buffer = h.host.buffer
  | .hostMemory => h'.host.memory = h.host.memory
  | .hostOut => (h'.host.cur, h'.host.sendList) = (h.host.cur, h.host.sendList)
  | .units => h'.budget.units = h.budget.units
  | .waiting => (h'.budget.waiting, h'.budget.pwr) = (h.budget.waiting, h.budget.pwr)
  | .keys => (h'.roster.keys, h'.roster.joinCounter) = (h.roster.keys, h.roster.joinCounter)
  | .entries => (h'.roster.entries, h'.roster.joinCounter) = (h.roster.entries, h.roster.joinCounter)
  | .markers => (h'.roster.marker1, h'.roster.marker2) = (h.roster.marker1, h.roster.marker2)
  | .flags => (h'.roster.flags, h'.roster.generation) = (h.roster.flags, h.roster.generation)
  | .queue => (h'.ev.queue, h'.ev.counter, h'.ev.lost, h'.ev.announced, h'.ev.inFlight, h'.ev.retransmit) =
      (h.ev.queue, h.ev.counter, h.ev.lost, h.ev.announced, h.ev.inFlight, h.ev.retransmit)
  | .localConds => h'.ev.localConds = h.ev.localConds
  | .remoteConds => h'.ev.remoteConds = h.ev.remoteConds
  | .reported => h'.ev.reported = h.ev.reported
  | .kinds => h'.ev.kinds = h.ev.kinds
  | .uFilter => h'.u.filter = h.u.filter
  | .uRx => h'.u.rx = h.u.rx
  | .uLoss => h'.u.loss = h.u.loss
  | .uTier => (h'.u.recTier, h'.u.recPath, h'.u.tierKnown) = (h.u.recTier, h.u.recPath, h.u.tierKnown)
  | .uState => h'.u.state = h.u.state
  | .uOut => (h'.u.tx, h'.u.keepalive) = (h.u.tx, h.u.keepalive)
  | .uDump => (h'.u.dumpPhase, h'.u.dumpCause, h'.u.dumpList, h'.u.cursor, h'.u.ackTimer) =
      (h.u.dumpPhase, h.u.dumpCause, h.u.dumpList, h.u.cursor, h.u.ackTimer)
  | .uDeltas => (h'.u.deltas, h'.u.nextSeq, h'.u.retransmit) = (h.u.deltas, h.u.nextSeq, h.u.retransmit)
  | .port p => h'.dl p = h.dl p
  | .resetDue => h'.resetDue = h.resetDue

theorem Part.same_refl (h : Hap) (x : Part) : x.same h h := by cases x <;> exact rfl

theorem Part.same_trans {h h' h'' : Hap} {x : Part} (a : x.same h h') (b : x.same h' h'') : x.same h h'' := by
  cases x <;> exact Eq.trans (b := _) b a

/-- The event unit's share of the sizes: the queue, the remote condition set, and the pending records told apart. -/
def EventUnit.sound (ev : EventUnit) : Prop :=
  ev.queue.length ≤ queueSize ∧ ev.remoteConds.length ≤ remoteSize ∧ ev.distinct

/-- The roster's share of the sizes inside a happening: a refused marker may stand over a roster with room where the roster
has changed, since the end of the happening clears it then (R137). -/
def Roster.sound (r : Roster) (dirty : Bool) : Prop :=
  r.entries.length ≤ rosterCapacity ∧
    (r.marker1 = true ∨ r.marker2 = true → r.entries.length = rosterCapacity ∨ dirty = true)

/-- The sizes inside a happening. -/
structure Hap.sizesSound (h : Hap) : Prop where
  roster : h.roster.sound h.dirty
  units : h.budget.units ≤ 80
  deltas : h.u.deltas.length ≤ deltaQueueSize
  ev : h.ev.sound
  buffer : h.host.buffer.length ≤ bufferSize
  ops : h.ops.entries.length ≤ opTableSize
  opIds : h.ops.sound

/-- The descriptor's copies as the statements want them. -/
def Desc.sound (d : Desc) : Prop := d.canonical = true ∧ d.partBytes

/-- Going from one happening to another changes the parts in `L` alone, and keeps the invariants. -/
structure Moves (L : Part → Bool) (h h' : Hap) : Prop where
  frame : ∀ x, L x = false → x.same h h'
  copies : h.desc.sound → h'.desc.sound
  sizes : h.sizesSound → h'.sizesSound
  law : h.toState.budgetLaw → h'.toState.budgetLaw

theorem Moves.refl (L : Part → Bool) (h : Hap) : Moves L h h := ⟨fun x _ => Part.same_refl h x, id, id, id⟩

theorem Moves.trans {L : Part → Bool} {h h' h'' : Hap} (a : Moves L h h') (b : Moves L h' h'') : Moves L h h'' :=
  ⟨fun x hx => Part.same_trans (a.frame x hx) (b.frame x hx), b.copies ∘ a.copies, b.sizes ∘ a.sizes, b.law ∘ a.law⟩

theorem Moves.mono {L M : Part → Bool} {h h' : Hap} (a : Moves L h h') (sub : ∀ x, L x = true → M x = true) :
    Moves M h h' := by
  refine ⟨fun x hx => a.frame x ?_, a.copies, a.sizes, a.law⟩
  cases hl : L x with
  | false => rfl
  | true => rw [sub x hl] at hx; cases hx

/-- Every part may change. -/
def everything : Part → Bool := fun _ => true

theorem Moves.any {L : Part → Bool} {h h' : Hap} (a : Moves L h h') : Moves everything h h' := a.mono fun _ _ => rfl

/-- A choice between two moves. -/
theorem Moves.ite {L : Part → Bool} {h a b : Hap} {c : Prop} [Decidable c] (ha : c → Moves L h a) (hb : ¬ c → Moves L h b) :
    Moves L h (if c then a else b) := by
  split
  · next hc => exact ha hc
  · next hc => exact hb hc

/-- A move that goes on where a condition fails. -/
theorem Moves.unless {L : Part → Bool} {h a b : Hap} {c : Prop} [Decidable c] (m : Moves L h a) (n : ¬ c → Moves L a b) :
    Moves L h (if c then a else b) := m.trans (Moves.ite (fun _ => Moves.refl L a) n)

/-- A move that goes on where a condition holds. -/
theorem Moves.when {L : Part → Bool} {h a b : Hap} {c : Prop} [Decidable c] (m : Moves L h b) (n : c → Moves L b a) :
    Moves L h (if c then a else b) := m.trans (Moves.ite n fun _ => Moves.refl L b)

/-- A fold of moves is a move. -/
theorem Moves.foldl {L : Part → Bool} {β : Type} {f : Hap → β → Hap} (hf : ∀ h b, Moves L h (f h b)) :
    ∀ (bs : List β) (h : Hap), Moves L h (bs.foldl f h)
  | [], h => Moves.refl L h
  | b :: t, h => (hf h b).trans (Moves.foldl hf t (f h b))

/-- The parts that the invariants speak of. -/
def Part.judged : Part → Bool
  | .copies | .ops | .hostBuffer | .units | .waiting | .entries | .markers | .queue | .remoteConds | .uDeltas => true
  | _ => false

/-- The budget law speaks of the roster's entries and of the budget unit. -/
theorem budgetLaw_congr {s t : State} (entries : t.roster.entries = s.roster.entries) (budget : t.budget = s.budget)
    (law : s.budgetLaw) : t.budgetLaw := by
  simp only [State.budgetLaw, State.localEntry, State.slotGrant, State.pwrLine] at law ⊢
  rw [entries, budget]
  exact law

/-- A move that leaves the judged parts alone keeps the invariants. -/
theorem Moves.unjudged {L : Part → Bool} {h h' : Hap} (same : ∀ x, L x = false ∨ x.judged = true → x.same h h')
    (dirty : h.dirty = true → h'.dirty = true) : Moves L h h' := by
  have copies : Part.same h h' .copies := same _ (.inr rfl)
  have ops : Part.same h h' .ops := same _ (.inr rfl)
  have buffer : Part.same h h' .hostBuffer := same _ (.inr rfl)
  have units : Part.same h h' .units := same _ (.inr rfl)
  have waiting : Part.same h h' .waiting := same _ (.inr rfl)
  have entries : Part.same h h' .entries := same _ (.inr rfl)
  have markers : Part.same h h' .markers := same _ (.inr rfl)
  have queue : Part.same h h' .queue := same _ (.inr rfl)
  have remote : Part.same h h' .remoteConds := same _ (.inr rfl)
  have deltas : Part.same h h' .uDeltas := same _ (.inr rfl)
  simp only [Part.same, Prod.mk.injEq] at copies ops buffer units waiting entries markers queue remote deltas
  refine ⟨fun x hx => same x (.inl hx), fun c => ?_, fun z => ?_, fun l => ?_⟩
  · simpa only [Desc.sound, Desc.canonical, Desc.partBytes, copies] using c
  · obtain ⟨⟨size, full⟩, hu, hd, ⟨q, r, dis⟩, hb, ho, hi⟩ := z
    refine ⟨⟨entries.1 ▸ size, fun m => ?_⟩, units ▸ hu, deltas.1 ▸ hd, ⟨queue.1 ▸ q, remote ▸ r, ?_⟩, buffer ▸ hb, ops ▸ ho,
      ops ▸ hi⟩
    · rw [markers.1, markers.2] at m
      rw [entries.1]
      exact (full m).imp_right dirty
    · simpa only [EventUnit.distinct, queue.1] using dis
  · refine budgetLaw_congr entries.1 ?_ l
    have : ∀ b : Budget, b = ⟨b.units, b.waiting, b.pwr⟩ := fun _ => rfl
    rw [this h'.budget, this h.budget, units, waiting.1, waiting.2]

/-! ### Sets of parts -/

/-- What raised events and local conditions change. -/
def evParts : Part → Bool
  | .queue | .localConds | .reported => true
  | _ => false

/-- What the roster and the budget unit change for a local entry: the entries, the grants and the event unit. -/
def calmParts : Part → Bool
  | .queue | .localConds | .reported | .entries | .waiting => true
  | _ => false

/-- What a happening of one slot changes. -/
def slotParts (i : SlotId) : Part → Bool
  | .queue | .localConds | .reported | .keys | .entries | .waiting | .commit | .ops => true
  | .slot j | .filter j | .target j => decide (j = i)
  | _ => false

/-- What the roster changes for a remote entry it removes. -/
def rosterParts : Part → Bool
  | .keys => true
  | x => calmParts x

/-- What the roster changes for a remote record: the refused markers too. -/
def storeParts : Part → Bool
  | .markers => true
  | x => rosterParts x

/-- What a D port's sync, deltas and events change. -/
def portParts (p : DPort) : Part → Bool
  | .queue | .localConds | .reported | .remoteConds | .keys | .entries | .waiting | .markers | .ops | .rescan => true
  | .port q => decide (q = p)
  | _ => false

/-- What the links and their teardown change. -/
def linkParts : Part → Bool
  | .role | .rate | .rack | .pending | .slot _ | .filter _ | .target _ | .copies | .commit | .hostRx | .hostBuffer | .units
  | .kinds => false
  | _ => true

/-- What the end of a happening changes behind overflow recovery. -/
def lateParts : Part → Bool
  | .queue | .localConds | .reported | .flags | .hostOut | .uState | .uOut | .uDump | .uDeltas => true
  | _ => false

/-- What the end of a happening changes. -/
def endParts : Part → Bool
  | .queue | .localConds | .reported | .entries | .waiting | .markers | .flags | .hostOut | .uState | .uOut | .uDump
  | .uDeltas | .port _ => true
  | _ => false

theorem Moves.calm {h h' : Hap} (m : Moves evParts h h') : Moves calmParts h h' :=
  m.mono fun x => by cases x <;> first | exact id | exact fun _ => rfl

theorem Moves.slot {h h' : Hap} (i : SlotId) (m : Moves calmParts h h') : Moves (slotParts i) h h' :=
  m.mono fun x => by cases x <;> first | exact id | exact fun _ => rfl | exact nofun

theorem Moves.atPort {h h' : Hap} (p : DPort) (m : Moves calmParts h h') : Moves (portParts p) h h' :=
  m.mono fun x => by cases x <;> first | exact id | exact fun _ => rfl | exact nofun

theorem Moves.atRoster {h h' : Hap} (m : Moves calmParts h h') : Moves rosterParts h h' :=
  m.mono fun x => by cases x <;> first | exact id | exact fun _ => rfl

theorem Moves.store {h h' : Hap} (m : Moves rosterParts h h') : Moves storeParts h h' :=
  m.mono fun x => by cases x <;> first | exact id | exact fun _ => rfl

theorem Moves.stored {h h' : Hap} (p : DPort) (m : Moves storeParts h h') : Moves (portParts p) h h' :=
  m.mono fun x => by cases x <;> first | exact id | exact fun _ => rfl | exact nofun

theorem Moves.link {h h' : Hap} {p : DPort} (m : Moves (portParts p) h h') : Moves linkParts h h' :=
  m.mono fun x => by cases x <;> first | exact id | exact fun _ => rfl

theorem Moves.calmLink {h h' : Hap} (m : Moves calmParts h h') : Moves linkParts h h' :=
  m.mono fun x => by cases x <;> first | exact id | exact fun _ => rfl

theorem Moves.calmEnd {h h' : Hap} (m : Moves calmParts h h') : Moves endParts h h' :=
  m.mono fun x => by cases x <;> first | exact id | exact fun _ => rfl

theorem Moves.late {h h' : Hap} (m : Moves lateParts h h') : Moves endParts h h' :=
  m.mono fun x => by cases x <;> first | exact id | exact fun _ => rfl

theorem Moves.endLink {h h' : Hap} (m : Moves endParts h h') : Moves linkParts h h' :=
  m.mono fun x => by cases x <;> first | exact id | exact fun _ => rfl

/-! ### The named writes -/

section
variable {L : Part → Bool} {i : SlotId} {p : DPort} (h : Hap)

/-- A change of the scratch alone changes no part. -/
theorem moves_scratch {h h' : Hap} (state : h'.toState = h.toState) (reset : h'.resetDue = h.resetDue)
    (dirty : h.dirty = true → h'.dirty = true) : Moves L h h' := by
  obtain ⟨s, _⟩ := h
  obtain ⟨s', _⟩ := h'
  subst state
  obtain rfl : _ = _ := reset
  refine ⟨fun x _ => by cases x <;> exact rfl, id, fun z => ?_, id⟩
  exact ⟨⟨z.roster.1, fun m => (z.roster.2 m).imp_right dirty⟩, z.units, z.deltas, z.ev, z.buffer, z.ops, z.opIds⟩

theorem moves_setSlot (x : Slot) : Moves (slotParts i) h (h.setSlot i x) := by
  refine ⟨fun y hy => ?_, id, fun z => ⟨z.roster, z.units, z.deltas, z.ev, z.buffer, z.ops, z.opIds⟩, id⟩
  cases y <;> try exact rfl
  case slot j =>
    have : i ≠ j := fun e => of_decide_eq_false hy e.symm
    exact setSlot_slot_ne x this

theorem moves_setFilter (x : Filter) : Moves (slotParts i) h (h.setFilter i x) := by
  refine ⟨fun y hy => ?_, id, fun z => ⟨z.roster, z.units, z.deltas, z.ev, z.buffer, z.ops, z.opIds⟩, id⟩
  cases y <;> try exact rfl
  case filter j =>
    have e' : i.val ≠ j.val := fun e => of_decide_eq_false hy (Fin.ext e).symm
    exact Vector.getElem_set_ne i.isLt j.isLt e'

theorem moves_setTarget (x : Target) : Moves (slotParts i) h (h.setTarget i x) := by
  refine ⟨fun y hy => ?_, id, fun z => ⟨z.roster, z.units, z.deltas, z.ev, z.buffer, z.ops, z.opIds⟩, id⟩
  cases y <;> try exact rfl
  case target j =>
    have e' : i.val ≠ j.val := fun e => of_decide_eq_false hy (Fin.ext e).symm
    exact Vector.getElem_set_ne i.isLt j.isLt e'

theorem moves_setCommit (c : Option Commit) : Moves (slotParts i) h { h with desc := { h.desc with commit := c } } := by
  refine ⟨fun y hy => ?_, fun c => ⟨c.1, c.2⟩, fun z => ⟨z.roster, z.units, z.deltas, z.ev, z.buffer, z.ops, z.opIds⟩, id⟩
  cases y <;> first | exact rfl | cases hy

theorem moves_setD (x : DLink) : Moves (portParts p) h (h.setD p x) := by
  refine Moves.unjudged (fun y hy => ?_) (by cases p <;> exact id)
  cases y
  case port q =>
    have : p ≠ q := fun e => hy.elim (fun out => of_decide_eq_false out e.symm) Bool.false_ne_true
    exact setD_dl_ne x this
  all_goals cases p <;> exact rfl

theorem moves_setRescan (r : Option Rescan) : Moves (portParts p) h { h with rescan := r } :=
  Moves.unjudged (fun y hy => by cases y <;> first | exact rfl | exact hy.elim nofun nofun) id

/-- A frame handed to the host transmitter. -/
theorem moves_handHost (x : SendItem) : Moves lateParts h (handHost x h) := by
  have kept : (h.host.hand x).rx = h.host.rx ∧ (h.host.hand x).buffer = h.host.buffer ∧
      (h.host.hand x).memory = h.host.memory := by
    unfold HostLink.hand
    split
    · exact ⟨rfl, rfl, rfl⟩
    · split <;> exact ⟨rfl, rfl, rfl⟩
  refine Moves.unjudged (fun y hy => ?_) id
  cases y
  case hostRx => exact kept.1
  case hostBuffer => exact kept.2.1
  case hostMemory => exact kept.2.2
  all_goals first | exact rfl | exact hy.elim nofun nofun

/-- A frame handed to U. -/
theorem moves_sendUMarked (m : LinkMsg) (r : Option Bool) : Moves lateParts h (sendUMarked m r h) :=
  Moves.unjudged (fun y hy => by cases y <;> first | exact rfl | exact hy.elim nofun nofun) id

theorem moves_sendU (m : LinkMsg) : Moves lateParts h (sendU m h) := moves_sendUMarked h m none

/-- A frame handed to a D port. -/
theorem moves_sendD (m : LinkMsg) : Moves (portParts p) h (sendD p m h) := moves_setD h _

end

/-! ### The operation table (R167, R168) -/

/-- The op ids from a value on, `n` of them. -/
def opsFrom : Nat → Byte → List Byte
  | 0, _ => []
  | n + 1, b => b :: opsFrom n (nextByte b)

theorem nextByte_ne_zero (b : Byte) : nextByte b ≠ 0 := by
  unfold nextByte
  split
  · decide
  · next h => bv_omega

/-- Five op ids in a row are distinct. -/
theorem opsFrom_five_nodup : ∀ b : Byte, b ≠ 0 → (opsFrom 5 b).Nodup := by
  intro b hb
  have pos : 0 < b.toNat := Nat.pos_of_ne_zero fun e => hb (BitVec.eq_of_toNat_eq e)
  have next : ∀ c : Byte, (nextByte c).toNat = if c.toNat = 255 then 1 else c.toNat + 1 := by
    intro c
    unfold nextByte
    split <;> split <;> bv_omega
  have lt := b.isLt
  refine List.Nodup.of_map BitVec.toNat ?_
  simp only [opsFrom, List.map_cons, List.map_nil, next, List.nodup_cons, List.mem_cons, List.not_mem_nil, or_false, not_or,
    not_false_eq_true, List.nodup_nil, and_true]
  generalize b.toNat = n at pos lt
  split_ifs <;> omega

/-- The op id found is the first of the run that is not in use, if the run holds one. -/
theorem freeOp_spec (used : List Byte) : ∀ (n : Nat) (b : Byte), b ≠ 0 →
    freeOp used n b ≠ 0 ∧ (freeOp used n b ∈ used → ∀ x ∈ opsFrom (n + 1) b, x ∈ used)
  | 0, b, hb => ⟨hb, fun m => by simpa [freeOp, opsFrom] using m⟩
  | n + 1, b, hb => by
    unfold freeOp
    split
    · next hc =>
      have ⟨nz, all⟩ := freeOp_spec used n (nextByte b) (nextByte_ne_zero b)
      refine ⟨nz, fun m x hx => ?_⟩
      rcases List.mem_cons.mp hx with rfl | hx
      · simpa using hc
      · exact all m x hx
    · next hc => exact ⟨hb, fun m => absurd m (by simpa using hc)⟩

/-- With a free entry the next op id is one that is not in use (R167). -/
theorem nextOp_fresh {t : OpTable} (free : t.entries.length < opTableSize) (counter : t.counter ≠ 0) :
    t.nextOp ≠ 0 ∧ t.nextOp ∉ t.ids := by
  have ⟨nz, all⟩ := freeOp_spec t.ids opTableSize t.counter counter
  refine ⟨nz, fun m => ?_⟩
  have sub : opsFrom 5 t.counter ⊆ t.ids := fun x hx => all m x hx
  have len := (opsFrom_five_nodup _ counter).length_le_of_subset sub
  have : (opsFrom 5 t.counter).length = 5 := rfl
  simp only [OpTable.ids, List.length_map, opTableSize] at len free
  omega

/-- A taken operation keeps the table sound. -/
theorem take_sound {t : OpTable} (kind : OpKind) (o : Origin) (port : Option DPort) (timer : Timer) (free : t.free = true)
    (sound : t.sound) : (t.take kind o port timer).sound := by
  have free : t.entries.length < opTableSize := by simpa [OpTable.free] using free
  obtain ⟨nodup, zero, counter⟩ := sound
  have ⟨nz, fresh⟩ := nextOp_fresh free counter
  refine ⟨?_, ?_, nextByte_ne_zero _⟩
  · simp only [OpTable.ids] at nodup fresh ⊢
    simp only [OpTable.take, List.map_append, List.map_cons, List.map_nil, List.nodup_append]
    refine ⟨nodup, by simp, ?_⟩
    intro a ha b hb e
    simp only [List.mem_singleton] at hb
    exact fresh (hb ▸ e ▸ ha)
  · simp only [OpTable.ids, OpTable.take, List.map_append, List.mem_append, List.map_cons, List.map_nil, List.mem_singleton]
    exact fun m => m.elim zero fun e => nz e.symm

/-- Entries taken out leave the table sound. -/
theorem OpTable.sound_filter {t : OpTable} (q : OpEntry → Bool) (sound : t.sound) :
    OpTable.sound { t with entries := t.entries.filter q } := by
  obtain ⟨nodup, zero, counter⟩ := sound
  have sub : (OpTable.ids { t with entries := t.entries.filter q }).Sublist t.ids := List.filter_sublist.map _
  exact ⟨nodup.sublist sub, fun m => zero (sub.subset m), counter⟩

section
variable {L : Part → Bool} {i : SlotId} {p : DPort} (h : Hap)

theorem moves_take (kind : OpKind) (o : Origin) (port : Option DPort) (timer : Timer) (free : h.ops.free = true) :
    Moves (portParts p) h { h with ops := h.ops.take kind o port timer } := by
  refine ⟨fun y hy => ?_, id, fun z => ?_, id⟩
  · cases y <;> first | exact rfl | cases hy
  · refine ⟨z.roster, z.units, z.deltas, z.ev, z.buffer, ?_, take_sound kind o port timer free z.opIds⟩
    have : h.ops.entries.length < opTableSize := by simpa [OpTable.free] using free
    simp only [OpTable.take, List.length_append, List.length_singleton]
    omega

theorem moves_takeSlot (kind : OpKind) (o : Origin) (free : h.ops.free = true) :
    Moves (slotParts i) h { h with ops := h.ops.take kind o none none } := by
  have m := moves_take (p := .d1) h kind o none none free
  exact ⟨fun y hy => by (cases y <;> first | exact rfl | cases hy), m.copies, m.sizes, m.law⟩

theorem moves_filterOps (q : OpEntry → Bool) (ops : L .ops = true) :
    Moves L h { h with ops := { h.ops with entries := h.ops.entries.filter q } } := by
  refine ⟨fun y hy => ?_, id, fun z => ?_, id⟩
  · cases y <;> first | exact rfl | exact absurd (hy.symm.trans ops) Bool.false_ne_true
  · exact ⟨z.roster, z.units, z.deltas, z.ev, z.buffer, (List.length_filter_le ..).trans z.ops, OpTable.sound_filter q z.opIds⟩

theorem moves_freeOpEntry (op : Byte) (ops : L .ops = true) : Moves L h (freeOpEntry op h) := moves_filterOps h _ ops

end

end Sys2Proof.Machine
end

section
/-! PROOF. What the event unit's operations keep (R140 to R155). -/

namespace Sys2Proof.Machine

/-! ### The records in the queue -/

/-- What tells pending records apart (R145). -/
def EvRecord.what (r : EvRecord) : EvKind × Locus := (r.kind, r.locus)

theorem EvRecord.stands_iff {k : EvKind} {l : Locus} {r : EvRecord} : r.stands k l = true ↔ r.what = (k, l) := by
  simp [EvRecord.stands, EvRecord.what]

theorem EventUnit.isPending_eq_false {ev : EventUnit} {k : EvKind} {l : Locus} :
    ev.isPending k l = false ↔ (k, l) ∉ ev.queue.map EvRecord.what := by
  simp only [EventUnit.isPending, List.any_eq_false, List.mem_map, not_exists, not_and]
  exact forall₂_congr fun r _ => EvRecord.stands_iff.not

/-- A queue that keeps some of what was pending, and a remote condition set that has not grown. -/
theorem EventUnit.sound_of_sublist {ev ev' : EventUnit}
    (queue : (ev'.queue.map EvRecord.what).Sublist (ev.queue.map EvRecord.what))
    (remote : ev'.remoteConds.length ≤ ev.remoteConds.length) (sound : ev.sound) : ev'.sound := by
  obtain ⟨q, r, distinct⟩ := sound
  have len := queue.length_le
  simp only [List.length_map] at len
  exact ⟨len.trans q, remote.trans r, List.Nodup.sublist queue distinct⟩

/-- A record of something not pending enters a queue with room. -/
theorem EventUnit.sound_push {ev : EventUnit} {o : Occ} (p : Fin 4) (room : ev.queue.length < queueSize)
    (fresh : ev.isPending o.kind o.locus = false) (sound : ev.sound) : (ev.push o p).sound := by
  obtain ⟨_, r, distinct⟩ := sound
  rw [isPending_eq_false] at fresh
  refine ⟨by simpa [EventUnit.push] using room, r, ?_⟩
  simp only [EventUnit.distinct, EventUnit.push, List.map_append, List.map_cons, List.map_nil, List.nodup_append]
  refine ⟨distinct, by simp, fun a ha b hb e => ?_⟩
  rw [List.mem_singleton] at hb
  exact fresh (hb ▸ e ▸ ha)

theorem lowestLatest_mem : ∀ {q : List EvRecord} {x : EvRecord}, lowestLatest q = some x → x ∈ q
  | [], _, e => by cases e
  | r :: t, x, e => by
    unfold lowestLatest at e
    split at e
    · cases e; exact List.mem_cons_self
    · next y hy =>
      split at e
      · cases e; exact List.mem_cons_self
      · cases e; exact List.mem_cons_of_mem _ (lowestLatest_mem hy)

/-! ### Moves of the event unit -/

section
variable {L : Part → Bool} (h : Hap)

/-- The event unit and the notes about it are changed. -/
theorem moves_ev {ev' : EventUnit} {e : List (Fin 4)} {d : Bool}
    (same : ∀ x, L x = false → x.same h { h with ev := ev', entered := e, drainDue := d })
    (sound : h.ev.sound → ev'.sound) : Moves L h { h with ev := ev', entered := e, drainDue := d } :=
  ⟨same, id, fun z => ⟨z.roster, z.units, z.deltas, sound z.ev, z.buffer, z.ops, z.opIds⟩, id⟩

/-- A change of the event unit that leaves the kinds and the remote conditions. -/
theorem moves_evParts {ev' : EventUnit} {e : List (Fin 4)} {d : Bool} (kinds : ev'.kinds = h.ev.kinds)
    (remote : ev'.remoteConds = h.ev.remoteConds) (sound : h.ev.sound → ev'.sound) :
    Moves evParts h { h with ev := ev', entered := e, drainDue := d } := by
  refine moves_ev h (fun x hx => ?_) sound
  cases x <;> first | exact rfl | exact kinds | exact remote | cases hx

/-- A change of the event unit that leaves its queue, its kinds and the remote conditions. -/
theorem moves_evNotes {ev' : EventUnit} {e : List (Fin 4)} {d : Bool} (kinds : ev'.kinds = h.ev.kinds)
    (remote : ev'.remoteConds = h.ev.remoteConds) (queue : ev'.queue = h.ev.queue) :
    Moves evParts h { h with ev := ev', entered := e, drainDue := d } :=
  moves_evParts h kinds remote (EventUnit.sound_of_sublist (by rw [queue]) (by rw [remote]))

theorem moves_enter (o : Occ) (p : Fin 4) (fresh : h.ev.isPending o.kind o.locus = false) :
    Moves evParts h (enter o p h) := by
  unfold enter
  split
  · next room => exact moves_evParts h rfl rfl (EventUnit.sound_push p room fresh)
  · split
    · exact moves_evNotes h rfl rfl rfl
    · next x hx =>
      split
      · refine moves_evParts h rfl rfl fun sound => ?_
        let q := h.ev.queue.filter fun r => decide (r.seq ≠ x.seq)
        have mem : x ∈ h.ev.queue := (List.mem_filter.mp (lowestLatest_mem hx)).1
        have shorter : q.length < h.ev.queue.length :=
          List.length_filter_lt_length_iff_exists.mpr ⟨x, mem, by simp⟩
        have sub : (q.map EvRecord.what).Sublist (h.ev.queue.map EvRecord.what) := List.filter_sublist.map _
        have kept : EventUnit.sound { h.ev with queue := q } := EventUnit.sound_of_sublist sub (Nat.le_refl _) sound
        have fresh' : EventUnit.isPending { h.ev with queue := q } o.kind o.locus = false := by
          rw [EventUnit.isPending_eq_false] at fresh ⊢
          exact fun m => fresh (sub.subset m)
        exact EventUnit.sound_push p (shorter.trans_le sound.1) fresh' kept
      · exact moves_evNotes h rfl rfl rfl

/-- A coalesced record stands for what it stood for. -/
theorem map_coalesce_what (o : Occ) (q : List EvRecord) :
    (q.map fun r => if r.stands o.kind o.locus then r.coalesce o else r).map EvRecord.what = q.map EvRecord.what := by
  rw [List.map_map]
  refine List.map_congr_left fun r _ => ?_
  simp only [Function.comp_apply]
  split <;> rfl

theorem moves_raise (o : Occ) : Moves evParts h (raise o h) := by
  unfold raise
  split
  · exact Moves.refl _ h
  · split
    · split
      · exact moves_evParts h rfl rfl
          (EventUnit.sound_of_sublist (by rw [map_coalesce_what]) (Nat.le_refl _))
      · exact Moves.refl _ h
    · next fresh => exact moves_enter h o _ (by simpa using fresh)

theorem moves_raiseLatched (k : EvKind) (l : Locus) (d : Word16) : Moves evParts h (raiseLatched k l d h) := moves_raise h _

theorem moves_withdrawClear (k : EvKind) (l : Locus) : Moves evParts h (withdrawClear k l h) :=
  Moves.ite (fun _ => Moves.refl _ h) fun _ => moves_evNotes h rfl rfl rfl

theorem moves_markEnded (k : EvKind) (l : Locus) : Moves evParts h (markEnded k l h) := by
  unfold markEnded
  split
  · exact Moves.refl _ h
  · exact Moves.ite (fun _ => Moves.refl _ h) fun _ => moves_evNotes h rfl rfl rfl

theorem moves_localConds (cs : List CondId) : Moves evParts h { h with ev := { h.ev with localConds := cs } } :=
  moves_evNotes h rfl rfl rfl

theorem moves_beginCond (k : EvKind) (l : Locus) : Moves evParts h (beginCond k l h) :=
  Moves.ite (fun _ => Moves.refl _ h) fun _ =>
    (moves_localConds h _).trans (Moves.ite (fun _ => Moves.refl _ _) fun _ =>
      (moves_withdrawClear _ k l).trans (moves_raise _ _))

theorem moves_endCond (k : EvKind) (l : Locus) : Moves evParts h (endCond k l h) :=
  Moves.ite
    (fun _ => (moves_localConds h _).trans (Moves.ite (fun _ => Moves.refl _ _) fun _ => moves_markEnded _ k l))
    fun _ => Moves.refl _ h

theorem moves_setCond (k : EvKind) (l : Locus) (b : Bool) : Moves evParts h (setCond k l b h) :=
  Moves.ite (fun _ => moves_beginCond h k l) fun _ => moves_endCond h k l

theorem moves_requeue (k : EvKind) (l : Locus) : Moves evParts h (requeue k l h) := moves_raise h _

theorem moves_fetchEffect : Moves evParts h (fetchEffect h) := moves_evNotes h rfl rfl rfl

theorem moves_ackEffect (seqs : List Word16) : Moves evParts h (ackEffect seqs h) := by
  have removed : Moves evParts h { h with
      ev := { h.ev with queue := h.ev.queue.filter fun r => !(seqs.contains r.seq) }, drainDue := true } :=
    moves_evParts h rfl rfl (EventUnit.sound_of_sublist (List.filter_sublist.map _) (Nat.le_refl _))
  exact removed.trans (Moves.foldl (fun h r => Moves.ite (fun _ => moves_requeue h _ _) fun _ => Moves.refl _ h) _ _)

theorem dropFlightOf_same (k : EvKind) (ev : EventUnit) :
    (dropFlightOf k ev).queue = ev.queue ∧ (dropFlightOf k ev).remoteConds = ev.remoteConds ∧
      (dropFlightOf k ev).kinds = ev.kinds := by
  unfold dropFlightOf
  split
  · split <;> exact ⟨rfl, rfl, rfl⟩
  · exact ⟨rfl, rfl, rfl⟩
  · exact ⟨rfl, rfl, rfl⟩

theorem moves_setupEffect (k : EvKind) (v : Option (Fin 4)) : Moves everything h (setupEffect k v h) := by
  unfold setupEffect
  cases v with
  | none =>
    refine moves_ev h (fun x hx => by cases hx) fun sound => ?_
    have ⟨q, r, _⟩ := dropFlightOf_same k { h.ev with
      kinds := h.ev.kinds.set (kindIndex k) none, queue := h.ev.queue.filter fun r => decide (r.kind ≠ k) }
    exact EventUnit.sound_of_sublist (by rw [q]; exact List.filter_sublist.map _) (by rw [r]) sound
  | some p =>
    have given : (h.ev.queue.map fun r => if r.kind = k then { r with priority := p } else r).map EvRecord.what =
        h.ev.queue.map EvRecord.what := by
      rw [List.map_map]
      refine List.map_congr_left fun r _ => ?_
      simp only [Function.comp_apply]
      split <;> rfl
    have stored : Moves everything h { h with ev := { h.ev with
        kinds := h.ev.kinds.set (kindIndex k) (some p),
        queue := h.ev.queue.map fun r => if r.kind = k then { r with priority := p } else r } } :=
      moves_ev h (fun x hx => by cases hx) (EventUnit.sound_of_sublist (by rw [given]) (Nat.le_refl _))
    refine stored.trans (Moves.ite (fun _ => ?_) fun _ => Moves.refl _ _)
    exact Moves.foldl (fun h c => Moves.ite (fun _ => Moves.refl _ h) fun _ => (moves_requeue h _ _).any) _ _

theorem moves_queueHolding : Moves evParts h (queueHolding h) :=
  Moves.foldl (fun h _ => Moves.foldl (fun h _ => moves_requeue h _ _) _ h) _ h

theorem moves_queueOddHolding : Moves evParts h (queueOddHolding h) :=
  Moves.foldl (fun h _ => Moves.foldl (fun h _ => moves_requeue h _ _) _ h) _ h

theorem moves_dropDrain : Moves evParts h (dropDrain h) := moves_evNotes h rfl rfl rfl

theorem moves_reportCondition (r : EvRecord) : Moves evParts h (reportCondition r h) := moves_evNotes h rfl rfl rfl

theorem moves_ackClear (k : EvKind) (l : Locus) : Moves evParts h (ackClear k l h) := moves_evNotes h rfl rfl rfl

theorem moves_ackRecord (e : EventUp) : Moves evParts h (ackRecord e h) := by
  have dropped : Moves evParts h { h with ev := { h.ev with inFlight := none, retransmit := none }, drainDue := true } :=
    moves_evNotes h rfl rfl rfl
  unfold ackRecord
  refine dropped.trans ?_
  simp only
  split
  · exact Moves.refl _ _
  · next r _ =>
    split
    · have removed : Moves evParts _ { h with drainDue := true, ev := { h.ev with
          inFlight := none, retransmit := none, queue := h.ev.queue.filter fun x => decide (x.seq ≠ e.seq) } } :=
        moves_evParts { h with ev := { h.ev with inFlight := none, retransmit := none }, drainDue := true } rfl rfl
          (EventUnit.sound_of_sublist (List.filter_sublist.map _) (Nat.le_refl _))
      refine removed.trans ?_
      cases r.style with
      | condition => exact moves_reportCondition _ r
      | latched => exact Moves.refl _ _
    · refine moves_evParts _ rfl rfl (EventUnit.sound_of_sublist ?_ (Nat.le_refl _))
      simp only [List.map_map]
      refine (List.map_congr_left fun x _ => ?_).symm ▸ List.Sublist.refl _
      simp only [Function.comp_apply]
      split <;> rfl

theorem moves_takeEventAck (item : AckItem) (seq : Word16) : Moves evParts h (takeEventAck item seq h) := by
  unfold takeEventAck
  split
  · exact Moves.ite (fun _ => moves_ackRecord h _) fun _ => Moves.refl _ h
  · exact Moves.ite (fun _ => moves_ackClear h _ _) fun _ => Moves.refl _ h
  · exact Moves.refl _ h

/-! ### The remote condition set (R155) -/

variable {p : DPort}

theorem moves_remoteConds {cs : List RemoteCond}
    (size : h.ev.remoteConds.length ≤ remoteSize → cs.length ≤ remoteSize) :
    Moves (portParts p) h { h with ev := { h.ev with remoteConds := cs } } :=
  moves_ev h (fun x hx => by cases x <;> first | exact rfl | cases hx) fun sound => ⟨sound.1, size sound.2.1, sound.2.2⟩

theorem moves_endRemote (k : EvKind) (l : Locus) : Moves (portParts p) h (endRemote k l h) :=
  Moves.ite
    (fun _ => (moves_remoteConds h fun z => (List.length_filter_le ..).trans z).trans
      (Moves.ite (fun _ => Moves.refl _ _) fun _ => (moves_markEnded _ k l).calm.atPort p))
    fun _ => Moves.refl _ h

theorem moves_endRemotesOf : Moves (portParts p) h (endRemotesOf p h) :=
  Moves.foldl (fun h (c : RemoteCond) => moves_endRemote h c.kind c.locus) _ h

theorem moves_storeRemote (c : RemoteCond) (room : h.ev.remoteRoom c.kind c.locus = true) :
    Moves (portParts p) h (storeRemote c h) := by
  unfold storeRemote
  split
  · exact moves_remoteConds h fun z => by simpa using z
  · next absent =>
    have less : h.ev.remoteConds.length < remoteSize := by simpa [EventUnit.remoteRoom, absent] using room
    have stored : Moves (portParts p) h { h with ev := { h.ev with remoteConds := h.ev.remoteConds ++ [c] } } :=
      moves_remoteConds h fun _ => by simpa using less
    exact stored.trans (Moves.ite (fun _ => Moves.refl _ _) fun _ => (moves_withdrawClear _ _ _).calm.atPort p)

theorem moves_raiseBrought (e : EventUp) : Moves (portParts p) h (raiseBrought p e h) := by
  unfold raiseBrought
  simp only
  split
  · exact (moves_raise h _).calm.atPort p
  · refine Moves.ite (fun room => ?_) fun _ => (moves_raise h _).calm.atPort p
    exact (moves_storeRemote h _ room).trans ((moves_raise _ _).calm.atPort p)

theorem moves_takeEventUp (e : EventUp) : Moves (portParts p) h (takeEventUp p e h) := by
  unfold takeEventUp
  simp only
  refine Moves.unless (Moves.refl _ h) fun _ => Moves.unless (moves_sendD h _) fun _ => Moves.trans ?_ (moves_raiseBrought _ e)
  exact Moves.unless (moves_setD _ _) fun _ => (moves_raiseLatched _ _ _ _).calm.atPort p

theorem moves_takeConditionClear (k : EvKind) (l : Locus) (seq : Word16) :
    Moves (portParts p) h (takeConditionClear p k l seq h) := (moves_sendD h _).trans (moves_endRemote _ _ _)

/-! ### The drain (R151) and ATTENTION (R150) -/

theorem Moves.evLate {h h' : Hap} (m : Moves evParts h h') : Moves lateParts h h' :=
  m.mono fun x => by cases x <;> first | exact id | exact fun _ => rfl

theorem moves_sendItem (x : InFlight) : Moves lateParts h (sendItem x h) :=
  (moves_evNotes (ev' := { h.ev with inFlight := some x, retransmit := some retransmitMs, lost := lostAfter h.ev.lost x })
    h rfl rfl rfl).evLate.trans (moves_sendU _ _)

theorem moves_drainIfDue : Moves lateParts h (drainIfDue h) := by
  refine Moves.ite (fun _ => ?_) fun _ => Moves.refl _ h
  split
  · exact moves_sendItem h _
  · exact Moves.refl _ h

theorem moves_resendItem : Moves lateParts h (resendItem h) := by
  unfold resendItem
  split
  · exact (moves_evNotes (ev' := { h.ev with retransmit := some retransmitMs }) h rfl rfl rfl).evLate.trans (moves_sendU _ _)
  · exact Moves.refl _ h

theorem moves_eventRetransmit : Moves lateParts h (eventRetransmit h) := by
  unfold eventRetransmit
  split
  · exact moves_resendItem h
  · exact Moves.refl _ h

theorem moves_drainResumes : Moves lateParts h (drainResumes h) :=
  (moves_resendItem h).trans (moves_scratch rfl rfl id)

theorem moves_attend : Moves lateParts h (attend h) := by
  unfold attend
  split
  · next top _ _ _ =>
    refine Moves.ite (fun _ => ?_) fun _ => Moves.refl _ h
    exact (moves_evNotes (ev' := { h.ev with announced := some _ }) h rfl rfl rfl).evLate.trans (moves_handHost _ _)
  · exact Moves.refl _ h

end

end Sys2Proof.Machine
end

section
/-! PROOF. What the roster and the budget unit keep: the rules of a roster's list of entries, the budget law by the grant of
each slot (R93 to R101), and the moves of chapters 1 and 5. -/

namespace Sys2Proof.Machine

/-! ### A list of entries -/

theorem findEntry_some {k : Key} {es : List Entry} {e : Entry} (found : findEntry k es = some e) : e ∈ es ∧ e.key = k :=
  ⟨List.mem_of_find?_eq_some found, by simpa using List.find?_some found⟩

theorem findEntry_none {k : Key} {es : List Entry} : findEntry k es = none ↔ k ∉ es.map Entry.key := by
  simp [findEntry, List.find?_eq_none]

theorem findEntry_of_mem {es : List Entry} (keys : (es.map Entry.key).Nodup) {e : Entry} (m : e ∈ es) :
    findEntry e.key es = some e := by
  induction es with
  | nil => cases m
  | cons x t ih =>
    rw [List.map_cons, List.nodup_cons] at keys
    by_cases h : x.key = e.key
    · rcases List.mem_cons.mp m with rfl | m
      · simp [findEntry]
      · exact absurd (List.mem_map_of_mem (f := Entry.key) m) (h ▸ keys.1)
    · rcases List.mem_cons.mp m with rfl | m
      · exact absurd rfl h
      · rw [← ih keys.2 m]
        simp [findEntry, h]

theorem keys_updateEntry {k : Key} {f : Entry → Entry} {es : List Entry} (keep : ∀ e ∈ es, e.key = k → (f e).key = k) :
    (updateEntry k f es).map Entry.key = es.map Entry.key := by
  rw [updateEntry, List.map_map]
  refine List.map_congr_left fun e m => ?_
  simp only [Function.comp_apply]
  split
  · next h => rw [keep e m h, h]
  · rfl

theorem findEntry_updateEntry {k : Key} {f : Entry → Entry} : ∀ {es : List Entry},
    (∀ e ∈ es, e.key = k → (f e).key = k) → ∀ k' : Key,
    findEntry k' (updateEntry k f es) = if k' = k then (findEntry k es).map f else findEntry k' es
  | [], _, k' => by simp [findEntry, updateEntry]
  | e :: t, keep, k' => by
    have ih := findEntry_updateEntry (k := k) (f := f) (es := t) (fun x m => keep x (List.mem_cons_of_mem _ m)) k'
    simp only [findEntry, updateEntry, List.map_cons, List.find?_cons] at ih ⊢
    by_cases hk : e.key = k
    · have := keep e List.mem_cons_self hk
      by_cases h' : k' = k
      · simp [hk, this, h']
      · simp only [hk, if_true, this, Ne.symm h', decide_false, h', if_false] at ih ⊢
        exact ih
    · by_cases h' : k' = k
      · subst h'
        simp only [hk, if_false, decide_false, if_true] at ih ⊢
        exact ih
      · simp only [hk, if_false, h'] at ih ⊢
        rw [ih]

theorem findEntry_map {k : Key} {g : Entry → Entry} {es : List Entry} (keep : ∀ e ∈ es, (g e).key = e.key) :
    findEntry k (es.map g) = (findEntry k es).map g := by
  rw [findEntry, findEntry, List.find?_map]
  refine congrArg (Option.map g) (List.find?_congr fun e m => ?_)
  rw [Function.comp_apply, keep e m]

theorem mem_updateEntry {k : Key} {f : Entry → Entry} {es : List Entry} {x : Entry} (m : x ∈ updateEntry k f es) :
    ∃ e ∈ es, x = if e.key = k then f e else e := by
  obtain ⟨e, me, rfl⟩ := List.mem_map.mp m
  exact ⟨e, me, rfl⟩

theorem updateEntry_absent {k : Key} {f : Entry → Entry} {es : List Entry} (absent : k ∉ es.map Entry.key) :
    updateEntry k f es = es := by
  have same : ∀ e ∈ es, (if e.key = k then f e else e) = id e := fun e m =>
    if_neg fun h : e.key = k => absent (h ▸ List.mem_map_of_mem m)
  rw [updateEntry, List.map_congr_left same, List.map_id]

/-- What a change of one entry does to the granted sum. -/
theorem grantedSum_updateEntry {k : Key} {f : Entry → Entry} {es : List Entry} {e : Entry}
    (keys : (es.map Entry.key).Nodup) (found : findEntry k es = some e) :
    grantedSum (updateEntry k f es) + e.grantedUnits = grantedSum es + (f e).grantedUnits := by
  induction es with
  | nil => cases found
  | cons x t ih =>
    rw [List.map_cons, List.nodup_cons] at keys
    by_cases hk : x.key = k
    · have same : x = e := by simpa [findEntry, hk] using found
      subst same
      have rest := updateEntry_absent (f := f) (hk ▸ keys.1)
      simp only [updateEntry, grantedSum, List.map_cons, hk, if_true, List.sum_cons] at rest ⊢
      rw [rest]
      omega
    · have found' : findEntry k t = some e := by simpa [findEntry, hk] using found
      have := ih keys.2 found'
      simp only [updateEntry, grantedSum, List.map_cons, hk, if_false, List.sum_cons] at this ⊢
      omega

theorem findEntry_dropped {k k' : Key} {es : List Entry} :
    findEntry k' (es.filter fun e => decide (e.key ≠ k)) = if k' = k then none else findEntry k' es := by
  split
  · next h =>
    subst h
    simp [findEntry_none]
  · next h =>
    rw [findEntry, findEntry, List.find?_filter]
    refine congrArg (List.find? · es) (funext fun e => ?_)
    by_cases he : e.key = k'
    · simp [he, h]
    · simp [he]

theorem grantedSum_filter_le (q : Entry → Bool) : ∀ es : List Entry, grantedSum (es.filter q) ≤ grantedSum es
  | [] => Nat.le_refl _
  | e :: t => by
    have := grantedSum_filter_le q t
    simp only [grantedSum, List.filter_cons, List.map_cons, List.sum_cons] at this ⊢
    split
    · simpa using this
    · omega

/-- The place of a key is the place of its entry. -/
theorem keys_insertBy (e : Entry) : ∀ es : List Entry,
    (insertBy (fun a b : Entry => keyLt a.key b.key) e es).map Entry.key = insertBy keyLt e.key (es.map Entry.key)
  | [] => rfl
  | x :: t => by
    simp only [insertBy, List.map_cons]
    split
    · rfl
    · rw [List.map_cons, keys_insertBy e t]

theorem insertBy_perm {α : Type} (lt : α → α → Bool) (x : α) : ∀ xs : List α, (insertBy lt x xs).Perm (x :: xs)
  | [] => List.Perm.refl _
  | y :: t => by
    simp only [insertBy]
    split
    · exact List.Perm.refl _
    · exact ((insertBy_perm lt x t).cons y).trans (List.Perm.swap x y t)

theorem findEntry_insertBy {lt : Entry → Entry → Bool} {e : Entry} {es : List Entry} (absent : e.key ∉ es.map Entry.key)
    (k : Key) : findEntry k (insertBy lt e es) = if k = e.key then some e else findEntry k es := by
  induction es with
  | nil =>
    by_cases h : k = e.key
    · simp [insertBy, findEntry, h]
    · simp [insertBy, findEntry, h, Ne.symm h]
  | cons x t ih =>
    simp only [List.map_cons, List.mem_cons, not_or] at absent
    have ih := ih absent.2
    simp only [insertBy]
    split
    · by_cases h : k = e.key
      · simp [findEntry, h]
      · simp [findEntry, h, Ne.symm h]
    · by_cases hx : x.key = k
      · have : k ≠ e.key := fun c => absent.1 (c.symm.trans hx.symm)
        simp [findEntry, hx, this]
      · simp only [findEntry, List.find?_cons, hx, decide_false] at ih ⊢
        exact ih

theorem grantedSum_insertBy (lt : Entry → Entry → Bool) (e : Entry) (es : List Entry) :
    grantedSum (insertBy lt e es) = e.grantedUnits + grantedSum es := by
  have := ((insertBy_perm lt e es).map Entry.grantedUnits).sum_eq
  simpa [grantedSum] using this

theorem localKey_inj {i j : SlotId} : localKey i = localKey j ↔ i = j := by simp [localKey]

theorem isLocal_iff {e : Entry} : e.isLocal = true ↔ e.key = localKey e.key.slot := by
  obtain ⟨⟨path, slot⟩, _⟩ := e
  simp [Entry.isLocal, localKey]

theorem isLocal_of_key {e : Entry} {i : SlotId} (h : e.key = localKey i) : e.isLocal = true := by
  simp [Entry.isLocal, h, localKey]

theorem grantedUnits_of_ne {e : Entry} (h : e.isLocal = true → e.grant ≠ .granted) : e.grantedUnits = 0 := by
  rw [Entry.grantedUnits, if_neg]
  simpa using h

/-! ### The budget law by the grant of each slot -/

/-- The grant of a slot's local entry among these entries, NONE where it has none. -/
def grantIn (es : List Entry) (i : SlotId) : Grant := (findEntry (localKey i) es).elim .none Entry.grant

theorem slotGrant_eq (s : State) (i : SlotId) : s.slotGrant i = grantIn s.roster.entries i := by
  unfold State.slotGrant grantIn State.localEntry
  cases findEntry (localKey i) s.roster.entries <;> rfl

theorem grantIn_some {es : List Entry} {i : SlotId} {e : Entry} (found : findEntry (localKey i) es = some e) :
    grantIn es i = e.grant := by rw [grantIn, found, Option.elim_some]

theorem grantIn_none {es : List Entry} {i : SlotId} (absent : findEntry (localKey i) es = none) : grantIn es i = .none := by
  rw [grantIn, absent, Option.elim_none]

/-- The budget law, of a list of entries, a budget, a waiting list and the PWR lines. -/
structure Law (es : List Entry) (units : Nat) (w : List SlotId) (pwr : SlotId → Bool) : Prop where
  keys : (es.map Entry.key).Nodup
  locals : ∀ e ∈ es, e.isLocal = true ↔ e.reported = none
  sum : grantedSum es ≤ units
  once : w.Nodup
  waits : ∀ i, i ∈ w ↔ grantIn es i = .waiting
  low : ∀ e ∈ es, e.isLocal = true → e.state = .conflict ∨ e.state = .returning → e.grant = .none
  lines : ∀ i, pwr i = true ↔ grantIn es i = .granted

theorem budgetLaw_iff {s : State} :
    s.budgetLaw ↔ Law s.roster.entries s.budget.units s.budget.waiting s.pwrLine := by
  constructor
  · rintro ⟨keys, locals, sum, once, has, all, low, lines⟩
    simp only [slotGrant_eq] at lines
    refine ⟨keys, locals, sum, once, fun i => ⟨fun m => ?_, fun g => ?_⟩, low, lines⟩
    · obtain ⟨e, found, g⟩ := has i m
      rw [grantIn_some found, g]
    · cases found : findEntry (localKey i) s.roster.entries with
      | none => rw [grantIn_none found] at g; cases g
      | some e =>
        rw [grantIn_some found] at g
        have ⟨m, hk⟩ := findEntry_some found
        have := all e m (isLocal_of_key hk) g
        rwa [hk] at this
  · rintro ⟨keys, locals, sum, once, waits, low, lines⟩
    simp only [← slotGrant_eq] at lines
    refine ⟨keys, locals, sum, once, fun i m => ?_, fun e m loc g => ?_, low, lines⟩
    · have g := (waits i).mp m
      cases found : findEntry (localKey i) s.roster.entries with
      | none => rw [grantIn_none found] at g; cases g
      | some e => exact ⟨e, found, grantIn_some found ▸ g⟩
    · refine (waits _).mpr ?_
      rw [grantIn_some (isLocal_iff.mp loc ▸ findEntry_of_mem keys m), g]

/-- A change of an entry that the law does not see. -/
structure Unseen (e e' : Entry) : Prop where
  key : e'.key = e.key
  reported : e'.reported = none ↔ e.reported = none
  grant : e.isLocal = true → e'.grant = e.grant
  draw : e.isLocal = true → e.grant = .granted → e'.draw = e.draw
  low : e.isLocal = true → e'.state = .conflict ∨ e'.state = .returning → e.grant = .none

theorem Unseen.isLocal {e e' : Entry} (u : Unseen e e') : e'.isLocal = e.isLocal := by simp [Entry.isLocal, u.key]

theorem Unseen.units {e e' : Entry} (u : Unseen e e') : e'.grantedUnits = e.grantedUnits := by
  cases loc : e.isLocal with
  | false => simp [Entry.grantedUnits, u.isLocal, loc]
  | true =>
    simp only [Entry.grantedUnits, u.isLocal, loc, u.grant loc, Bool.true_and, decide_eq_true_eq]
    split
    · next g => rw [u.draw loc g]
    · rfl

section
variable {es : List Entry} {units : Nat} {w : List SlotId} {pwr : SlotId → Bool}

theorem Law.entry (law : Law es units w pwr) {e : Entry} (m : e ∈ es) (loc : e.isLocal = true) :
    findEntry (localKey e.key.slot) es = some e := isLocal_iff.mp loc ▸ findEntry_of_mem law.keys m

/-- The law survives changes that it does not see. -/
theorem Law.map (law : Law es units w pwr) {g : Entry → Entry} (ok : ∀ e ∈ es, Unseen e (g e)) :
    Law (es.map g) units w pwr := by
  have keys : (es.map g).map Entry.key = es.map Entry.key := by
    rw [List.map_map]
    exact List.map_congr_left fun e m => (ok e m).key
  have grants : ∀ i, grantIn (es.map g) i = grantIn es i := fun i => by
    rw [grantIn, findEntry_map fun e m => (ok e m).key]
    cases found : findEntry (localKey i) es with
    | none => exact (grantIn_none found).symm
    | some e =>
      have ⟨m, hk⟩ := findEntry_some found
      rw [grantIn_some found]
      exact (ok e m).grant (isLocal_of_key hk)
  refine ⟨keys ▸ law.keys, fun x m => ?_, ?_, law.once, fun i => grants i ▸ law.waits i, fun x m => ?_,
    fun i => grants i ▸ law.lines i⟩
  · obtain ⟨e, me, rfl⟩ := List.mem_map.mp m
    rw [(ok e me).isLocal, (ok e me).reported, law.locals e me]
  · have : (es.map g).map Entry.grantedUnits = es.map Entry.grantedUnits := by
      rw [List.map_map]
      exact List.map_congr_left fun e m => (ok e m).units
    rw [grantedSum, this]
    exact law.sum
  · obtain ⟨e, me, rfl⟩ := List.mem_map.mp m
    rw [(ok e me).isLocal]
    intro loc st
    rw [(ok e me).grant loc]
    exact (ok e me).low loc st

/-- The law survives a change of one entry that it does not see. -/
theorem Law.update (law : Law es units w pwr) {k : Key} {f : Entry → Entry}
    (ok : ∀ e ∈ es, e.key = k → Unseen e (f e)) : Law (updateEntry k f es) units w pwr :=
  law.map fun e m => by
    split
    · next h => exact ok e m h
    · exact ⟨rfl, Iff.rfl, fun _ => rfl, fun _ _ => rfl, law.low e m⟩

/-- The law after the grant of a slot's local entry has been written, with the list and the line that go with it. -/
theorem Law.grant (law : Law es units w pwr) {i : SlotId} {e : Entry} {g : Grant} {w' : List SlotId} {pwr' : SlotId → Bool}
    (found : findEntry (localKey i) es = some e)
    (fits : g = .granted → e.grant ≠ .granted → drawUnits e.draw + grantedSum es ≤ units)
    (once : w'.Nodup) (waits : ∀ j, j ∈ w' ↔ if j = i then g = .waiting else j ∈ w)
    (lines : ∀ j, pwr' j = true ↔ if j = i then g = .granted else pwr j = true)
    (low : e.state = .conflict ∨ e.state = .returning → g = .none) :
    Law (updateEntry (localKey i) (fun e => { e with grant := g }) es) units w' pwr' := by
  have keep : ∀ e ∈ es, e.key = localKey i → ({ e with grant := g } : Entry).key = localKey i := fun _ _ h => h
  have ⟨m, hk⟩ := findEntry_some found
  have grants : ∀ j, grantIn (updateEntry (localKey i) (fun e => { e with grant := g }) es) j =
      if j = i then g else grantIn es j := fun j => by
    rw [grantIn, findEntry_updateEntry keep, found]
    simp only [localKey_inj]
    split <;> rfl
  refine ⟨keys_updateEntry keep ▸ law.keys, fun x m => ?_, ?_, once, fun j => ?_, fun x m loc st => ?_, fun j => ?_⟩
  · obtain ⟨o, mo, rfl⟩ := mem_updateEntry m
    split <;> exact law.locals o mo
  · have sum : grantedSum (updateEntry (localKey i) (fun e => { e with grant := g }) es) + e.grantedUnits =
        grantedSum es + ({ e with grant := g } : Entry).grantedUnits := grantedSum_updateEntry law.keys found
    have le := law.sum
    generalize grantedSum (updateEntry (localKey i) (fun e => { e with grant := g }) es) = total at sum ⊢
    by_cases hg : g = .granted
    · subst hg
      by_cases he : e.grant = .granted
      · have : ({ e with grant := .granted } : Entry) = e := by cases e; simp_all
        rw [this] at sum
        omega
      · have fits := fits rfl he
        simp only [Entry.grantedUnits, Entry.isLocal, hk, localKey, List.isEmpty_nil, Bool.true_and, he, decide_false,
          Bool.false_eq_true, if_false, decide_true, if_true] at sum
        omega
    · have : ({ e with grant := g } : Entry).grantedUnits = 0 := grantedUnits_of_ne fun _ => hg
      omega
  · rw [waits, grants]
    split
    · rfl
    · exact law.waits j
  · obtain ⟨o, mo, rfl⟩ := mem_updateEntry m
    by_cases ho : o.key = localKey i
    · have : findEntry o.key es = some o := findEntry_of_mem law.keys mo
      rw [ho, found] at this
      cases this
      simp only [ho, if_true] at st ⊢
      exact low st
    · simp only [ho, if_false] at loc st ⊢
      exact law.low o mo loc st
  · rw [lines, grants]
    split
    · rfl
    · exact law.lines j

/-- The law after an entry without a grant has been taken out. -/
theorem Law.drop (law : Law es units w pwr) {k : Key} (free : ∀ i, k = localKey i → grantIn es i = .none) :
    Law (es.filter fun e => decide (e.key ≠ k)) units w pwr := by
  have grants : ∀ i, grantIn (es.filter fun e => decide (e.key ≠ k)) i = grantIn es i := fun i => by
    by_cases h : localKey i = k
    · rw [free i h.symm]
      exact grantIn_none (by rw [findEntry_dropped, if_pos h])
    · rw [grantIn, findEntry_dropped, if_neg h, ← grantIn]
  refine ⟨law.keys.sublist (List.filter_sublist.map _), fun e m => law.locals e (List.mem_filter.mp m).1,
    (grantedSum_filter_le _ _).trans law.sum, law.once, fun i => grants i ▸ law.waits i,
    fun e m => law.low e (List.mem_filter.mp m).1, fun i => grants i ▸ law.lines i⟩

/-- The law after an entry has been added, one without a grant where it is local. -/
theorem Law.insert (law : Law es units w pwr) {lt : Entry → Entry → Bool} {e : Entry} (absent : e.key ∉ es.map Entry.key)
    (locals : e.isLocal = true ↔ e.reported = none) (free : e.isLocal = true → e.grant = .none) :
    Law (insertBy lt e es) units w pwr := by
  have perm := insertBy_perm lt e es
  have grants : ∀ i, grantIn (insertBy lt e es) i = grantIn es i := fun i => by
    rw [grantIn, findEntry_insertBy absent]
    split
    · next h => rw [grantIn_none (h ▸ findEntry_none.mpr absent), Option.elim_some, free (isLocal_of_key h.symm)]
    · rfl
  refine ⟨?_, fun o m => ?_, ?_, law.once, fun i => grants i ▸ law.waits i, fun o m => ?_, fun i => grants i ▸ law.lines i⟩
  · rw [(perm.map Entry.key).nodup_iff, List.map_cons, List.nodup_cons]
    exact ⟨absent, law.keys⟩
  · rcases List.mem_cons.mp (perm.subset m) with rfl | m
    · exact locals
    · exact law.locals o m
  · rw [grantedSum_insertBy, grantedUnits_of_ne fun loc => by rw [free loc]; decide, Nat.zero_add]
    exact law.sum
  · rcases List.mem_cons.mp (perm.subset m) with rfl | m
    · exact fun loc _ => free loc
    · exact law.low o m

end

end Sys2Proof.Machine
end

section
/-! PROOF. The moves of chapters 1 and 5: the budget unit's and the roster's operations. -/

namespace Sys2Proof.Machine

/-! ### The budget unit (R93 to R104) -/

section
variable {L : Part → Bool} {i : SlotId} (h : Hap)

/-- A change of one entry that the law does not see. -/
theorem moves_changeEntry {k : Key} {f : Entry → Entry} (key : ∀ e, e.key = k → (f e).key = k)
    (ok : h.toState.budgetLaw → ∀ e ∈ h.roster.entries, e.key = k → Unseen e (f e)) :
    Moves calmParts h (changeEntry k f h) := by
  have keys : (updateEntry k f h.roster.entries).map Entry.key = h.roster.entries.map Entry.key :=
    keys_updateEntry fun e _ hk => key e hk
  refine ⟨fun x hx => ?_, id, fun z => ?_, fun law => ?_⟩
  · cases x
    case keys => exact congrArg (·, h.roster.joinCounter) keys
    all_goals first | exact rfl | cases hx
  · have len := congrArg List.length keys
    simp only [List.length_map] at len
    exact ⟨⟨len ▸ z.roster.1, fun _ => .inr rfl⟩, z.units, z.deltas, z.ev, z.buffer, z.ops, z.opIds⟩
  · exact budgetLaw_iff.mpr ((budgetLaw_iff.mp law).update (ok law))

/-- The grant of a local entry is written, with the waiting list and the PWR lines that go with it. -/
theorem moves_grant {g : Grant} (w : List SlotId) (v : Vector Bool 10) (due : Bool)
    (law : h.toState.budgetLaw → Law (updateEntry (localKey i) (fun e => { e with grant := g }) h.roster.entries)
      h.budget.units w fun j => v[j]) :
    Moves calmParts h { setGrant i g h with budget := { h.budget with waiting := w, pwr := v }, settleDue := due } := by
  have keys : (updateEntry (localKey i) (fun e => { e with grant := g }) h.roster.entries).map Entry.key =
      h.roster.entries.map Entry.key := keys_updateEntry fun _ _ hk => hk
  refine ⟨fun x hx => ?_, id, fun z => ?_, fun l => budgetLaw_iff.mpr (law l)⟩
  · cases x
    case keys => exact congrArg (·, h.roster.joinCounter) keys
    all_goals first | exact rfl | cases hx
  · have len := congrArg List.length keys
    simp only [List.length_map] at len
    exact ⟨⟨len ▸ z.roster.1, fun _ => .inr rfl⟩, z.units, z.deltas, z.ev, z.buffer, z.ops, z.opIds⟩

/-- A PWR line after a line has been driven. -/
theorem pwrLine_set (v : Vector Bool 10) (i j : SlotId) (b : Bool) : (v.set i b)[j] = if j = i then b else v[j] := by
  by_cases e : j = i
  · simp [e]
  · have : i.val ≠ j.val := fun c => e (Fin.ext c.symm)
    simp [e, this]

/-- A local entry may join the waiting list: it is there, without a grant, and neither in CONFLICT nor RETURNING. -/
def Hap.mayJoin (i : SlotId) (h : Hap) : Prop :=
  ∃ e, h.localEntry i = some e ∧ e.grant ≠ .granted ∧ ¬ (e.state = .conflict ∨ e.state = .returning)

/-- The PWR line of a slot whose entry is not GRANTED is low, whatever is written beside it. -/
theorem Law.lines_low {es : List Entry} {n : Nat} {w : List SlotId} {pwr : SlotId → Bool} (law : Law es n w pwr) {e : Entry}
    (found : findEntry (localKey i) es = some e) (low : e.grant ≠ .granted) {g : Grant} (hg : g ≠ .granted) (j : SlotId) :
    pwr j = true ↔ if j = i then g = .granted else pwr j = true := by
  split
  · next hj =>
    rw [hj, law.lines i, grantIn_some found]
    exact ⟨fun c => absurd c low, fun c => absurd c hg⟩
  · exact Iff.rfl

theorem moves_budgetJoin (may : h.toState.budgetLaw → h.mayJoin i) : Moves calmParts h (budgetJoin i h) := by
  unfold budgetJoin
  split
  · exact Moves.refl _ h
  · next out =>
    have out : i ∉ h.budget.waiting := by simpa using out
    refine moves_grant h (h.budget.waiting ++ [i]) h.budget.pwr true fun l => ?_
    obtain ⟨e, found, notGranted, free⟩ := may l
    have law := budgetLaw_iff.mp l
    refine law.grant found (fun c => nomatch c) ?_ (fun j => ?_) (law.lines_low found notGranted (by decide))
      fun c => absurd c free
    · exact List.nodup_append.mpr ⟨law.once, by simp, fun a ha b hb => by
        rw [List.mem_singleton] at hb
        exact fun c => out (hb ▸ c ▸ ha)⟩
    · by_cases hj : j = i <;> simp [hj]

theorem moves_budgetRelease : Moves calmParts h (budgetRelease i h) := by
  unfold budgetRelease
  split
  · exact Moves.refl _ h
  · next e found =>
    split
    · exact Moves.refl _ h
    · next granted =>
      refine moves_grant h h.budget.waiting (h.budget.pwr.set i false) true fun l => ?_
      have law := budgetLaw_iff.mp l
      refine law.grant found (fun c => nomatch c) law.once (fun j => ?_) (fun j => ?_) fun _ => rfl
      · split
        · next hj =>
          rw [hj, law.waits i, grantIn_some found, granted]
          decide
        · exact Iff.rfl
      · rw [pwrLine_set]
        split
        · decide
        · exact Iff.rfl
    · next waiting =>
      refine moves_grant h (h.budget.waiting.filter fun j => decide (j ≠ i)) h.budget.pwr true fun l => ?_
      have law := budgetLaw_iff.mp l
      have low : e.grant ≠ .granted := by rw [waiting]; decide
      refine law.grant found (fun c => nomatch c) (law.once.filter _) (fun j => ?_)
        (law.lines_low found low (by decide)) fun _ => rfl
      by_cases hj : j = i <;> simp [hj]

/-- Who heads the list, with the draw units of its entry. -/
theorem waitingHead_some {s : State} {i : SlotId} {u : Nat} (head : s.waitingHead = some (i, u)) :
    ∃ t e, s.budget.waiting = i :: t ∧ s.localEntry i = some e ∧ u = drawUnits e.draw := by
  unfold State.waitingHead at head
  split at head
  · cases head
  · next j t hw =>
    obtain ⟨e, he, hu⟩ := Option.map_eq_some_iff.mp head
    cases hu
    exact ⟨t, e, hw, he, rfl⟩

theorem moves_grantHead {u : Nat} (head : h.waitingHead = some (i, u)) (fits : u ≤ h.available) :
    Moves calmParts h (grantHead i h) := by
  obtain ⟨t, e, hw, found, rfl⟩ := waitingHead_some head
  refine moves_grant (g := .granted) h h.budget.waiting.tail (h.budget.pwr.set i true) h.settleDue fun l => ?_
  have law := budgetLaw_iff.mp l
  rw [hw] at law ⊢
  have waiting : e.grant = .waiting := by
    have := (law.waits i).mp List.mem_cons_self
    rwa [grantIn_some found] at this
  refine law.grant found (fun _ _ => ?_) law.once.of_cons (fun j => ?_) (fun j => ?_) fun c => ?_
  · have := law.sum
    simp only [State.available] at fits
    omega
  · have out := (List.nodup_cons.mp law.once).1
    by_cases hj : j = i
    · simp [hj, out]
    · simp [hj]
  · rw [pwrLine_set]
    split
    · decide
    · exact Iff.rfl
  · have := law.low e (findEntry_some found).1 (isLocal_of_key (findEntry_some found).2) c
    rw [waiting] at this
    cases this

theorem moves_grantLoop : ∀ (n : Nat) (h : Hap), Moves calmParts h (grantLoop n h)
  | 0, h => Moves.refl _ h
  | n + 1, h => by
    unfold grantLoop
    split
    · next i u head =>
      exact Moves.ite (fun fits => (moves_grantHead h head fits).trans (moves_grantLoop n _)) fun _ => Moves.refl _ h
    · exact Moves.refl _ h

theorem moves_settle : Moves calmParts h (settle h) := by
  unfold settle
  simp only
  exact ((moves_grantLoop _ h).trans (moves_setCond _ _ _ _).calm).trans (moves_scratch rfl rfl id)

theorem moves_settleIfDue : Moves calmParts h (settleIfDue h) :=
  Moves.ite (fun _ => moves_settle h) fun _ => Moves.refl _ h

theorem moves_budgetSet {n : Nat} (high : n ≤ 80) (low : grantedSum h.roster.entries ≤ n) :
    Moves everything h (budgetSet n h) := by
  unfold budgetSet
  refine Moves.trans (h' := { h with budget := { h.budget with units := n } })
    ⟨fun x hx => (by cases hx), id, fun z => ?_, fun l => ?_⟩ (moves_settle _).any
  · exact ⟨z.roster, high, z.deltas, z.ev, z.buffer, z.ops, z.opIds⟩
  · have law := budgetLaw_iff.mp l
    exact budgetLaw_iff.mpr ⟨law.keys, law.locals, low, law.once, law.waits, law.low, law.lines⟩

end

/-! ### The roster (R4 to R22) -/

section
variable {L : Part → Bool} {i : SlotId} {p : DPort} (h : Hap)

theorem moves_addEntry (keys : L .keys = true) (entries : L .entries = true) {e : Entry} (room : h.roster.full = false)
    (absent : findEntry e.key h.roster.entries = none) (locals : e.isLocal = true ↔ e.reported = none)
    (free : e.isLocal = true → e.grant = .none) : Moves L h (addEntry e h) := by
  have room : h.roster.entries.length < rosterCapacity := by simpa [Roster.full] using room
  refine ⟨fun x hx => ?_, id, fun z => ?_, fun law => ?_⟩
  · cases x
    case keys => exact absurd (hx.symm.trans keys) Bool.false_ne_true
    case entries => exact absurd (hx.symm.trans entries) Bool.false_ne_true
    all_goals exact rfl
  · have len : (addEntry e h).roster.entries.length = h.roster.entries.length + 1 := (insertBy_perm ..).length_eq
    exact ⟨⟨len ▸ room, fun _ => .inr rfl⟩, z.units, z.deltas, z.ev, z.buffer, z.ops, z.opIds⟩
  · exact budgetLaw_iff.mpr ((budgetLaw_iff.mp law).insert (findEntry_none.mp absent) locals free)

theorem moves_dropEntry (keys : L .keys = true) (entries : L .entries = true) {k : Key}
    (free : h.toState.budgetLaw → ∀ i, k = localKey i → grantIn h.roster.entries i = .none) : Moves L h (dropEntry k h) := by
  refine ⟨fun x hx => ?_, id, fun z => ?_, fun law => ?_⟩
  · cases x
    case keys => exact absurd (hx.symm.trans keys) Bool.false_ne_true
    case entries => exact absurd (hx.symm.trans entries) Bool.false_ne_true
    all_goals exact rfl
  · exact ⟨⟨(List.length_filter_le ..).trans z.roster.1, fun _ => .inr rfl⟩, z.units, z.deltas, z.ev, z.buffer, z.ops, z.opIds⟩
  · exact budgetLaw_iff.mpr ((budgetLaw_iff.mp law).drop (free law))

/-- A change that touches the state and perhaps the grant of a remote entry, or of a local one without a grant. -/
theorem unseen_of_free {h : Hap} (law : h.toState.budgetLaw) {e : Entry} (m : e ∈ h.roster.entries) {f : Entry → Entry}
    (key : (f e).key = e.key) (reported : (f e).reported = none ↔ e.reported = none)
    (grant : e.isLocal = true → e.grant = .none ∧ (f e).grant = .none) :
    ∀ x ∈ h.roster.entries, x.key = e.key → Unseen x (f x) := fun x mx hx => by
  have law := budgetLaw_iff.mp law
  obtain rfl : x = e := Option.some.inj ((findEntry_of_mem law.keys mx).symm.trans (hx ▸ findEntry_of_mem law.keys m))
  exact ⟨key, reported, fun l => (grant l).2.trans (grant l).1.symm, fun l g => absurd ((grant l).1.symm.trans g) (by decide),
    fun l _ => (grant l).1⟩

/-- The local entry in conflict of the promotion rule has no grant. -/
theorem inConflict_state {e : Entry} (c : e.inConflict = true) : e.state = .conflict := by
  simp only [Entry.inConflict, Bool.and_eq_true, decide_eq_true_eq] at c
  exact c.1

theorem moves_promoteEntry {e : Entry} (m : e ∈ h.roster.entries) (conflict : e.inConflict = true) :
    Moves calmParts h (promoteEntry e h) := by
  have state := inConflict_state conflict
  have free : h.toState.budgetLaw → e.isLocal = true → e.grant = .none := fun l loc =>
    (budgetLaw_iff.mp l).low e m loc (.inl state)
  unfold promoteEntry
  split
  · next r hr =>
    refine Moves.trans ?_ (moves_endCond _ _ _).calm
    exact moves_changeEntry h (fun _ hk => hk) fun l => unseen_of_free l m rfl Iff.rfl fun loc => ⟨free l loc, free l loc⟩
  · next hr =>
    have loc : h.toState.budgetLaw → e.isLocal = true := fun l => ((budgetLaw_iff.mp l).locals e m).mpr hr
    split
    · refine Moves.trans ?_ (moves_endCond _ _ _).calm
      refine Moves.trans ?_ (moves_budgetJoin _ fun l' => ?_)
      · exact moves_changeEntry h (fun _ hk => hk) fun l => unseen_of_free l m rfl Iff.rfl fun loc => ⟨free l loc, rfl⟩
      have law' := budgetLaw_iff.mp l'
      have keys : (h.roster.entries.map Entry.key).Nodup := by
        have : (updateEntry e.key (fun x => { x with state := .online, grant := .none }) h.roster.entries).map Entry.key =
          h.roster.entries.map Entry.key := keys_updateEntry fun _ _ hk => hk
        exact this ▸ law'.keys
      have found : findEntry e.key h.roster.entries = some e := findEntry_of_mem keys m
      have there : findEntry e.key (updateEntry e.key (fun x => { x with state := .online, grant := .none })
          h.roster.entries) = some { e with state := .online, grant := .none } := by
        rw [findEntry_updateEntry, if_pos rfl, found]
        · rfl
        · exact fun _ _ hk => hk
      have local' : e.isLocal = true := (law'.locals _ (findEntry_some there).1).mpr hr
      refine ⟨{ e with state := .online, grant := .none }, ?_, fun c => (by cases c), fun c => (by rcases c with c | c <;> cases c)⟩
      have key : e.key = localKey e.key.slot := isLocal_iff.mp local'
      unfold State.localEntry
      rw [← key]
      exact there
    all_goals
      first
      | exact Moves.refl _ h
      | refine Moves.trans ?_ (moves_endCond _ _ _).calm
        exact moves_changeEntry h (fun _ hk => hk) fun l => unseen_of_free l m rfl Iff.rfl fun loc =>
          ⟨free l loc, by first | rfl | exact free l loc⟩

theorem earliestJoined_mem {c : Word32} : ∀ {es : List Entry} {e : Entry}, earliestJoined c es = some e → e ∈ es
  | [], _, he => by cases he
  | x :: t, e, he => by
    unfold earliestJoined at he
    split at he
    · cases he; exact List.mem_cons_self
    · next y hy =>
      split at he
      · cases he; exact List.mem_cons_self
      · cases he; exact List.mem_cons_of_mem _ (earliestJoined_mem hy)

theorem moves_promote (serial : Serial) : Moves calmParts h (promote serial h) := by
  unfold promote
  split
  · exact Moves.refl _ h
  · next e he =>
    have ⟨m, ok⟩ := List.mem_filter.mp (earliestJoined_mem he)
    rw [Bool.and_eq_true] at ok
    exact moves_promoteEntry h m ok.1

theorem moves_afterRemoval (e : Entry) : Moves calmParts h (afterRemoval e h) := by
  unfold afterRemoval
  simp only
  exact Moves.when (Moves.when (Moves.refl _ h) fun _ => (moves_endCond _ _ _).calm) fun _ => moves_promote _ _

/-- After its release a slot's local entry has no grant. -/
theorem grantIn_budgetRelease : grantIn (budgetRelease i h).roster.entries i = .none := by
  have written : ∀ {e : Entry}, findEntry (localKey i) h.roster.entries = some e →
      grantIn (updateEntry (localKey i) (fun e => { e with grant := .none }) h.roster.entries) i = .none := fun {e} found => by
    rw [grantIn, findEntry_updateEntry, if_pos rfl, found]
    · rfl
    · exact fun _ _ hk => hk
  unfold budgetRelease
  split
  · next absent => exact grantIn_none absent
  · next e found =>
    split
    · next g => rw [grantIn_some found, g]
    · exact written found
    · exact written found

theorem released_grant {h : Hap} (law : (budgetRelease i h).toState.budgetLaw) {e : Entry}
    (m : e ∈ (budgetRelease i h).roster.entries) (key : e.key = localKey i) : e.grant = .none := by
  have := grantIn_budgetRelease (i := i) h
  rwa [grantIn_some (key ▸ findEntry_of_mem (budgetLaw_iff.mp law).keys m)] at this

theorem moves_localRemove (cause : Cause) : Moves (slotParts i) h (localRemove i cause h) := by
  unfold localRemove
  split
  · exact Moves.refl _ h
  · next e found =>
    simp only
    refine Moves.trans ?_ (((moves_raiseLatched _ _ _ _).calm.trans (moves_afterRemoval _ e)).slot i)
    refine ((moves_budgetRelease h).slot i).trans (moves_dropEntry _ rfl rfl fun _ j hj => ?_)
    have : j = i := localKey_inj.mp (hj.symm.trans (findEntry_some found).2)
    exact this ▸ grantIn_budgetRelease h

theorem moves_remoteRemove {k : Key} (remote : k.path ≠ []) (cause : Cause) :
    Moves rosterParts h (remoteRemove k cause h) := by
  unfold remoteRemove
  split
  · exact Moves.refl _ h
  · next e found =>
    simp only
    refine Moves.trans ?_ ((moves_afterRemoval _ e).atRoster)
    refine Moves.when (moves_dropEntry h rfl rfl fun _ j hj => ?_) fun _ => (moves_raiseLatched _ _ _ _).calm.atRoster
    exact absurd (congrArg Key.path hj) remote

theorem moves_remoteRemoveAll {ks : List Key} (remote : ∀ k ∈ ks, k.path ≠ []) (cause : Cause) :
    Moves rosterParts h (remoteRemoveAll ks cause h) := by
  unfold remoteRemoveAll
  induction ks generalizing h with
  | nil => exact Moves.refl _ h
  | cons k t ih =>
    exact (moves_remoteRemove h (remote k List.mem_cons_self) cause).trans
      (ih _ fun k m => remote k (List.mem_cons_of_mem _ m))


/-- A removal takes the keys it is told to and no other. -/
theorem keys_dropEntry (k : Key) : (dropEntry k h).roster.keys = h.roster.keys.filter fun x => decide (x ≠ k) := by
  simp [Roster.keys, dropEntry, List.filter_map, Function.comp_def]

/-- What changes entries in place leaves the keys. -/
theorem keys_of_calm {h h' : Hap} (m : Moves calmParts h h') : h'.roster.keys = h.roster.keys :=
  congrArg Prod.fst (m.frame .keys rfl)

/-- The removal of a slot's entry takes its key out of the roster, and no other (R12). -/
theorem keys_localRemove (cause : Cause) :
    (localRemove i cause h).roster.keys = h.roster.keys.filter fun x => decide (x ≠ localKey i) := by
  unfold localRemove
  split
  · next absent =>
    refine (List.filter_eq_self.mpr fun k m => ?_).symm
    have : k ≠ localKey i := fun c => findEntry_none.mp absent (c ▸ m)
    simpa using this
  · next e found =>
    simp only
    rw [keys_of_calm ((moves_raiseLatched _ _ _ _).calm.trans (moves_afterRemoval _ e)), keys_dropEntry,
      keys_of_calm (moves_budgetRelease h), (findEntry_some found).2]

/-- A slot has no entry where the roster lacks its key. -/
theorem localEntry_none_iff {s : State} {i : SlotId} : s.localEntry i = none ↔ localKey i ∉ s.roster.keys := findEntry_none

theorem localEntry_localRemove (cause : Cause) : (localRemove i cause h).localEntry i = none := by
  rw [localEntry_none_iff, keys_localRemove]
  simp

theorem moves_ejectEntry : Moves calmParts h (ejectEntry i h) := by
  unfold ejectEntry
  split
  · exact Moves.refl _ h
  · next e found =>
    have ⟨m, key⟩ := findEntry_some found
    split
    · next online =>
      refine moves_changeEntry h (fun _ hk => hk) fun l x mx hx => ?_
      exact ⟨rfl, Iff.rfl, fun _ => rfl, fun _ _ => rfl, fun _ c => by rcases c with c | c <;> cases c⟩
    · next returning =>
      refine (moves_budgetRelease (i := i) h).trans ?_
      refine moves_changeEntry _ (fun _ hk => hk) fun l x mx hx => ?_
      have none := released_grant l mx (hx.trans key)
      exact ⟨rfl, Iff.rfl, fun _ => none.symm, fun _ _ => rfl, fun _ _ => none⟩
    all_goals exact Moves.refl _ h

theorem moves_pulseEntry : Moves calmParts h (pulseEntry i h) := by
  unfold pulseEntry
  split
  · exact Moves.refl _ h
  · next e found =>
    have ⟨m, key⟩ := findEntry_some found
    split
    · next online =>
      refine (moves_budgetRelease (i := i) h).trans ?_
      refine moves_changeEntry _ (fun _ hk => hk) fun l x mx hx => ?_
      have none := released_grant l mx (hx.trans key)
      exact ⟨rfl, Iff.rfl, fun _ => rfl, fun _ _ => rfl, fun _ _ => none⟩
    all_goals exact Moves.refl _ h


/-! ### Admission of a check-in (R7 to R13) -/

theorem findEntry_addEntry {e : Entry} (absent : findEntry e.key h.roster.entries = none) (k : Key) :
    findEntry k (addEntry e h).roster.entries =
      if k = e.key then some { e with joinStamp := h.roster.nextStamp } else findEntry k h.roster.entries :=
  findEntry_insertBy (e := { e with joinStamp := h.roster.nextStamp }) (findEntry_none.mp absent) k

theorem moves_admitAddition (r : CheckInRec) (absent : h.localEntry i = none) :
    Moves (slotParts i) h (admitAddition i r h).1 := by
  unfold admitAddition
  split
  · exact Moves.refl _ h
  · next room =>
    have room : h.roster.full = false := by simpa using room
    have locals : ∀ e : Entry, e.key = localKey i → e.reported = none → (e.isLocal = true ↔ e.reported = none) :=
      fun e key rep => iff_of_true (isLocal_of_key key) rep
    simp only
    split
    · refine Moves.trans ?_ (((moves_raiseLatched _ _ _ _).trans (moves_beginCond _ _ _)).calm.slot i)
      exact moves_addEntry h rfl rfl room absent (locals _ rfl rfl) fun _ => rfl
    · refine Moves.trans ?_ ((moves_raiseLatched _ _ _ _).calm.slot i)
      refine Moves.trans ?_ ((moves_budgetJoin _ fun _ => ?_).slot i)
      · exact moves_addEntry h rfl rfl room absent (locals _ rfl rfl) fun _ => rfl
      · refine ⟨_, (findEntry_addEntry h (by exact absent) _).trans (if_pos rfl), nofun, fun c => by simp at c⟩

/-- A local entry found in one state by the law, after a change that keeps its key. -/
theorem mayJoin_changeEntry {h : Hap} {e : Entry} {f : Entry → Entry} (found : h.localEntry i = some e)
    (key : ∀ e, (f e).key = e.key) (grant : (f e).grant ≠ .granted) (state : ¬ ((f e).state = .conflict ∨ (f e).state = .returning)) :
    (changeEntry (localKey i) f h).mayJoin i := by
  have found : findEntry (localKey i) h.roster.entries = some e := found
  refine ⟨f e, ?_, grant, state⟩
  unfold State.localEntry changeEntry
  rw [findEntry_updateEntry, if_pos rfl, found]
  · rfl
  · exact fun e _ hk => (key e).trans hk

theorem moves_admitReturn (r : CheckInRec) {e : Entry} (found : h.localEntry i = some e) (state : e.state = .returning) :
    Moves (slotParts i) h (admitReturn i r h).1 := by
  have ⟨m, key⟩ := findEntry_some found
  unfold admitReturn
  simp only
  refine Moves.slot i (Moves.trans ?_ (moves_raiseLatched _ _ _ _).calm)
  refine Moves.trans ?_ (moves_budgetJoin _ fun _ => mayJoin_changeEntry found (fun _ => rfl) nofun nofun)
  refine moves_changeEntry h (fun _ hk => hk) fun l => key ▸ unseen_of_free l m rfl Iff.rfl fun loc => ⟨?_, rfl⟩
  exact (budgetLaw_iff.mp l).low e m loc (.inr state)

/-- What a release leaves of the slot's local entry. -/
theorem localEntry_budgetRelease {h : Hap} {e : Entry} (found : h.localEntry i = some e) :
    (budgetRelease i h).localEntry i = some { e with grant := .none } := by
  have found' : findEntry (localKey i) h.roster.entries = some e := found
  have written : findEntry (localKey i) (updateEntry (localKey i) (fun e => { e with grant := .none }) h.roster.entries) =
      some { e with grant := .none } := by
    rw [findEntry_updateEntry, if_pos rfl, found']
    · rfl
    · exact fun _ _ hk => hk
  simp only [budgetRelease, found]
  split
  · next g => rw [found, ← g]
  · exact written
  · exact written

theorem moves_admitRefresh {e : Entry} (r : CheckInRec) (found : h.localEntry i = some e) (state : e.state ≠ .returning) :
    Moves (slotParts i) h (admitRefresh i e r h).1 := by
  have ⟨m, key⟩ := findEntry_some found
  have only : h.toState.budgetLaw → ∀ x ∈ h.roster.entries, x.key = localKey i → x = e := fun l x mx hx =>
    Option.some.inj ((findEntry_of_mem (budgetLaw_iff.mp l).keys mx).symm.trans (hx ▸ found))
  unfold admitRefresh
  split
  · next conflict =>
    refine Moves.slot i (Moves.trans ?_ (moves_beginCond _ _ _).calm)
    refine moves_changeEntry h (fun _ hk => hk) fun l => key ▸ unseen_of_free l m rfl Iff.rfl fun loc => ?_
    have free := (budgetLaw_iff.mp l).low e m loc (.inl conflict)
    exact ⟨free, free⟩
  · next other =>
    split
    · refine Moves.slot i (Moves.trans ?_ (moves_budgetJoin _ fun _ => ?_))
      · refine (moves_budgetRelease (i := i) h).trans ?_
        refine moves_changeEntry _ (fun _ hk => hk) fun l x mx hx => ?_
        have none := released_grant l mx hx
        exact ⟨rfl, Iff.rfl, fun _ => rfl, fun _ g => absurd (none.symm.trans g) nofun, fun _ _ => none⟩
      · exact mayJoin_changeEntry (localEntry_budgetRelease found) (fun _ => rfl) nofun fun c => c.elim other state
    · next same =>
      refine Moves.slot i (moves_changeEntry h (fun _ hk => hk) fun l x mx hx => ?_)
      obtain rfl := only l x mx hx
      refine ⟨rfl, Iff.rfl, fun _ => rfl, fun _ g => ?_, fun loc => (budgetLaw_iff.mp l).low x mx loc⟩
      simp only [g, Bool.and_eq_true, decide_eq_true_eq, not_and, not_not] at same
      by_contra c
      exact absurd (same fun d => c d.symm) nofun

theorem moves_admission (r : CheckInRec) : Moves (slotParts i) h (admission i r h).1 := by
  have replace : Moves (slotParts i) h (admitAddition i r (localRemove i .replaced h)).1 :=
    (moves_localRemove h .replaced).trans (moves_admitAddition _ r (localEntry_localRemove h .replaced))
  unfold admission
  split
  · next absent => exact moves_admitAddition h r absent
  · next e found =>
    split
    · exact Moves.refl _ h
    · next state =>
      split
      · exact moves_admitReturn h r found state
      · exact replace
    all_goals
      next state =>
        split
        · exact moves_admitRefresh h r found (by rw [state]; decide)
        · exact replace

/-! ### Remote stores (R16, R17, R22) -/

theorem moves_reckonOverflow : Moves evParts h (reckonOverflow h) :=
  Moves.trans (h' := { h with flagsDue := true }) (moves_scratch rfl rfl id) (moves_setCond _ _ _ _)

theorem moves_setMarker (b : Bool) (full : b = true → h.roster.full = true) :
    Moves storeParts h { h with roster := h.roster.setMarker p b } := by
  refine ⟨fun x hx => ?_, id, fun z => ⟨?_, z.units, z.deltas, z.ev, z.buffer, z.ops, z.opIds⟩, fun law => ?_⟩
  · cases p <;> cases x <;> first | exact rfl | cases hx
  · have size := z.roster.1
    have full' : b = true → h.roster.entries.length = rosterCapacity := fun c =>
      Nat.le_antisymm size (by simpa [Roster.full] using full c)
    cases p
    · exact ⟨size, fun c => c.elim (fun c => .inl (full' c)) fun c => z.roster.2 (.inr c)⟩
    · exact ⟨size, fun c => c.elim (fun c => z.roster.2 (.inl c)) fun c => .inl (full' c)⟩
  · exact budgetLaw_congr (s := h.toState) (by cases p <;> rfl) rfl law

theorem moves_setRefused (full : h.roster.full = true) : Moves storeParts h (setRefused p h) :=
  Moves.ite (fun _ => Moves.refl _ h) fun _ => (moves_setMarker h true fun _ => full).trans ((moves_reckonOverflow _).calm.atRoster.store)

theorem moves_clearRefused : Moves storeParts h (clearRefused p h) :=
  Moves.ite (fun _ => (moves_setMarker h false nofun).trans ((moves_reckonOverflow _).calm.atRoster.store)) fun _ => Moves.refl _ h

theorem moves_remoteAdd (r : LinkRecord) (draw : Fin 4) (absent : findEntry (remoteKey p r.key) h.roster.entries = none) :
    Moves storeParts h (remoteAdd p r draw h) := by
  unfold remoteAdd
  split
  · next full => exact moves_setRefused h full
  · next room =>
    simp only
    refine Moves.when ?_ fun _ => (moves_beginCond _ _ _).calm.atRoster.store
    exact moves_addEntry h rfl rfl (by simpa using room) absent (by simp [Entry.isLocal, remoteKey])
      (by simp [Entry.isLocal, remoteKey])

theorem moves_remoteRefresh {e : Entry} (r : LinkRecord) (draw : Fin 4) (m : e ∈ h.roster.entries) (remote : e.isLocal = false) :
    Moves calmParts h (remoteRefresh e r draw h) := by
  have notLocal : ¬ e.isLocal = true := by simp [remote]
  unfold remoteRefresh
  simp only
  refine Moves.when ?_ fun _ => moves_promote _ _
  refine Moves.trans (h' := changeEntry e.key _ h) ?_
    (Moves.ite (fun _ => (moves_beginCond _ _ _).calm) fun _ =>
      Moves.ite (fun _ => (moves_endCond _ _ _).calm) fun _ => Moves.refl _ _)
  refine moves_changeEntry h (fun _ _ => rfl) fun l => unseen_of_free l m rfl ?_ fun loc => absurd loc notLocal
  exact iff_of_false nofun fun c => notLocal (((budgetLaw_iff.mp l).locals e m).mpr c)

/-- A removal leaves the keys it is not about. -/
theorem keys_remoteRemove {k : Key} (cause : Cause) :
    (remoteRemove k cause h).roster.keys = h.roster.keys.filter fun x => decide (x ≠ k) := by
  unfold remoteRemove
  split
  · next absent =>
    refine (List.filter_eq_self.mpr fun x m => ?_).symm
    have : x ≠ k := fun c => findEntry_none.mp absent (c ▸ m)
    simpa using this
  · next e found =>
    simp only
    rw [keys_of_calm (moves_afterRemoval _ e), ← keys_dropEntry]
    exact keys_of_calm (Moves.when (Moves.refl _ _) fun _ => (moves_raiseLatched _ _ _ _).calm)

theorem moves_remoteStore (r : LinkRecord) : Moves storeParts h (remoteStore p r h) := by
  unfold remoteStore
  split
  · exact Moves.refl _ h
  · next draw _ =>
    split
    · next absent => exact moves_remoteAdd h r draw absent
    · next e found =>
      have ⟨m, key⟩ := findEntry_some found
      have remote : e.key.path ≠ [] := by simp [key, remoteKey]
      split
      · exact (moves_remoteRefresh h r draw m (by simpa [Entry.isLocal] using remote)).atRoster.store
      · refine (moves_remoteRemove h remote .reported).store.trans (moves_remoteAdd _ r draw ?_)
        have : remoteKey p r.key ∉ (remoteRemove e.key .reported h).roster.keys := by
          rw [keys_remoteRemove, key]
          simp
        exact findEntry_none.mpr this

theorem moves_markStale : Moves storeParts h (markStale p h) := by
  refine ⟨fun x hx => ?_, id, fun z => ?_, fun l => ?_⟩
  · cases x <;> first | exact rfl | cases hx
  · exact ⟨⟨by simpa [markStale] using z.roster.1, by simpa [markStale] using z.roster.2⟩, z.units, z.deltas, z.ev,
      z.buffer, z.ops, z.opIds⟩
  · refine budgetLaw_iff.mpr ((budgetLaw_iff.mp l).map fun e m => ?_)
    have low := (budgetLaw_iff.mp l).low e m
    split
    · exact ⟨rfl, Iff.rfl, fun _ => rfl, fun _ _ => rfl, low⟩
    · exact ⟨rfl, Iff.rfl, fun _ => rfl, fun _ _ => rfl, low⟩

end

end Sys2Proof.Machine
end

section
/-! PROOF. The moves of chapters 2 to 4: the commit engine, the slot sequencers and the slot link. -/

namespace Sys2Proof.Machine

theorem Moves.evSlot {h h' : Hap} {i : SlotId} (m : Moves evParts h h') : Moves (slotParts i) h h' := m.calm.slot i

section
variable {i : SlotId} (h : Hap)

/-! ### The commit engine up to its SWITCH -/

theorem moves_freeOp (op : Byte) : Moves (slotParts i) h (freeOpEntry op h) := moves_freeOpEntry h op rfl

theorem moves_opDone (slot : Option SlotId) (op : Byte) (d : Word16) : Moves (slotParts i) h (opDone slot op d h) :=
  (moves_raiseLatched h _ _ _).evSlot.trans (moves_freeOp _ op)

/-- A move of neither the copies nor the commit leaves the descriptor store. -/
theorem Moves.desc_eq {L : Part → Bool} {h h' : Hap} (m : Moves L h h') (copies : L .copies = false)
    (commit : L .commit = false) : h'.desc = h.desc := by
  have kept := m.frame .copies copies
  have same := m.frame .commit commit
  simp only [Part.same, Prod.mk.injEq] at kept same
  have eta : ∀ d : Desc, d = ⟨d.staging, d.bank0, d.bank1, d.live, d.commit⟩ := fun _ => rfl
  rw [eta h'.desc, eta h.desc, kept.1, kept.2.1, kept.2.2.1, kept.2.2.2, same]

/-- An operation's end leaves the descriptor store. -/
theorem opDone_desc (slot : Option SlotId) (op : Byte) (d : Word16) : (opDone slot op d h).desc = h.desc :=
  (moves_raiseLatched h .opDone (opLocus slot op) d).desc_eq rfl rfl

theorem moves_commitEnd (d : Word16) : Moves (slotParts i) h (commitEnd d h) := by
  unfold commitEnd
  split
  · exact Moves.refl _ h
  · next c _ =>
    have m := (moves_opDone (i := i) h none c.op d).trans (moves_setCommit _ none)
    rwa [opDone_desc] at m

theorem moves_enterCopying : Moves (slotParts i) h (enterCopying h) := by
  unfold enterCopying
  split
  · exact Moves.refl _ h
  · simp only
    exact Moves.ite (fun _ => moves_commitEnd h 0) fun _ => moves_setCommit h _

theorem moves_drainingCheck : Moves (slotParts i) h (drainingCheck h) := by
  unfold drainingCheck
  split
  · exact Moves.refl _ h
  · split
    · exact Moves.ite (fun _ => moves_enterCopying h) fun _ => Moves.refl _ h
    all_goals exact Moves.refl _ h

theorem moves_slotLeft (j : SlotId) : Moves (slotParts i) h (slotLeft j h) := by
  unfold slotLeft
  split
  · exact Moves.refl _ h
  · simp only
    exact Moves.ite (fun _ => Moves.when (moves_setCommit h _) fun _ => moves_commitEnd _ _) fun _ => Moves.refl _ h

theorem moves_beginCommit (op : Byte) (b : Bool) : Moves (slotParts i) h (beginCommit op b h) := by
  unfold beginCommit
  exact Moves.trans (moves_setCommit h (some _)) (moves_drainingCheck _)

/-! ### Slot sequencers -/

theorem moves_endBurst : Moves (slotParts i) h (endBurst i h) := by
  unfold endBurst
  split
  · exact (moves_setTarget h _).trans (moves_drainingCheck _)
  all_goals exact Moves.refl _ h

theorem moves_enDrop : Moves (slotParts i) h (enDrop i h) := (moves_endBurst h).trans ((moves_budgetRelease _).slot i)

theorem moves_enterEnabled : Moves (slotParts i) h (enterEnabled i h) := moves_setSlot h _

theorem moves_enterDelaying : Moves (slotParts i) h (enterDelaying i h) :=
  Moves.ite (fun _ => moves_enterEnabled h) fun _ => moves_setSlot h _

theorem moves_enterHeld : Moves (slotParts i) h (enterHeld i h) := moves_setSlot h _

theorem moves_enterIdle : Moves (slotParts i) h (enterIdle i h) := (moves_setSlot h _).trans (moves_setTarget _ _)

theorem moves_enterParked (reason : ParkReason) : Moves (slotParts i) h (enterParked i reason h) := by
  unfold enterParked
  simp only
  split
  · exact (moves_setSlot h _).trans (moves_beginCond _ _ _).evSlot
  · exact (moves_setSlot h _).trans (moves_beginCond _ _ _).evSlot
  · exact moves_setSlot h _
  · exact moves_setSlot h _

theorem moves_shutSlot (cause : Cause) : Moves (slotParts i) h (shutSlot i cause h) :=
  (moves_enDrop h).trans (moves_localRemove _ cause)

theorem moves_endEject (cause : Cause) (result : EjectResult) : Moves (slotParts i) h (endEject i cause result h) :=
  (moves_shutSlot h cause).trans (moves_opDone _ _ _ _)

theorem moves_idleRule : Moves (slotParts i) h (idleRule i h) := by
  unfold idleRule
  simp only
  split
  · exact Moves.refl _ h
  · exact moves_enterIdle h
  · exact moves_enterIdle h
  · exact (moves_shutSlot h _).trans (moves_enterIdle _)
  · exact (moves_shutSlot h _).trans (moves_enterIdle _)
  · exact (moves_endEject h _ _).trans (moves_enterIdle _)
  · exact ((moves_localRemove h _).trans (moves_slotLeft _ i)).trans (moves_enterIdle _)
  · exact (moves_endCond h _ _).evSlot.trans (moves_enterIdle _)

theorem moves_closingRule : Moves (slotParts i) h (closingRule i h) := by
  unfold closingRule
  split
  · exact moves_enterHeld h
  · exact moves_enterHeld h
  · exact (moves_shutSlot h _).trans (moves_enterHeld _)
  · exact (moves_shutSlot h _).trans (moves_enterHeld _)
  · exact (moves_endEject h _ _).trans (moves_enterHeld _)
  all_goals exact Moves.refl _ h

theorem moves_openingRule : Moves (slotParts i) h (openingRule i h) := by
  unfold openingRule
  split
  · exact Moves.ite (fun _ => moves_enterEnabled h) fun _ => moves_enterDelaying h
  · exact moves_enterDelaying h
  all_goals exact Moves.refl _ h

theorem moves_evaluate : Moves (slotParts i) h (evaluate i h) :=
  Moves.ite (fun _ => moves_idleRule h) fun _ => Moves.ite (fun _ => moves_openingRule h) fun _ => moves_closingRule h

theorem moves_slotFilterChange (new : Filter) : Moves (slotParts i) h (slotFilterChange i new h) := by
  unfold slotFilterChange
  simp only
  have step : ∀ h : Hap, Moves (slotParts i) h (if (h.slot i).policy = .manual then h else evaluate i h) := fun h =>
    Moves.ite (fun _ => Moves.refl _ h) fun _ => moves_evaluate h
  refine (moves_setFilter h new).trans ?_
  refine Moves.ite (fun _ => (moves_raiseLatched _ _ _ _).evSlot.trans (step _)) fun _ => ?_
  exact Moves.ite (fun _ => (moves_raiseLatched _ _ _ _).evSlot.trans (step _)) fun _ => Moves.refl _ _

theorem moves_delayExpired : Moves (slotParts i) h (delayExpired i h) :=
  Moves.ite (fun _ => moves_enterEnabled h) fun _ => Moves.refl _ h

theorem moves_limitExpired : Moves (slotParts i) h (limitExpired i h) :=
  Moves.ite (fun _ => (moves_shutSlot h _).trans (moves_enterParked _ _)) fun _ => Moves.refl _ h

theorem moves_ejectExpired : Moves (slotParts i) h (ejectExpired i h) :=
  Moves.ite (fun _ => (moves_endEject h _ _).trans (moves_enterParked _ _)) fun _ => Moves.refl _ h

theorem moves_pulseExpired : Moves (slotParts i) h (pulseExpired i h) := by
  unfold pulseExpired
  simp only
  refine Moves.ite (fun _ => (moves_slotLeft h i).trans ?_) fun _ => Moves.refl _ h
  exact Moves.ite (fun _ => moves_idleRule _) fun _ => Moves.ite (fun _ => moves_enterEnabled _) fun _ =>
    (moves_localRemove _ _).trans (moves_enterHeld _)

theorem moves_startPulse : Moves (slotParts i) h (startPulse i h) :=
  ((moves_enDrop h).trans ((moves_pulseEntry _).slot i)).trans (moves_setSlot _ _)

theorem moves_rejectSlot : Moves (slotParts i) h (rejectSlot i h) := (moves_shutSlot h _).trans (moves_enterParked _ _)

theorem moves_releaseSlot : Moves (slotParts i) h (releaseSlot i h) := (moves_endEject h _ _).trans (moves_enterParked _ _)

theorem moves_configureSlot (policy : Policy) (settleTime delay limit : Byte) :
    Moves (slotParts i) h (configureSlot i policy settleTime delay limit h) := by
  unfold configureSlot
  simp only
  exact (moves_setSlot h _).trans (Moves.ite (fun _ => moves_enterEnabled _) fun _ => moves_evaluate _)

theorem moves_permitSlot (v : Bool) : Moves (slotParts i) h (permitSlot i v h) := (moves_setSlot h _).trans (moves_evaluate _)

theorem moves_resumeSlot : Moves (slotParts i) h (resumeSlot i h) := by
  unfold resumeSlot
  simp only
  refine Moves.trans ((moves_endCond h _ _).evSlot.trans (moves_setSlot _ _)) (Moves.ite (fun _ => moves_enterIdle _) fun _ =>
    Moves.ite (fun _ => moves_enterEnabled _) fun _ => Moves.ite (fun _ => moves_enterDelaying _) fun _ => moves_enterHeld _)

theorem moves_ejectSlot (op : Byte) : Moves (slotParts i) h (ejectSlot i op h) :=
  ((moves_ejectEntry h).slot i).trans (moves_setSlot _ _)

/-! ### Slot link targets -/

theorem moves_holdResponse (resp : List Byte) : Moves (slotParts i) h (holdResponse i resp h) := moves_setTarget h _

theorem moves_pageReadCmd (page offset length : Nat) : Moves (slotParts i) h (pageReadCmd i page offset length h) := by
  unfold pageReadCmd
  split
  · exact moves_holdResponse h _
  · exact (moves_setTarget h _).trans (moves_setSlot _ _)

theorem moves_checkInResult (r : SlotResult) (gen : Word16) : Moves (slotParts i) h (checkInResult i r gen h) := by
  unfold checkInResult
  simp only
  refine Moves.trans ?_ (moves_holdResponse _ _)
  exact Moves.trans (Moves.unless (Moves.refl _ h) fun _ => (moves_raiseLatched _ _ _ _).evSlot) (moves_setTarget _ _)

theorem moves_admittedSlot : Moves (slotParts i) h (admittedSlot i h) := moves_setSlot h _

theorem moves_checkInAdmit (r : CheckInRec) : Moves (slotParts i) h (checkInAdmit i r h).1 := by
  have m := moves_admission (i := i) h r
  unfold checkInAdmit
  split
  · next g e =>
    rw [e] at m
    exact m.trans ((moves_admittedSlot g).trans ((moves_settleIfDue _).slot i))
  · next g e =>
    rw [e] at m
    exact m.trans ((moves_admittedSlot g).trans ((moves_settleIfDue _).slot i))
  · next g e =>
    rw [e] at m
    exact m

theorem moves_checkInCmd (args : List Byte) : Moves (slotParts i) h (checkInCmd i args h) := by
  have taken : Moves (slotParts i) h
      (match checkInRecOf args with
        | none => checkInResult i .malformed h.desc.generation (rejectSlot i h)
        | some r => checkInResult i (checkInAdmit i r h).2 h.desc.generation (checkInAdmit i r h).1) := by
    split
    · exact (moves_rejectSlot h).trans (moves_checkInResult _ _ _)
    · exact (moves_checkInAdmit h _).trans (moves_checkInResult _ _ _)
  unfold checkInCmd
  simp only
  split
  · exact taken
  · exact taken
  all_goals exact moves_checkInResult h _ _

theorem moves_releaseCmd : Moves (slotParts i) h (releaseCmd i h) := by
  unfold releaseCmd
  split
  · exact (moves_releaseSlot h).trans (moves_holdResponse _ _)
  all_goals exact moves_holdResponse h _

theorem moves_slotStatusCmd : Moves (slotParts i) h (slotStatusCmd i h) := moves_holdResponse h _

theorem moves_slotWrite (bytes : List Byte) : Moves (slotParts i) h (slotWrite i bytes h) := by
  cases bytes with
  | nil => exact Moves.refl _ h
  | cons cmd args =>
    unfold slotWrite
    dsimp only
    refine Moves.trans (moves_endBurst (i := i) h) ?_
    generalize endBurst i h = g
    match cmd.toNat, args with
    | 1, [] => exact moves_slotStatusCmd g
    | 2, [_, _, _] => exact moves_pageReadCmd g _ _ _
    | 3, _ => exact moves_checkInCmd g _
    | 4, [] => exact moves_releaseCmd g
    | 0, _ | 1, _ :: _ | 2, [] | 2, [_] | 2, [_, _] | 2, _ :: _ :: _ :: _ :: _ | 4, _ :: _ | _ + 5, _ =>
      exact moves_holdResponse g _

theorem moves_clockOut (b : Byte) : Moves (slotParts i) h (clockOut i b h) := moves_setTarget h _

theorem moves_slotByteRead : Moves (slotParts i) h (slotByteRead i h) := by
  unfold slotByteRead
  simp only
  split
  · exact moves_clockOut h _
  · exact Moves.ite (fun _ => (moves_setTarget h _).trans (moves_clockOut _ _)) fun _ => moves_clockOut h _
  · refine Moves.ite (fun _ => (moves_setTarget h _).trans (moves_clockOut _ _)) fun _ => ?_
    exact Moves.ite (fun _ => (moves_clockOut h _).trans (moves_endBurst _)) fun _ =>
      (moves_setTarget h _).trans (moves_clockOut _ _)

theorem moves_stallExpired : Moves (slotParts i) h (stallExpired i h) := by
  unfold stallExpired
  split
  · exact (moves_endBurst h).trans (moves_raiseLatched _ _ _ _).evSlot
  · exact Moves.refl _ h

end

end Sys2Proof.Machine
end

section
/-! PROOF. The moves of chapters 6 and 7: replies passed up, the completeness flags, the dump and the deltas, the sync, and
the link controllers. -/

namespace Sys2Proof.Machine

section
variable {p : DPort} (h : Hap)

/-! ### Replies passed up (R115, R123, R124) -/

theorem moves_storeLate (op : Byte) (f : HostFrame) : Moves linkParts h (storeLate op f h) := by
  unfold storeLate
  split
  · exact Moves.refl _ h
  · split
    · refine Moves.ite (fun _ => ?_) fun _ => Moves.refl _ h
      exact Moves.unjudged (fun y hy => by cases y <;> first | exact rfl | simp [linkParts, Part.judged] at hy) id
    · exact Moves.refl _ h

theorem moves_lateReply (op tag : Byte) (kind : ReplyKind) (payload : List Byte) :
    Moves linkParts h (lateReply op tag kind payload h) := by
  unfold lateReply
  simp only
  exact Moves.when (moves_storeLate h _ _) fun _ => (moves_handHost _ _).late.endLink

theorem moves_passUp (e : OpEntry) (kind : ReplyKind) (payload : List Byte) : Moves linkParts h (passUp e kind payload h) := by
  unfold passUp
  simp only
  refine (moves_freeOpEntry h e.op rfl).trans ?_
  split
  · exact moves_lateReply _ _ _ _ _
  · exact (moves_sendU _ _).late.endLink

theorem moves_passRefusal (e : OpEntry) (code : RefCode) : Moves linkParts h (passRefusal e code h) := moves_passUp h e _ _

/-! ### The flags, the generation, the dump and the deltas -/

theorem moves_flags (f : Flags) (g : Word32) {d due : Bool} (dirty : h.dirty = true → d = true) :
    Moves lateParts h { h with roster := { h.roster with flags := f, generation := g }, dirty := d, flagsDue := due } :=
  Moves.unjudged (fun y hy => by cases y <;> first | exact rfl | simp [lateParts, Part.judged] at hy) dirty

theorem moves_recomputeFlags : Moves lateParts h (recomputeFlags h) :=
  Moves.ite (fun _ => moves_flags h _ h.roster.generation (by simp +contextual)) fun _ => Moves.refl _ h

theorem moves_advanceGeneration : Moves lateParts h (advanceGeneration h) :=
  Moves.ite (fun _ => moves_flags h h.roster.flags (h.roster.generation + 1) (due := h.flagsDue) id) fun _ => Moves.refl _ h

/-- A change of U's record that leaves its carrier, its receiver, its loss timer and its tier, and makes no more of the
delta queue. -/
theorem moves_u {u : ULink} {due : Bool} (filter : u.filter = h.u.filter) (rx : u.rx = h.u.rx) (loss : u.loss = h.u.loss)
    (tier : (u.recTier, u.recPath, u.tierKnown) = (h.u.recTier, h.u.recPath, h.u.tierKnown))
    (deltas : h.u.deltas.length ≤ deltaQueueSize → u.deltas.length ≤ deltaQueueSize) :
    Moves lateParts h { h with u := u, deltaDue := due } := by
  refine ⟨fun y hy => ?_, id, fun z => ⟨z.roster, z.units, deltas z.deltas, z.ev, z.buffer, z.ops, z.opIds⟩, id⟩
  cases y <;> first | exact rfl | exact filter | exact rx | exact loss | exact tier | simp [lateParts] at hy

theorem moves_sendSyncEnd : Moves lateParts h (sendSyncEnd h) :=
  Moves.trans (moves_u h (u := { h.u with dumpPhase := .awaitingAck, ackTimer := some syncMs }) (due := h.deltaDue)
    rfl rfl rfl rfl id) (moves_sendU _ _)

theorem moves_openDump (cause : DumpCause) : Moves lateParts h (openDump cause h) := by
  unfold openDump
  simp only
  refine (moves_recomputeFlags h).trans ?_
  generalize recomputeFlags h = g
  refine Moves.trans ?_ (moves_sendU _ _)
  have ev : Moves lateParts g { g with ev := if decide (g.u.state = .up) then { g.ev with retransmit := none } else g.ev } := by
    split
    · exact (moves_evNotes (ev' := { g.ev with retransmit := none }) g rfl rfl rfl).evLate
    · exact Moves.refl _ g
  generalize (if decide (g.u.state = .up) then { g.ev with retransmit := none } else g.ev) = e at ev ⊢
  have noted : Moves lateParts { g with ev := e } { g with ev := e, base := g.roster.entries, baseFlags := g.roster.flags } :=
    moves_scratch rfl rfl id
  exact (ev.trans noted).trans (moves_u _ (due := g.deltaDue) (u := { g.u with
    state := if decide (g.u.state = .up) then .syncing else g.u.state, dumpPhase := .sending, dumpCause := cause,
    dumpList := g.roster.entries.map Entry.key, cursor := 1, ackTimer := none, deltas := [], retransmit := none })
    rfl rfl rfl rfl fun _ => Nat.zero_le _)

theorem moves_beginDump (cause : DumpCause) : Moves lateParts h (beginDump cause h) :=
  Moves.ite (fun _ => (moves_openDump h cause).trans (moves_sendSyncEnd _)) fun _ => moves_openDump h cause

theorem moves_formDumpFrame : Moves lateParts h (formDumpFrame h) := by
  unfold formDumpFrame
  split
  · split
    · exact Moves.trans (moves_u h (u := { h.u with cursor := h.u.cursor + 1 }) (due := h.deltaDue) rfl rfl rfl rfl id)
        (moves_sendU _ _)
    · exact moves_sendSyncEnd h
  all_goals exact Moves.refl _ h

theorem moves_handUpward : Moves lateParts h (handUpward h) := by
  unfold handUpward
  split
  · simp only
    split
    · exact Moves.refl _ h
    · split
      · exact moves_beginDump h _
      · next room =>
        exact moves_u h rfl rfl rfl rfl fun _ => by
          simp only [List.length_append, List.length_map]
          omega
  · exact Moves.refl _ h

theorem length_numberFirst (seq : Byte) : ∀ ds : List Delta, (numberFirst seq ds).length = ds.length
  | [] => rfl
  | d :: t => by
    unfold numberFirst
    split
    · rw [List.length_cons, length_numberFirst seq t, List.length_cons]
    · rfl

theorem moves_sendDeltas : ∀ (n : Nat) (h : Hap), Moves lateParts h (sendDeltas n h)
  | 0, h => Moves.refl _ h
  | n + 1, h => by
    unfold sendDeltas
    split
    · exact Moves.refl _ h
    · split
      · simp only
        refine Moves.trans (Moves.trans ?_ (moves_sendU _ _)) (moves_sendDeltas n _)
        exact moves_u h (due := h.deltaDue) rfl rfl rfl rfl (length_numberFirst _ _ ▸ id)
      · exact Moves.refl _ h

theorem moves_sendDeltasIfDue : Moves lateParts h (sendDeltasIfDue h) :=
  Moves.ite (fun _ => moves_sendDeltas _ h) fun _ => Moves.refl _ h

theorem length_ackDeltas (seq : Byte) : ∀ ds : List Delta, (ackDeltas seq ds).length ≤ ds.length
  | [] => Nat.le_refl _
  | d :: t => by
    unfold ackDeltas
    have := length_ackDeltas seq t
    split <;> simp only [List.length_cons] <;> omega

theorem moves_takeDeltaAck (seq : Byte) : Moves lateParts h (takeDeltaAck seq h) :=
  Moves.ite (fun _ => moves_u h rfl rfl rfl rfl fun le => (length_ackDeltas _ _).trans le) fun _ => Moves.refl _ h

theorem moves_deltaRetransmit : Moves lateParts h (deltaRetransmit h) := by
  unfold deltaRetransmit
  split
  · refine Moves.trans (moves_u h (u := { h.u with retransmit := some retransmitMs }) (due := h.deltaDue) rfl rfl rfl rfl id)
      (Moves.foldl (fun g d => ?_) _ _)
    split
    · exact moves_sendU g _
    · exact Moves.refl _ g
  · exact Moves.refl _ h

/-! ### The sync of a D port (R131, R132, R134, R136 to R138) -/

theorem Moves.evPort {h h' : Hap} (m : Moves evParts h h') : Moves (portParts p) h h' := m.calm.atPort p

theorem moves_opDonePort (slot : Option SlotId) (op : Byte) (d : Word16) : Moves (portParts p) h (opDone slot op d h) :=
  (moves_raiseLatched h _ _ _).evPort.trans (moves_freeOpEntry _ op rfl)

theorem moves_rescanLeave (q : DPort) (synced : Bool) : Moves (portParts p) h (rescanLeave q synced h) := by
  unfold rescanLeave
  split
  · exact Moves.refl _ h
  · simp only
    refine Moves.ite (fun _ => ?_) fun _ => Moves.refl _ h
    exact Moves.ite (fun _ => (moves_setRescan h none).trans (moves_opDonePort _ _ _ _)) fun _ => moves_setRescan h _

/-- A note that the flags are due changes no part. -/
theorem moves_due {L : Part → Bool} : Moves L h { h with flagsDue := true } := moves_scratch rfl rfl id

theorem moves_askDump : Moves (portParts p) h (askDump p h) := by
  unfold askDump
  simp only
  exact Moves.ite (fun _ => (moves_setD h _).trans (moves_due _)) fun _ => Moves.refl _ h

/-- The step of overflow recovery for one port (R137). -/
def recoverPort (p : DPort) (h : Hap) : Hap := if h.roster.marker p then clearRefused p (askDump p h) else h

theorem overflowRecovery_eq :
    overflowRecovery h = if h.dirty && !h.roster.full then recoverPort .d2 (recoverPort .d1 h) else h := rfl

theorem moves_recoverPort : Moves (portParts p) h (recoverPort p h) :=
  Moves.ite (fun _ => (moves_askDump h).trans ((moves_clearRefused _).stored p)) fun _ => Moves.refl _ h

theorem moves_beginRescan (op : Byte) : Moves linkParts h (beginRescan op h) := by
  unfold beginRescan
  simp only
  refine Moves.ite (fun _ => (moves_opDonePort (p := .d1) h _ _ _).link) fun _ => ?_
  exact Moves.trans (moves_setRescan (p := .d1) h _).link (Moves.foldl (fun g q => (moves_askDump (p := q) g).link) _ _)

theorem moves_takeSyncBegin (count : Nat) (cause : DumpCause) : Moves (portParts p) h (takeSyncBegin p count cause h) := by
  unfold takeSyncBegin
  simp only
  refine Moves.ite (fun _ => Moves.refl _ h) fun _ => Moves.when ?_ fun _ => (moves_raiseLatched _ _ _ _).evPort
  exact (((moves_markStale h).stored p).trans (moves_setD _ _)).trans (moves_due _)

/-- The key of a child's entry is remote. -/
theorem remoteKey_remote (p : DPort) (k : Key) : (remoteKey p k).path ≠ [] := by simp [remoteKey]

theorem moves_takeSyncEntry (ordinal : Nat) (body : SyncBody) : Moves (portParts p) h (takeSyncEntry p ordinal body h) := by
  unfold takeSyncEntry
  simp only
  split
  · exact Moves.refl _ h
  · exact Moves.refl _ h
  · refine Moves.ite (fun _ => ?_) fun _ => moves_askDump h
    split
    · exact (moves_setD h _).trans ((moves_remoteStore _ _).stored p)
    · exact (moves_setD h _).trans ((moves_remoteRemove _ (remoteKey_remote _ _) _).store.stored p)

theorem moves_storeReported (f : Flags) : Moves (portParts p) h (storeReported p f h) := (moves_setD h _).trans (moves_due _)

/-- The keys of a port's entries are remote. -/
theorem via_remote {e : Entry} (via : e.via p = true) : e.key.path ≠ [] := by
  intro c
  simp [Entry.via, c] at via

theorem moves_removePort (q : Entry → Bool) (via : ∀ e, q e = true → e.via p = true) (cause : Cause) :
    Moves (portParts p) h (remoteRemoveAll ((h.roster.entries.filter q).map Entry.key) cause h) := by
  refine (moves_remoteRemoveAll h (fun k m => ?_) cause).store.stored p
  obtain ⟨e, me, rfl⟩ := List.mem_map.mp m
  exact via_remote (via e (List.mem_filter.mp me).2)

theorem moves_completeSync (f : Flags) : Moves (portParts p) h (completeSync p f h) := by
  unfold completeSync
  simp only
  refine Moves.trans ?_ (moves_rescanLeave _ _ _)
  have removed := moves_removePort (p := p) h (fun e => e.via p && e.stale) (fun e he => (Bool.and_eq_true _ _ ▸ he).1) .linkLost
  refine Moves.when ?_ fun _ => (moves_raiseLatched _ _ _ _).evPort
  exact ((removed.trans (moves_storeReported _ f)).trans (moves_setD _ _)).trans (moves_due _)

theorem moves_takeSyncEnd (count : Nat) (f : Flags) : Moves (portParts p) h (takeSyncEnd p count f h) := by
  unfold takeSyncEnd
  simp only
  split
  · exact Moves.refl _ h
  · exact Moves.refl _ h
  · exact Moves.ite (fun _ => moves_completeSync h f) fun _ => moves_askDump h

theorem moves_applyDelta (body : DeltaBody) : Moves (portParts p) h (applyDelta p body h) := by
  unfold applyDelta
  split
  · exact (moves_remoteStore h _).stored p
  · exact (moves_remoteStore h _).stored p
  · exact (moves_remoteRemove h (remoteKey_remote _ _) _).store.stored p
  · exact moves_storeReported h _

theorem moves_takeDelta (seq : Byte) (body : DeltaBody) : Moves (portParts p) h (takeDelta p seq body h) := by
  unfold takeDelta
  simp only
  split
  · exact Moves.refl _ h
  · exact Moves.refl _ h
  · refine Moves.ite (fun _ => (moves_applyDelta h body).trans (moves_setD _ _)) fun _ => ?_
    exact Moves.ite (fun _ => moves_sendD h _) fun _ => moves_askDump h

theorem moves_syncTimerExpired : Moves (portParts p) h (syncTimerExpired p h) := by
  unfold syncTimerExpired
  split
  · exact moves_askDump h
  · exact moves_askDump h
  · exact Moves.refl _ h

/-! ### The SWITCH (R85 to R89) -/

theorem moves_switchGate (i : SlotId) : Moves (slotParts i) h (switchGate h i) := by
  unfold switchGate
  split
  · exact moves_evaluate h
  · exact moves_evaluate h
  all_goals exact Moves.refl _ h

theorem moves_switchInfo : Moves lateParts h (switchInfo h) :=
  Moves.ite (fun _ => moves_sendU h _) fun _ => Moves.refl _ h

/-- The finished copy is canonical. -/
theorem publish_sound {d : Desc} (c : Commit) (sound : d.sound) : (publish c d).sound := by
  obtain ⟨canonical, bytes⟩ := sound
  simp only [Desc.canonical, Bool.and_eq_true] at canonical
  obtain ⟨⟨staging, bank0⟩, bank1⟩ := canonical
  have image : (copyImage d.staging c.newGen (headerPages d.staging)).wf = true := Memory.wf_build _
  refine ⟨?_, ?_⟩
  · cases target : c.target <;> simp [publish, target, Desc.setBank, Desc.canonical, staging, bank0, bank1, image]
  · cases target : c.target <;> simpa [publish, target, Desc.setBank, Desc.partBytes] using bytes

theorem moves_publish (c : Commit) : Moves everything h { h with desc := publish c h.desc } :=
  ⟨fun y hy => (by cases hy), publish_sound c, fun z => ⟨z.roster, z.units, z.deltas, z.ev, z.buffer, z.ops, z.opIds⟩, id⟩

theorem moves_announce (c : Commit) : Moves everything h (announce c h) := by
  unfold announce
  simp only
  refine Moves.ite (fun _ => (moves_commitEnd (i := 0) h _).any) fun _ => ?_
  exact Moves.trans (moves_setCommit (i := 0) h _).any (Moves.foldl (fun g i => (moves_startPulse (i := i) g).any) _ _)

theorem moves_switchCommit (c : Commit) : Moves everything h (switchCommit c h) := by
  unfold switchCommit
  refine Moves.trans (Moves.trans ?_ (moves_switchInfo _).any) (moves_announce _ c)
  exact (moves_publish h c).trans (Moves.foldl (fun g i => (moves_switchGate g i).any) _ _)

theorem moves_copyingExpired : Moves everything h (copyingExpired h) := by
  unfold copyingExpired
  split
  · exact Moves.refl _ h
  · split
    · exact moves_switchCommit h _
    · exact Moves.refl _ h

/-! ### The link controllers (R109 to R119) -/

theorem moves_enterProbing : Moves (portParts p) h (enterProbing p h) := (moves_setD h _).trans (moves_due _)

theorem moves_enterRefused : Moves (portParts p) h (enterRefused p h) :=
  ((moves_setD h _).trans (moves_due _)).trans (moves_beginCond _ _ _).evPort

theorem moves_reexamine : Moves (portParts p) h (reexamine p h) := by
  unfold reexamine
  split
  · split
    · exact Moves.refl _ h
    · exact Moves.ite (fun _ => moves_enterProbing h) fun _ => moves_enterRefused h
  · exact Moves.refl _ h

theorem moves_loseForwards : Moves linkParts h (loseForwards p h) := Moves.foldl (fun g e => moves_passRefusal g e _) _ _

theorem moves_downTeardown (reason : LossReason) (reset : Bool) : Moves linkParts h (downTeardown p reason reset h) := by
  unfold downTeardown
  simp only
  refine Moves.when ?_ fun _ => (moves_endCond _ _ _).calm.calmLink
  refine Moves.when ?_ fun _ => (moves_raiseLatched _ _ _ _).calm.calmLink
  refine Moves.when ?_ fun _ => (moves_sendD (p := p) _ _).link
  refine (moves_loseForwards (p := p) h).trans ?_
  refine Moves.link (p := p) (Moves.trans ?_ (moves_due _))
  refine Moves.trans ?_ (moves_setD _ _)
  have removed := moves_removePort (p := p) (loseForwards p h) (Entry.via p) (fun _ => id) .linkLost
  exact ((removed.trans ((moves_clearRefused _).stored p)).trans (moves_endRemotesOf _)).trans (moves_rescanLeave _ _ _)

theorem moves_tearBelow (q : DPort) : Moves linkParts h (tearBelow h q) := by
  unfold tearBelow
  split
  · exact Moves.refl _ h
  all_goals exact moves_downTeardown h _ _

/-- A change of U's record that makes no more of the delta queue. -/
theorem moves_uLink (u : ULink) {due : Bool} {reset : Option Bool}
    (deltas : h.u.deltas.length ≤ deltaQueueSize → u.deltas.length ≤ deltaQueueSize) :
    Moves linkParts h { h with u := u, deltaDue := due, resetDue := reset } := by
  refine ⟨fun y hy => ?_, id, fun z => ⟨z.roster, z.units, deltas z.deltas, z.ev, z.buffer, z.ops, z.opIds⟩, id⟩
  cases y <;> first | exact rfl | simp [linkParts] at hy

/-- A reset that a happening begins. -/
theorem moves_reset (r : Option Bool) : Moves linkParts h { h with resetDue := r } := by
  refine Moves.unjudged (fun y hy => ?_) id
  cases y <;> first | exact rfl | simp [linkParts, Part.judged] at hy

/-- U's record goes to DOWN, and a reset begins where one is due. -/
theorem moves_uDown : Moves linkParts h { h with u := h.u.down, resetDue := h.resetDue.or h.u.tx.waitingReset } :=
  moves_uLink h _ fun _ => Nat.zero_le _

theorem moves_upTeardown : Moves linkParts h (upTeardown h) := by
  unfold upTeardown
  simp only
  have parted : Moves linkParts h { h with
      ops := { h.ops with entries := h.ops.entries.filter fun e => !e.upstreamForward },
      u := { h.u with tierKnown := false, recTier := none, recPath := none } } :=
    (moves_filterOps h _ rfl).trans (moves_uLink _ _ id)
  exact (parted.trans ((Moves.foldl (fun g q => moves_tearBelow g q) _ _).trans (moves_dropDrain _).calm.calmLink)).trans
    (moves_uDown _)

theorem moves_startUplink (tier : Byte) (path : Path) : Moves linkParts h (startUplink tier path h) := by
  unfold startUplink
  simp only
  refine Moves.trans ?_ (moves_beginDump _ _).late.endLink
  refine Moves.trans ?_ (moves_uLink _ _ id)
  exact Moves.trans (moves_uLink h { h.u with recTier := some (tier.toNat + 1), recPath := some path } id)
    (moves_sendU _ _).late.endLink

theorem moves_takeProbe (tier : Byte) (path : Path) : Moves linkParts h (takeProbe tier path h) := by
  unfold takeProbe
  refine Moves.ite (fun _ => ?_) fun _ => Moves.refl _ h
  exact (Moves.ite (fun _ => moves_upTeardown h) fun _ => Moves.refl _ h).trans (moves_startUplink _ _ _)

theorem moves_firstUp : Moves linkParts h (firstUp h) := by
  unfold firstUp
  simp only
  refine Moves.trans ?_ ((moves_queueHolding _).trans (moves_queueOddHolding _)).calm.calmLink
  refine Moves.trans ?_ ((moves_reexamine (p := .d1) _).link.trans (moves_reexamine (p := .d2) _).link)
  exact moves_uLink h _ id

theorem moves_takeSyncAck : Moves linkParts h (takeSyncAck h) := by
  unfold takeSyncAck
  refine Moves.ite (fun _ => ?_) fun _ => Moves.refl _ h
  simp only
  refine Moves.trans ?_ (moves_drainResumes _).late.endLink
  refine Moves.when ?_ fun _ => moves_firstUp _
  exact moves_uLink h _ id

theorem moves_takeResync : Moves lateParts h (takeResync h) :=
  Moves.ite (fun _ => moves_beginDump h _) fun _ => Moves.refl _ h

theorem moves_ackExpired : Moves lateParts h (ackExpired h) := by
  unfold ackExpired
  split
  · exact moves_beginDump h _
  · exact Moves.refl _ h

theorem moves_takeLinkReset : Moves linkParts h (takeLinkReset h) :=
  Moves.ite (fun _ => moves_upTeardown h) fun _ => Moves.refl _ h

theorem moves_takeProbeReply (rackId : Word32) (rackClass : Word16) (revision : Byte) :
    Moves (portParts p) h (takeProbeReply p rackId rackClass revision h) := by
  unfold takeProbeReply
  simp only
  split
  · exact (moves_setD h _).trans (moves_due _)
  all_goals exact Moves.refl _ h

theorem moves_takeInfo (rackId : Word32) (rackClass : Word16) : Moves (portParts p) h (takeInfo p rackId rackClass h) :=
  moves_setD h _

theorem moves_linkRestart : Moves linkParts h (linkRestart p h) := by
  unfold linkRestart
  split
  · exact (moves_downTeardown h _ _).trans (moves_reexamine _).link
  · exact (moves_downTeardown h _ _).trans (moves_reexamine _).link
  · exact (moves_downTeardown h _ _).trans (moves_reexamine _).link
  · exact (moves_downTeardown h _ _).trans (moves_reexamine _).link
  · exact (moves_reexamine (p := p) h).link

theorem moves_probeExpired : Moves (portParts p) h (probeExpired p h) := by
  unfold probeExpired
  simp only
  split
  · exact moves_setD h _
  · exact Moves.refl _ h

theorem moves_keepaliveExpiredU : Moves lateParts h (keepaliveExpiredU h) := by
  unfold keepaliveExpiredU
  split
  · refine Moves.ite (fun _ => Moves.trans ?_ (moves_sendU _ _)) fun _ => Moves.refl _ h
    exact moves_u h (due := h.deltaDue) rfl rfl rfl rfl id
  · exact Moves.refl _ h

theorem moves_keepaliveExpiredD : Moves (portParts p) h (keepaliveExpiredD p h) := by
  unfold keepaliveExpiredD
  simp only
  split
  · exact Moves.ite (fun _ => moves_setD h _) fun _ => Moves.refl _ h
  · exact Moves.refl _ h

theorem moves_lossExpiredU : Moves linkParts h (lossExpiredU h) := by
  unfold lossExpiredU
  split
  · exact Moves.ite (fun _ => moves_upTeardown h) fun _ => Moves.refl _ h
  · exact Moves.refl _ h

theorem moves_lossExpiredD : Moves linkParts h (lossExpiredD p h) := by
  unfold lossExpiredD
  simp only
  split
  · exact Moves.ite (fun _ => (moves_downTeardown h _ _).trans (moves_reexamine _).link) fun _ => Moves.refl _ h
  · exact Moves.refl _ h

theorem moves_hopExpired (op : Byte) : Moves linkParts h (hopExpired op h) := by
  unfold hopExpired
  split
  · exact moves_passRefusal h _ _
  · exact Moves.refl _ h

theorem moves_takeForwardReply (tag : Byte) (kind : ReplyKind) (payload : List Byte) :
    Moves linkParts h (takeForwardReply p tag kind payload h) := by
  unfold takeForwardReply
  split
  · exact moves_passUp h _ _ _
  · exact Moves.refl _ h

theorem moves_carrierChangeU (new : Filter) : Moves linkParts h (carrierChangeU new h) := by
  unfold carrierChangeU
  simp only
  exact Moves.when (moves_uLink h _ id) fun _ => moves_upTeardown _

theorem moves_carrierChangeD (new : Filter) : Moves linkParts h (carrierChangeD p new h) := by
  unfold carrierChangeD
  simp only
  refine Moves.trans (h' := h.setD p { h.dl p with filter := new }) (moves_setD (p := p) h _).link ?_
  refine Moves.ite (fun _ => (moves_reexamine _).link) fun _ => ?_
  exact Moves.ite (fun _ => moves_downTeardown _ _ _) fun _ => Moves.refl _ _

theorem moves_frameSentU : Moves linkParts h (frameSentU h) := by
  unfold frameSentU
  split
  · exact Moves.refl _ h
  · split
    · exact moves_reset h _
    · simp only
      exact Moves.when (moves_uLink h _ id) fun _ => (moves_formDumpFrame _).late.endLink

theorem moves_frameSentD : Moves (portParts p) h (frameSentD p h) := by
  unfold frameSentD
  simp only
  split
  · exact Moves.refl _ h
  · exact moves_setD h _

end

end Sys2Proof.Machine
end

section
/-! PROOF. The moves of the requests, of the link messages, of the host link and of the end of a happening; and that every
step keeps the invariants. -/

namespace Sys2Proof.Machine

section
variable (h : Hap)

/-! ### The requests -/

/-- Storing bytes in staging beside the part-written ones keeps the copies as the statements want them. -/
theorem writeAll_sound {d : Desc} {page offset : Nat} {data : List Byte} (inside : page ≤ 7)
    (free : touchesProtected page offset data.length = false) (sound : d.sound) :
    Desc.sound { d with staging := d.staging.writeAll (pageAddr page offset) data } := by
  obtain ⟨canonical, zero, one, crcs⟩ := sound
  simp only [Desc.canonical, Bool.and_eq_true] at canonical
  obtain ⟨⟨staging, bank0⟩, bank1⟩ := canonical
  simp only [touchesProtected, Bool.or_eq_false_iff, Bool.and_eq_false_imp, decide_eq_true_eq, decide_eq_false_iff_not,
    Nat.not_lt] at free
  obtain ⟨header, short⟩ := free
  have fits : pageAddr page offset + data.length ≤ copySize := by
    simp only [pageAddr, copySize]
    omega
  have outside : ∀ a, ¬ (pageAddr page offset ≤ a ∧ a < pageAddr page offset + data.length) →
      (d.staging.writeAll (pageAddr page offset) data).read a = d.staging.read a := fun a ha => by
    rw [Memory.read_writeAll a fits staging, if_neg ha]
  refine ⟨by simp [Desc.canonical, Memory.wf_writeAll fits staging, bank0, bank1], ?_, ?_, fun q hq => ⟨?_, ?_⟩⟩
  · exact (outside 0 fun c => by simp only [pageAddr] at c; exact absurd (header (by omega)) (by omega)).trans zero
  · exact (outside 1 fun c => by simp only [pageAddr] at c; exact absurd (header (by omega)) (by omega)).trans one
  · exact (outside _ (by simp only [pageAddr]; omega)).trans (crcs q hq).1
  · exact (outside _ (by simp only [pageAddr]; omega)).trans (crcs q hq).2

theorem moves_reqDescWrite (page offset : Nat) (data : List Byte) : Moves everything h (reqDescWrite page offset data h).1 := by
  unfold reqDescWrite
  split
  · exact Moves.refl _ h
  · next inside =>
    split
    · exact Moves.refl _ h
    · next free =>
      split
      · exact Moves.refl _ h
      · have page7 : page ≤ 7 := by omega
        exact ⟨fun y hy => (by cases hy), writeAll_sound page7 (by simpa using free),
          fun z => ⟨z.roster, z.units, z.deltas, z.ev, z.buffer, z.ops, z.opIds⟩, id⟩

theorem moves_relay {p : DPort} (o : Origin) (rest : Path) (kind : Byte) (payload : List Byte) (ms : Nat)
    (free : h.ops.free = true) : Moves (portParts p) h (relay o p rest kind payload ms h) :=
  (moves_take h _ _ _ _ free).trans (moves_sendD _ _)

theorem moves_reqForward (o : Origin) (path kind : Byte) (payload : List Byte) :
    Moves linkParts h (reqForward o path kind payload h).1 := by
  unfold reqForward
  split
  · exact Moves.refl _ h
  · exact Moves.refl _ h
  · split
    · exact Moves.refl _ h
    · split
      · exact Moves.refl _ h
      · split
        · exact Moves.refl _ h
        · split
          · exact Moves.refl _ h
          · next free => exact (moves_relay h o _ kind payload _ (by simpa using free)).link

theorem moves_onSlot {f : SlotId → Hap → Hap × Answer} (m : ∀ i, Moves (slotParts i) h (f i h).1) (slot : Byte) :
    Moves everything h (onSlot slot f h).1 := by
  unfold onSlot
  split
  · exact (m _).any
  · exact Moves.refl _ h

theorem moves_reqSlotConfigure (policy settleTime delay limit : Byte) (i : SlotId) :
    Moves (slotParts i) h (reqSlotConfigure policy settleTime delay limit i h).1 := by
  unfold reqSlotConfigure
  split
  · exact Moves.refl _ h
  · split
    · exact Moves.refl _ h
    · exact moves_configureSlot h _ _ _ _

theorem moves_reqSlotPermit (value : Byte) (i : SlotId) : Moves (slotParts i) h (reqSlotPermit value i h).1 := by
  unfold reqSlotPermit
  split
  · exact Moves.refl _ h
  · exact moves_permitSlot h _

theorem moves_reqSlotResume (i : SlotId) : Moves (slotParts i) h (reqSlotResume i h).1 := by
  unfold reqSlotResume
  split
  · exact moves_resumeSlot h
  · exact Moves.refl _ h

theorem moves_reqSlotEject (o : Origin) (i : SlotId) : Moves (slotParts i) h (reqSlotEject o i h).1 := by
  have taken : Moves (slotParts i) h
      (if h.ops.free then
        (ejectSlot i h.ops.nextOp { h with ops := h.ops.take .eject o none none }, Answer.accepted h.ops.nextOp)
      else (h, Answer.refuse .busy 0)).1 := by
    split
    · next free => exact (moves_takeSlot h _ o free).trans (moves_ejectSlot _ _)
    · exact Moves.refl _ h
  unfold reqSlotEject
  split
  · exact taken
  · exact taken
  all_goals exact Moves.refl _ h

theorem moves_reqRackConfigure (width timeout : Byte) : Moves everything h (reqRackConfigure width timeout h).1 := by
  unfold reqRackConfigure
  split
  · exact Moves.refl _ h
  · exact Moves.unjudged (fun y hy => by cases y <;> first | exact rfl | simp [everything, Part.judged] at hy) id

theorem moves_reqDescCommit (o : Origin) (reannounce : Byte) : Moves (slotParts 0) h (reqDescCommit o reannounce h).1 := by
  unfold reqDescCommit
  split
  · exact Moves.refl _ h
  · split
    · exact Moves.refl _ h
    · split
      · exact Moves.refl _ h
      · split
        · exact Moves.refl _ h
        · next free => exact (moves_takeSlot h _ o (by simpa using free)).trans (moves_beginCommit _ _ _)

theorem reqRosterRead_same (start count : Nat) (expected : Option Word32) : (reqRosterRead start count expected h).1 = h := by
  unfold reqRosterRead
  split
  · rfl
  · split
    · rfl
    · split <;> rfl

theorem moves_reqBudgetSet (n : Nat) : Moves everything h (reqBudgetSet n h).1 := by
  unfold reqBudgetSet
  split
  · exact Moves.refl _ h
  · next high =>
    split
    · exact Moves.refl _ h
    · next low => exact moves_budgetSet h (by omega) (by omega)

theorem moves_reqLinkRestart (port : Byte) : Moves linkParts h (reqLinkRestart port h).1 := by
  unfold reqLinkRestart
  split
  · exact Moves.refl _ h
  · exact moves_linkRestart h

theorem moves_reqRescan (o : Origin) : Moves linkParts h (reqRescan o h).1 := by
  unfold reqRescan
  split
  · exact Moves.refl _ h
  · next ok =>
    have free : h.ops.free = true := by simp_all
    exact (moves_take (p := .d1) h _ o none none free).link.trans (moves_beginRescan _ _)

theorem moves_reqEventFetch (n : Nat) : Moves evParts h (reqEventFetch n h).1 := by
  unfold reqEventFetch
  split
  · exact Moves.refl _ h
  · exact moves_fetchEffect h

theorem moves_reqEventAck (seqs : List Word16) : Moves evParts h (reqEventAck seqs h).1 := by
  unfold reqEventAck
  split
  · exact Moves.refl _ h
  · exact moves_ackEffect h seqs

theorem moves_reqEventSetup (kind setting : Byte) : Moves everything h (reqEventSetup kind setting h).1 := by
  unfold reqEventSetup
  split
  · exact moves_setupEffect h _ _
  · exact Moves.refl _ h

theorem innerForward_same (path : Byte) : (innerForward path h).1 = h := by
  unfold innerForward
  split <;> rfl

theorem reqPartReset_same (keep : Byte) : (reqPartReset keep h).1 = h := by
  unfold reqPartReset
  split <;> rfl

theorem reqDescRead_same (copy page offset n : Nat) : (reqDescRead copy page offset n h).1 = h := by
  unfold reqDescRead
  split
  · rfl
  · split <;> rfl

/-- A request that only answers. -/
theorem moves_same {L : Part → Bool} {x : Hap × Answer} (e : x.1 = h) : Moves L h x.1 := by rw [e]; exact Moves.refl _ h

theorem moves_execute (o : Origin) (r : Req) : Moves everything h (execute o r h).1 := by
  cases r with
  | hello | rosterSummary | budgetStatus | branchStatus => exact Moves.refl _ h
  | partReset keep => exact moves_same h (reqPartReset_same h keep)
  | forward path kind payload =>
    change Moves everything h (if o.inner then innerForward path h else reqForward o path kind payload h).1
    split
    · exact moves_same h (innerForward_same h path)
    · exact (moves_reqForward h o path kind payload).any
  | slotConfigure slot policy settleTime delay limit => exact moves_onSlot h (moves_reqSlotConfigure h _ _ _ _) slot
  | slotPermit slot value => exact moves_onSlot h (moves_reqSlotPermit h value) slot
  | slotResume slot => exact moves_onSlot h (moves_reqSlotResume h) slot
  | slotEject slot => exact moves_onSlot h (moves_reqSlotEject h o) slot
  | slotStatus slot => exact moves_onSlot h (fun _ => Moves.refl _ h) slot
  | rackConfigure width timeout => exact moves_reqRackConfigure h width timeout
  | descWrite page offset data => exact moves_reqDescWrite h _ _ data
  | descRead copy page offset n => exact moves_same h (reqDescRead_same h _ _ _ _)
  | descCommit reannounce => exact (moves_reqDescCommit h o reannounce).any
  | rosterRead start count expected => exact moves_same h (reqRosterRead_same h _ _ expected)
  | budgetSet n => exact moves_reqBudgetSet h _
  | linkRestart port => exact (moves_reqLinkRestart h port).any
  | rescan => exact (moves_reqRescan h o).any
  | eventFetch n =>
    change Moves everything h (if o.inner then (h, Answer.refuse .notAtBranch 0) else reqEventFetch n.toNat h).1
    split
    · exact Moves.refl _ h
    · exact (moves_reqEventFetch h _).any
  | eventAck seqs =>
    change Moves everything h (if o.inner then (h, Answer.refuse .notAtBranch 0) else reqEventAck seqs h).1
    split
    · exact Moves.refl _ h
    · exact (moves_reqEventAck h seqs).any
  | eventSetup kind setting => exact moves_reqEventSetup h kind setting

theorem moves_judge (o : Origin) (kind : Byte) (payload : List Byte) : Moves everything h (judge o kind payload h).1 := by
  unfold judge
  split
  · exact Moves.refl _ h
  · split
    · exact Moves.refl _ h
    · exact moves_execute h o _

/-! ### Link messages -/

theorem moves_answerUp (tag : Byte) (a : Answer) : Moves lateParts h (answerUp tag a h) := by
  unfold answerUp
  split
  · exact moves_sendUMarked h _ _
  · exact Moves.refl _ h

theorem moves_executeInner (tag kind : Byte) (payload : List Byte) : Moves everything h (executeInner tag kind payload h) :=
  (moves_judge h _ _ _).trans (moves_answerUp _ _ _).any

theorem moves_takeForwardRequest (tag path kind : Byte) (payload : List Byte) :
    Moves everything h (takeForwardRequest tag path kind payload h) := by
  unfold takeForwardRequest
  split
  · exact (moves_answerUp h _ _).any
  · exact moves_executeInner h _ _ _
  · split
    · exact (moves_answerUp h _ _).any
    · split
      · exact (moves_answerUp h _ _).any
      · split
        · exact (moves_answerUp h _ _).any
        · next free => exact (moves_relay h _ _ _ _ _ (by simpa using free)).any

theorem moves_heardU : Moves linkParts h (heardU h) :=
  Moves.ite (fun _ => moves_uLink h _ id) fun _ => Moves.refl _ h

theorem moves_heardD {p : DPort} : Moves (portParts p) h (heardD p h) :=
  Moves.ite (fun _ => moves_setD h _) fun _ => Moves.refl _ h

theorem moves_takeActiveU (m : LinkMsg) : Moves everything h (takeActiveU m h) := by
  cases m with
  | probe tier path => exact (moves_takeProbe h tier path).any
  | syncAck => exact (moves_takeSyncAck h).any
  | deltaAck seq => exact (moves_takeDeltaAck h seq).any
  | resync => exact (moves_takeResync h).any
  | eventAck item seq => exact (moves_takeEventAck h item seq).any
  | forwardRequest tag path kind payload => exact moves_takeForwardRequest h tag path kind payload
  | linkReset => exact (moves_takeLinkReset h).any
  | _ => exact Moves.refl _ h

theorem moves_takeDownU (m : LinkMsg) : Moves linkParts h (takeDownU m h) := by
  cases m with
  | probe tier path => exact moves_takeProbe h tier path
  | _ => exact Moves.refl _ h

theorem moves_linkInU (m : LinkMsg) : Moves everything h (linkInU m h) := by
  unfold linkInU
  split
  · exact Moves.refl _ h
  · exact Moves.ite (fun _ => (moves_heardU h).any.trans (moves_takeActiveU _ m)) fun _ => (moves_takeDownU h m).any

theorem moves_takeActiveD {p : DPort} (m : LinkMsg) : Moves linkParts h (takeActiveD p m h) := by
  cases m with
  | syncBegin count cause => exact (moves_takeSyncBegin (p := p) h _ cause).link
  | syncEntry ordinal body => exact (moves_takeSyncEntry (p := p) h _ body).link
  | syncEnd count flags => exact (moves_takeSyncEnd (p := p) h _ flags).link
  | delta seq body => exact (moves_takeDelta (p := p) h seq body).link
  | eventUp e => exact (moves_takeEventUp (p := p) h e).link
  | conditionClear kind locus seq => exact (moves_takeConditionClear (p := p) h kind locus seq).link
  | info rackId rackClass => exact (moves_takeInfo (p := p) h rackId rackClass).link
  | forwardReply tag kind payload => exact moves_takeForwardReply h tag kind payload
  | _ => exact Moves.refl _ h

theorem moves_takeProbingD {p : DPort} (m : LinkMsg) : Moves (portParts p) h (takeProbingD p m h) := by
  cases m with
  | probeReply rackId rackClass revision => exact moves_takeProbeReply h rackId rackClass revision
  | _ => exact Moves.refl _ h

theorem moves_linkInD {p : DPort} (m : LinkMsg) : Moves linkParts h (linkInD p m h) := by
  unfold linkInD
  split
  · exact (moves_heardD h).link.trans (moves_takeActiveD _ m)
  · exact (moves_heardD h).link.trans (moves_takeActiveD _ m)
  · exact (moves_takeProbingD h m).link
  all_goals exact Moves.refl _ h

theorem moves_linkIn (port : Port) (m : LinkMsg) : Moves everything h (linkIn port m h) := by
  cases port with
  | u => exact moves_linkInU h m
  | d p => exact (moves_linkInD h m).any

theorem moves_setRx (port : Port) (rx : Rx) : Moves linkParts h (setRx port rx h) := by
  cases port with
  | u => exact moves_uLink h _ id
  | d p => exact (moves_setD (p := p) h _).link

theorem moves_linkByteIn (port : Port) (b : Byte) : Moves everything h (linkByteIn port b h) := by
  unfold linkByteIn
  simp only
  refine Moves.trans (moves_setRx h port ((h.portRx port).take b).rx).any ?_
  split
  · exact moves_linkIn _ _ _
  · exact Moves.refl _ _

theorem moves_linkFrameOut (port : Port) : Moves linkParts h (linkFrameOut port h) := by
  cases port with
  | u => exact moves_frameSentU h
  | d p => exact (moves_frameSentD (p := p) h).link

/-! ### The host link -/

/-- A change of the host link that makes no more of the request buffer. -/
theorem moves_host (l : HostLink) (buffer : h.host.buffer.length ≤ bufferSize → l.buffer.length ≤ bufferSize) :
    Moves everything h { h with host := l } :=
  ⟨fun y hy => (by cases hy), id, fun z => ⟨z.roster, z.units, z.deltas, z.ev, buffer z.buffer, z.ops, z.opIds⟩, id⟩

theorem moves_answerHost (f : HostFrame) (a : Answer) : Moves everything h (answerHost f a h) := by
  have remembered : ∀ r, Moves everything h (remember f r h) := fun r => moves_host h _ id
  unfold answerHost
  split
  · exact (remembered _).trans (moves_handHost _ _).any
  · split
    · exact remembered _
    all_goals exact Moves.refl _ h

theorem moves_judgeHost (f : HostFrame) : Moves everything h (judgeHost f h).1 := by
  unfold judgeHost
  split
  · exact Moves.refl _ h
  · exact moves_judge h _ _ _

theorem moves_executeHost (f : HostFrame) : Moves everything h (executeHost f h) :=
  (moves_judgeHost h f).trans (moves_answerHost _ f _)

theorem moves_handleFrame (f : HostFrame) : Moves everything h (handleFrame f h) := by
  unfold handleFrame
  split
  · exact (moves_handHost h _).any
  · split
    · exact moves_executeHost h f
    · split
      · split
        · exact (moves_handHost h _).any
        · exact Moves.refl _ h
      · exact moves_executeHost h f

theorem moves_takeRequests : ∀ (n : Nat) (h : Hap), Moves everything h (takeRequests n h)
  | 0, h => Moves.refl _ h
  | n + 1, h => by
    unfold takeRequests
    split
    · exact Moves.refl _ h
    · split
      · exact Moves.refl _ h
      · next f rest hb =>
        refine Moves.trans (Moves.trans ?_ (moves_handleFrame _ f)) (moves_takeRequests n _)
        exact moves_host h _ fun le => by
          rw [hb, List.length_cons] at le
          exact Nat.le_of_succ_le le

theorem moves_takeBuffered : Moves everything h (takeBuffered h) := moves_takeRequests _ h

theorem moves_frameError (cause tag : Byte) : Moves evParts h (frameError cause tag h) := moves_raiseLatched h _ _ _

theorem moves_hostFrameIn (f : HostFrame) : Moves everything h (hostFrameIn f h) := by
  unfold hostFrameIn
  split
  · next room =>
    refine Moves.trans ?_ (moves_takeBuffered _)
    exact moves_host h _ fun _ => by simpa using room
  · unfold overrun
    split
    · exact (moves_handHost h _).any
    · exact (moves_frameError h _ _).any

theorem moves_judgeFrame (f : RxFrame) : Moves everything h (judgeFrame f h) :=
  Moves.ite (fun _ => moves_hostFrameIn h _) fun _ => (moves_frameError h _ _).any

theorem moves_hostByteIn (b : Byte) : Moves everything h (hostByteIn b h) := by
  unfold hostByteIn
  simp only
  refine Moves.trans (moves_host h { h.host with rx := (h.host.rx.take b).rx } id) ?_
  split
  · exact moves_judgeFrame _ _
  · exact Moves.refl _ _

theorem moves_hostGapExpired : Moves everything h (hostGapExpired h) := moves_host h _ id

theorem moves_hostFrameOut : Moves everything h (hostFrameOut h) := by
  unfold hostFrameOut
  split
  · exact Moves.refl _ h
  · split
    · exact (moves_reset h _).any
    · refine Moves.trans ?_ (moves_takeBuffered _)
      exact moves_host h _ id

/-! ### Lines and timers -/

theorem moves_lineLevel (line : Line) (level : Bool) : Moves everything h (lineLevel line level h) := by
  unfold lineLevel
  split
  · exact (moves_slotFilterChange h _).any
  · exact (moves_carrierChangeU h _).any
  · exact (moves_carrierChangeD h _).any

theorem moves_lineSettled (line : Line) : Moves everything h (lineSettled line h) := by
  unfold lineSettled
  split
  · exact (moves_slotFilterChange h _).any
  · exact (moves_carrierChangeU h _).any
  · exact (moves_carrierChangeD h _).any

theorem moves_keepaliveExpired (port : Port) : Moves linkParts h (keepaliveExpired port h) := by
  cases port with
  | u => exact (moves_keepaliveExpiredU h).late.endLink
  | d p => exact (moves_keepaliveExpiredD (p := p) h).link

theorem moves_lossExpired (port : Port) : Moves linkParts h (lossExpired port h) := by
  cases port with
  | u => exact moves_lossExpiredU h
  | d p => exact moves_lossExpiredD h

end

end Sys2Proof.Machine
end

section
/-! PROOF. The end of a happening, and the step: every step keeps the invariants (O58 to O60), and reset has them (O57). -/

namespace Sys2Proof.Machine

section
variable {h : Hap}

/-! ### The end of a happening -/

/-- Behind settling, overflow recovery is the last to touch the roster's entries and markers. -/
theorem closing_eq (h : Hap) : closing h =
    attend (drainIfDue (sendDeltasIfDue (handUpward (advanceGeneration (recomputeFlags
      (overflowRecovery (settleIfDue h))))))) := rfl

theorem moves_behindRecovery (h : Hap) : Moves lateParts h
    (attend (drainIfDue (sendDeltasIfDue (handUpward (advanceGeneration (recomputeFlags h)))))) :=
  (moves_recomputeFlags h).trans <| (moves_advanceGeneration _).trans <| (moves_handUpward _).trans <|
    (moves_sendDeltasIfDue _).trans <| (moves_drainIfDue _).trans (moves_attend _)

theorem Moves.portEnd {h h' : Hap} {p : DPort} (m : Moves (portParts p) h h') (ops : Part.same h h' .ops)
    (rescan : Part.same h h' .rescan) (remote : Part.same h h' .remoteConds) (keys : Part.same h h' .keys) :
    Moves endParts h h' := by
  refine ⟨fun x hx => ?_, m.copies, m.sizes, m.law⟩
  cases x
  case ops => exact ops
  case rescan => exact rescan
  case remoteConds => exact remote
  case keys => exact keys
  case port q => cases hx
  all_goals first | exact m.frame _ rfl | cases hx

/-- What recovery of a port leaves beside the port, the markers and the event unit. -/
theorem moves_recovery (h : Hap) : Moves endParts h (overflowRecovery h) := by
  have ask : ∀ (p : DPort) (h : Hap), Moves endParts h (askDump p h) := fun p h => by
    refine (moves_askDump (p := p) h).portEnd ?_ ?_ ?_ ?_ <;>
    · unfold askDump
      simp only
      split
      · cases p <;> exact rfl
      · exact rfl
  have clear : ∀ (p : DPort) (h : Hap), Moves endParts h (clearRefused p h) := fun p h => by
    refine Moves.ite (fun _ => Moves.trans ?_ (moves_reckonOverflow _).calm.calmEnd) fun _ => Moves.refl _ h
    exact ((moves_setMarker (p := p) h false nofun).stored p).portEnd rfl rfl rfl (by cases p <;> exact rfl)
  have recover : ∀ (p : DPort) (h : Hap), Moves endParts h (recoverPort p h) := fun p h =>
    Moves.ite (fun _ => (ask p h).trans (clear p _)) fun _ => Moves.refl _ h
  rw [overflowRecovery_eq]
  exact Moves.ite (fun _ => (recover .d1 h).trans (recover .d2 _)) fun _ => Moves.refl _ h

theorem moves_closing (h : Hap) : Moves endParts h (closing h) :=
  ((moves_settleIfDue h).calmEnd.trans (moves_recovery _)).trans (moves_behindRecovery _).late

/-! ### Markers stand over a full roster only -/

/-- What recovery leaves of the refused markers. -/
theorem reckonOverflow_roster (h : Hap) : (reckonOverflow h).roster.marker1 = h.roster.marker1 ∧
    (reckonOverflow h).roster.marker2 = h.roster.marker2 := by
  have := (moves_reckonOverflow h).frame .markers rfl
  simpa [Part.same] using this

theorem askDump_roster (p : DPort) (h : Hap) : (askDump p h).roster = h.roster := by
  unfold askDump
  simp only
  split
  · cases p <;> rfl
  · rfl

theorem clearRefused_marker (p : DPort) (h : Hap) : (clearRefused p h).roster.marker p = false ∧
    ∀ q, h.roster.marker q = false → (clearRefused p h).roster.marker q = false := by
  unfold clearRefused
  split
  · obtain ⟨m1, m2⟩ := reckonOverflow_roster { h with roster := h.roster.setMarker p false }
    cases p <;> refine ⟨?_, fun q hq => ?_⟩ <;> first | exact m1 | exact m2 | skip
    all_goals cases q <;> first | exact m1 | exact m2 | exact m1.trans hq | exact m2.trans hq
  · next off => exact ⟨by simpa using off, fun _ => id⟩

theorem recoverPort_marker (p : DPort) (h : Hap) : (recoverPort p h).roster.marker p = false ∧
    ∀ q, h.roster.marker q = false → (recoverPort p h).roster.marker q = false := by
  unfold recoverPort
  split
  · have c := clearRefused_marker p (askDump p h)
    rw [askDump_roster] at c
    exact c
  · next off => exact ⟨by simpa using off, fun _ => id⟩

theorem overflowRecovery_markers (sound : h.roster.sound h.dirty) :
    (overflowRecovery h).roster.marker1 = true ∨ (overflowRecovery h).roster.marker2 = true →
      h.roster.entries.length = rosterCapacity := by
  rw [overflowRecovery_eq]
  split
  · intro m
    have one := (recoverPort_marker .d2 (recoverPort .d1 h)).2 .d1 (recoverPort_marker .d1 h).1
    have two := (recoverPort_marker .d2 (recoverPort .d1 h)).1
    exact (m.elim (fun m => Bool.false_ne_true (one.symm.trans m)) fun m => Bool.false_ne_true (two.symm.trans m)).elim
  · next idle =>
    intro m
    rcases sound.2 m with full | dirty
    · exact full
    · simp only [dirty, Bool.true_and, Bool.not_eq_true', Bool.not_eq_false, Roster.full, decide_eq_true_eq] at idle
      exact Nat.le_antisymm sound.1 idle

/-! ### The invariants at the end of a happening -/

theorem start_sizes {s : State} (within : s.withinSizes) : (Hap.start s).sizesSound := by
  obtain ⟨entries, units, deltas, queue, remote, buffer, ops, opIds, distinct, markers⟩ := within
  exact ⟨⟨entries, fun m => .inl (markers m)⟩, units, deltas, ⟨queue, remote, distinct⟩, buffer, ops, opIds⟩

theorem closing_sizes (sound : h.sizesSound) : (closing h).toState.withinSizes := by
  obtain ⟨⟨size, _⟩, units, deltas, ⟨queue, remote, distinct⟩, buffer, ops, opIds⟩ := (moves_closing h).sizes sound
  refine ⟨size, units, deltas, queue, remote, buffer, ops, opIds, distinct, fun m => ?_⟩
  have late := moves_behindRecovery (overflowRecovery (settleIfDue h))
  have markers := late.frame .markers rfl
  have entries := late.frame .entries rfl
  have same := (moves_recovery (settleIfDue h)).frame .keys rfl
  simp only [Part.same, Prod.mk.injEq] at markers entries same
  rw [closing_eq, markers.1, markers.2] at m
  have full := overflowRecovery_markers ((moves_settleIfDue h).sizes sound).roster m
  have len := congrArg List.length same.1
  simp only [Roster.keys, List.length_map] at len
  rw [closing_eq, entries.1, len, full]

theorem blank_part : Desc.sound .reset :=
  ⟨rfl, rfl, rfl, fun page small => by
    have far : ¬ pageAddr page 126 < 3 ∧ ¬ pageAddr page 127 < 3 := by
      simp only [pageAddr]
      omega
    have read : ∀ a, ¬ a < 3 → Memory.read [] a = 0xFF := fun _ ha => if_neg ha
    exact ⟨read _ far.1, read _ far.2⟩⟩

theorem kept_sound {d : Desc} (sound : d.sound) : d.kept.sound := by
  obtain ⟨canonical, bytes⟩ := sound
  simp only [Desc.canonical, Bool.and_eq_true] at canonical
  obtain ⟨⟨staging, bank0⟩, bank1⟩ := canonical
  have blank : Memory.wf [] = true := rfl
  obtain ⟨_, _, _, live, _⟩ := d
  cases live <;>
    exact ⟨by simp_all [Desc.kept, Desc.setBank, Desc.canonical, Bank.other], bytes⟩

/-- What a reset leaves has the sizes and the budget law, whatever was before. -/
theorem resetTo_sound (role : Role) (rate : Rate) (desc : Desc) (s : State) :
    (resetTo role rate desc s).withinSizes ∧ (resetTo role rate desc s).budgetLaw := by
  refine ⟨⟨Nat.zero_le _, Nat.zero_le _, Nat.zero_le _, Nat.zero_le _, Nat.zero_le _, Nat.zero_le _, Nat.zero_le _,
    ⟨List.nodup_nil, List.not_mem_nil, ?_⟩, List.nodup_nil, ?_⟩, ?_⟩
  · exact (by decide : (1 : Byte) ≠ 0)
  · rintro (m | m) <;> cases m
  · refine budgetLaw_iff.mpr ⟨List.nodup_nil, nofun, Nat.le_refl 0, List.nodup_nil, fun i => ?_, nofun, fun i => ?_⟩
    · exact iff_of_false List.not_mem_nil nofun
    · rw [resetTo_pwrLine]
      exact iff_of_false nofun nofun

theorem softReset_sound (keep : Bool) {s : State} (sound : s.desc.sound) : (softReset keep s).desc.sound := by
  cases keep
  · exact blank_part
  · exact kept_sound sound

/-- An invariant that moves, the end of a happening and the resets keep is kept by a happening. -/
theorem finish_sound {s : State} (m : Moves everything (Hap.start s) h) :
    (s.desc.sound → (finish h).desc.sound) ∧ (s.withinSizes → (finish h).withinSizes) ∧
      (s.budgetLaw → (finish h).budgetLaw) := by
  unfold finish
  split
  · next keep _ =>
    have ⟨sizes, law⟩ := resetTo_sound h.role h.rate (if keep then h.desc.kept else Desc.reset) h.toState
    exact ⟨fun d => softReset_sound keep (m.copies d), fun _ => sizes, fun _ => law⟩
  · exact ⟨fun d => (moves_closing h).copies (m.copies d), fun w => closing_sizes (m.sizes (start_sizes w)),
      fun l => (moves_closing h).law (m.law l)⟩

end

/-! ### The step -/

/-- What every step keeps. -/
structure Kept (s t : State) : Prop where
  copies : s.desc.sound → t.desc.sound
  sizes : s.withinSizes → t.withinSizes
  law : s.budgetLaw → t.budgetLaw

theorem kept_happen {f : Hap → Hap} {s t : State} (m : ∀ h, Moves everything h (f h)) (e : happen f s = .next t) :
    Kept s t := by
  cases e
  obtain ⟨copies, sizes, law⟩ := finish_sound (m (Hap.start s))
  exact ⟨copies, sizes, law⟩

theorem kept_refl {s t : State} (e : Host.Outcome.next (φ := Fault) (ρ := Refusal) s = .next t) : Kept s t := by
  cases e
  exact ⟨id, id, id⟩

theorem kept_hostRow {kind tag : Byte} {payload : List Byte} {s t : State} (e : hostRow kind tag payload s = .next t) :
    Kept s t := kept_happen (fun h => moves_hostFrameIn h _) e

theorem kept_sizedHostRow {kind tag : Byte} {payload : List Byte} {s t : State}
    (e : sizedHostRow kind tag payload s = .next t) : Kept s t := by
  unfold sizedHostRow at e
  split at e
  · cases e
  · exact kept_hostRow e

theorem kept_linkRow {port : Port} {m : LinkMsg} {s t : State} (e : linkRow port m s = .next t) : Kept s t :=
  kept_happen (fun h => moves_linkIn h port m) e

theorem kept_sizedLinkRow {port : Port} {m : LinkMsg} {s t : State} (e : sizedLinkRow port m s = .next t) : Kept s t := by
  unfold sizedLinkRow at e
  split at e
  · cases e
  · exact kept_linkRow e

theorem kept_slotWrite {i : SlotId} {bytes : List Byte} {s t : State} (e : happen (slotWrite i bytes) s = .next t) :
    Kept s t := kept_happen (fun h => (moves_slotWrite h bytes).any) e

theorem kept_exec {c : Instr} {s t : State} (e : exec c s = .next t) : Kept s t := by
  cases c with
  | hardwareReset role rate =>
    cases e
    have ⟨sizes, law⟩ := resetTo_sound role rate .reset s
    exact ⟨fun _ => blank_part, fun _ => sizes, fun _ => law⟩
  | presenceInputChange line level => exact kept_happen (fun h => moves_lineLevel h line level) e
  | settleTimerExpiry line => exact kept_happen (fun h => moves_lineSettled h line) e
  | enableDelayExpiry i => exact kept_happen (fun h => (moves_delayExpired (i := i) h).any) e
  | checkinLimitExpiry i => exact kept_happen (fun h => (moves_limitExpired (i := i) h).any) e
  | ejectTimerExpiry i => exact kept_happen (fun h => (moves_ejectExpired (i := i) h).any) e
  | pulseTimerExpiry i => exact kept_happen (fun h => (moves_pulseExpired (i := i) h).any) e
  | copyingTimerExpiry => exact kept_happen moves_copyingExpired e
  | hostByteReceived b => exact kept_happen (fun h => moves_hostByteIn h b) e
  | hostGapTimerExpiry => exact kept_happen moves_hostGapExpired e
  | hostFrameSent => exact kept_happen moves_hostFrameOut e
  | requestUnknownKind | forward | descWrite | eventAck => exact kept_sizedHostRow e
  | rosterRead tag start count expected => cases expected <;> exact kept_hostRow e
  | hello | partReset | slotConfigure | slotPermit | slotResume | slotEject | slotStatus | rackConfigure | descRead
  | descCommit | rosterSummary | budgetSet | budgetStatus | branchStatus | linkRestart | rescan | eventFetch
  | eventSetup => exact kept_hostRow e
  | status | pageRead | checkIn | release | badCommand => exact kept_slotWrite e
  | slotLinkByteRead i => exact kept_happen (fun h => (moves_slotByteRead (i := i) h).any) e
  | stallTimerExpiry i => exact kept_happen (fun h => (moves_stallExpired (i := i) h).any) e
  | linkByteReceived port b => exact kept_happen (fun h => moves_linkByteIn h port b) e
  | linkGapTimerExpiry port => exact kept_happen (fun h => (moves_setRx h port _).any) e
  | linkFrameSent port => exact kept_happen (fun h => (moves_linkFrameOut h port).any) e
  | syncEntry | delta | forwardRequest => exact kept_sizedLinkRow e
  | eventUp port x =>
    change (if detailFits x.kind x.locus x.detail then linkRow port (.eventUp x) s else .next s) = _ at e
    split at e
    · exact kept_linkRow e
    · exact kept_refl e
  | forwardReply port tag kind payload =>
    change (if replyFits kind payload then sizedLinkRow port (.forwardReply tag kind payload) s else .next s) = _ at e
    split at e
    · exact kept_sizedLinkRow e
    · exact kept_refl e
  | probe | probeReply | keepalive | syncBegin | syncEnd | syncAck | resync | deltaAck | linkEventAck | conditionClear
  | info | linkReset => exact kept_linkRow e
  | probeTimerExpiry p => exact kept_happen (fun h => (moves_probeExpired (p := p) h).any) e
  | keepaliveTimerExpiry port => exact kept_happen (fun h => (moves_keepaliveExpired h port).any) e
  | lossTimerExpiry port => exact kept_happen (fun h => (moves_lossExpired h port).any) e
  | ackTimerExpiry => exact kept_happen (fun h => (moves_ackExpired h).any) e
  | syncTimerExpiry p => exact kept_happen (fun h => (moves_syncTimerExpired (p := p) h).any) e
  | deltaRetransmitExpiry => exact kept_happen (fun h => (moves_deltaRetransmit h).any) e
  | eventRetransmitExpiry => exact kept_happen (fun h => (moves_eventRetransmit h).any) e
  | hopTimerExpiry op => exact kept_happen (fun h => (moves_hopExpired h op).any) e

theorem kept_tick (s : State) : Kept s (tick s) := by
  refine ⟨fun c => c, fun within => ?_, budgetLaw_congr rfl rfl⟩
  obtain ⟨entries, units, deltas, queue, remote, buffer, ops, opIds, distinct, markers⟩ := within
  have ids : (s.ops.entries.map OpEntry.tick).map OpEntry.op = s.ops.entries.map OpEntry.op := by simp [OpEntry.tick]
  refine ⟨entries, units, deltas, queue, remote, buffer, ?_, ?_, distinct, markers⟩
  · simpa [tick] using ops
  · simpa only [OpTable.sound, OpTable.ids, tick, ids] using opIds

theorem kept_step {s t : State} (e : step s = .next t) : Kept s t := by
  unfold step at e
  split at e
  · cases e
    exact kept_tick s
  · next c rest _ =>
    obtain ⟨copies, sizes, law⟩ := kept_exec e
    exact ⟨copies, sizes, law ∘ budgetLaw_congr (s := s) rfl rfl⟩

/-- Settles O57. -/
theorem resetHasTheInvariants : Obligations.ResetHasTheInvariants := by
  unfold Obligations.ResetHasTheInvariants
  have ⟨sizes, law⟩ := resetTo_sound .root { first := false, second := false } .reset .reset
  exact ⟨blank_part.1, blank_part.2, sizes, law⟩

/-- Settles O58: the copies change in a DESC WRITE, in the SWITCH and in the resets alone. -/
theorem stepsKeepTheDescriptorCanonical : Obligations.StepsKeepTheDescriptorCanonical := by
  unfold Obligations.StepsKeepTheDescriptorCanonical
  exact fun s t canonical bytes e => (kept_step e).copies ⟨canonical, bytes⟩

/-- Settles O59. -/
theorem stepsKeepTheListsWithinTheirSizes : Obligations.StepsKeepTheListsWithinTheirSizes := by
  unfold Obligations.StepsKeepTheListsWithinTheirSizes
  exact fun s t within e => (kept_step e).sizes within

/-- Settles O60. -/
theorem stepsKeepTheBudgetLaw : Obligations.StepsKeepTheBudgetLaw := by
  unfold Obligations.StepsKeepTheBudgetLaw
  exact fun s t law e => (kept_step e).law law

end Sys2Proof.Machine
end

section
/-! PROOF. Rows: what a request's command and a link message's command do, given how they are judged; and the round trips of
the codes that the statements use. -/

namespace Sys2Proof.Machine

/-! ### Codes and fields (R172, R173) -/

theorem slotOf_slotByte (i : SlotId) : slotOf (slotByte i) = some i := by
  revert i
  decide

theorem policyOf_policyCode (p : Policy) : policyOf (policyCode p) = some p := by cases p <;> rfl

theorem boolOf_boolCode (b : Bool) : boolOf (boolCode b) = some b := by cases b <;> rfl

theorem dportOf_dportByte (p : DPort) : dportOf (dportByte p) = some p := by cases p <;> rfl

theorem evKindOf_evKindCode (k : EvKind) : evKindOf (evKindCode k) = some k := by cases k <;> rfl

/-- A flag byte is 0 or 1. -/
theorem boolOf_eq (b : Byte) : boolOf b = if b = 0 ∨ b = 1 then some (decide (b = 1)) else none := by
  revert b
  decide

theorem slotOf_none {b : Byte} (h : b = 0 ∨ 10 < b.toNat) : slotOf b = none := by
  refine dif_neg fun c => ?_
  rcases h with rfl | h
  · exact absurd c.1 (by decide)
  · omega

theorem policyOf_none {b : Byte} (h : 3 < b.toNat) : policyOf b = none := by
  unfold policyOf
  split <;> first | rfl | omega

theorem boolOf_none {b : Byte} (h : 1 < b.toNat) : boolOf b = none := by
  unfold boolOf
  split <;> first | rfl | omega

theorem of16_be16 (w : Word16) : of16 (w.extractLsb' 8 8) (w.extractLsb' 0 8) = w := by
  refine BitVec.eq_of_getLsbD_eq fun i hi => ?_
  simp only [of16, BitVec.getLsbD_append, BitVec.getLsbD_extractLsb']
  by_cases low : i < 8
  · simp [low]
  · have : i - 8 < 8 := by omega
    simp [low, this, show 8 + (i - 8) = i by omega]

theorem of32_be32 (w : Word32) :
    of32 (w.extractLsb' 24 8) (w.extractLsb' 16 8) (w.extractLsb' 8 8) (w.extractLsb' 0 8) = w := by
  refine BitVec.eq_of_getLsbD_eq fun i hi => ?_
  simp only [of32, BitVec.getLsbD_append, BitVec.getLsbD_extractLsb']
  by_cases a : i < 8
  · simp [a]
  · by_cases b : i - 8 < 8
    · simp [a, b, show 8 + (i - 8) = i by omega]
    · by_cases c : i - 8 - 8 < 8
      · simp [a, b, c, show 16 + (i - 8 - 8) = i by omega]
      · have : i - 8 - 8 - 8 < 8 := by omega
        simp [a, b, c, this, show 24 + (i - 8 - 8 - 8) = i by omega]
theorem length_flatMap_be16 (ws : List Word16) : (ws.flatMap be16).length = 2 * ws.length := by
  induction ws with
  | nil => rfl
  | cons w t ih => simp [be16] at ih ⊢; omega

theorem words16_flatMap_be16 (ws : List Word16) : words16 (ws.flatMap be16) = some ws := by
  induction ws with
  | nil => rfl
  | cons w t ih =>
    rw [List.flatMap_cons, be16, List.cons_append, List.cons_append, List.nil_append, words16, ih, of16_be16]

/-! ### Rows of the host link (R160, R162) -/

section
variable {s : State} {c : Instr} {f : HostFrame} {h' : Hap} {a : Answer} {k : ReplyKind} {payload : List Byte}

/-- The command that stands for a host frame is the frame's row. -/
theorem exec_eq_hostRow (frame : hostFrameOf c = some f) (short : f.payload.length ≤ 200) :
    exec c s = hostRow f.kind f.tag f.payload s := by
  have sized : ∀ kind tag payload, payload.length ≤ 200 → sizedHostRow kind tag payload s = hostRow kind tag payload s :=
    fun kind tag payload le => if_neg (Nat.not_lt.mpr le)
  cases c
  case rosterRead tag start count expected =>
    cases expected <;>
    · cases frame
      rfl
  case requestUnknownKind | forward | descWrite | eventAck =>
    cases frame
    exact sized _ _ _ short
  all_goals
    first
    | cases frame; done
    | cases frame
      rfl

/-- A request judged to leave a quiet happening: its reply is remembered and handed on, and nothing else is added. -/
theorem hostRow_quiet (ready : s.ready f = true) (judged : judge (.host f.tag) f.kind f.payload (Hap.start s) = (h', a))
    (quiet : h'.Quiet) (reply : a.reply = some (k, payload)) (mark : a.mark = none) :
    hostRow f.kind f.tag f.payload s = .next (h'.toState.replied f k payload) := by
  rw [hostRow_ready ready, judged]
  have answered : answerHost f a h' =
      { h' with host := h'.host.replied f k payload } := by
    simp only [answerHost, reply, mark]
    rfl
  rw [answered]
  exact congrArg Host.Outcome.next
    (finish_quiet ⟨quiet.settle, quiet.flags, quiet.dirty, quiet.delta, quiet.drain, quiet.entered, quiet.reset⟩)

/-- A request refused. -/
theorem exec_refused {code : RefCode} {d : Word16} (frame : hostFrameOf c = some f) (short : f.payload.length ≤ 200)
    (ready : s.ready f = true)
    (judged : judge (.host f.tag) f.kind f.payload (Hap.start s) = (Hap.start s, .refuse code d)) :
    exec c s = .next (s.refused f code d) := by
  rw [exec_eq_hostRow frame short]
  exact hostRow_refused ready judged

/-- A request that is answered with a reply and leaves a state by its own step alone. -/
theorem exec_replied {t : State} (frame : hostFrameOf c = some f) (short : f.payload.length ≤ 200) (ready : s.ready f = true)
    (judged : judge (.host f.tag) f.kind f.payload (Hap.start s) = ({ Hap.start s with toState := t }, a))
    (reply : a.reply = some (k, payload)) (mark : a.mark = none) : exec c s = .next (t.replied f k payload) := by
  rw [exec_eq_hostRow frame short]
  exact hostRow_quiet ready judged ⟨rfl, rfl, rfl, rfl, rfl, rfl, rfl⟩ reply mark

/-- Where the request is executed by its owning rule. -/
theorem judge_of_req {o : Origin} {kind : Byte} {bytes : List Byte} {r : Req} {h : Hap} (request : isRequest kind = true)
    (req : reqOf kind bytes = some r) : judge o kind bytes h = execute o r h := by
  simp only [judge, request, req, Bool.not_true, Bool.false_eq_true, if_false]

end

/-! ### Inner requests at a branch (R121, R122) -/

section
variable {s t : State} {tag kind : Byte} {bytes : List Byte} {h' : Hap} {a : Answer} {k : ReplyKind} {payload : List Byte}

/-- An inner request judged to leave a quiet happening: its reply goes up U. -/
theorem exec_inner_quiet (hears : s.hearsParent) (short : bytes.length ≤ 198)
    (judged : judge (.upstream tag) kind bytes (Hap.start (s.heard .u)) = (h', a)) (quiet : h'.Quiet)
    (reply : a.reply = some (k, payload)) :
    exec (.forwardRequest .u tag 0 kind bytes) s =
      .next (sendUMarked (.forwardReply tag k payload) a.mark h').toState := by
  have fits : ¬ maxPayload < (linkPayload (.forwardRequest tag 0 kind bytes)).length :=
    Nat.not_lt.mpr (Nat.add_le_add_right short 2)
  have taken : linkIn .u (.forwardRequest tag 0 kind bytes) (Hap.start s) =
      sendUMarked (.forwardReply tag k payload) a.mark h' := by
    rw [linkIn_forwardRequest_here hears, executeInner, judged]
    simp only [answerUp, reply]
  have quiet' : (linkIn .u (.forwardRequest tag 0 kind bytes) (Hap.start s)).Quiet :=
    taken ▸ ⟨quiet.settle, quiet.flags, quiet.dirty, quiet.delta, quiet.drain, quiet.entered, quiet.reset⟩
  calc exec (.forwardRequest .u tag 0 kind bytes) s
      = sizedLinkRow .u (.forwardRequest tag 0 kind bytes) s := rfl
    _ = happen (linkIn .u (.forwardRequest tag 0 kind bytes)) s := if_neg fits
    _ = _ := by rw [happen_quiet quiet', taken]

/-- A reply handed to an active U in a state where the parent has just been heard. -/
theorem sendU_toParent {h : Hap} (state : h.toState = t.heard .u) (active : t.u.state.active = true) (m : LinkMsg) :
    (sendUMarked m none h).toState = t.sentUp m := by
  simp only [sendUMarked, state]
  simp [State.heard, State.sentUp, State.toParent, restarted, active, keepaliveMs]

/-- An inner request that leaves a state by its own step alone. -/
theorem exec_inner (hears : s.hearsParent) (short : bytes.length ≤ 198)
    (judged : judge (.upstream tag) kind bytes (Hap.start (s.heard .u)) = (h', a)) (quiet : h'.Quiet)
    (state : h'.toState = t.heard .u) (active : t.u.state.active = true)
    (reply : a.reply = some (k, payload)) (mark : a.mark = none) :
    exec (.forwardRequest .u tag 0 kind bytes) s = .next (t.sentUp (.forwardReply tag k payload)) := by
  rw [exec_inner_quiet hears short judged quiet reply, mark, sendU_toParent state active]

/-- An inner request that is refused. -/
theorem exec_inner_refused {code : RefCode} {d : Word16} (hears : s.hearsParent) (short : bytes.length ≤ 198)
    (judged : judge (.upstream tag) kind bytes (Hap.start (s.heard .u)) = (Hap.start (s.heard .u), .refuse code d)) :
    exec (.forwardRequest .u tag 0 kind bytes) s =
      .next (s.sentUp (.forwardReply tag .refused (refusalPayload code d))) :=
  exec_inner hears short judged (start_quiet _) rfl hears.2 (congrArg (fun x => some (ReplyKind.refused, x))
    (List.append_nil _)) rfl

end

/-! ### Rows of the links (R108) -/

section
variable {s t : State} {port : Port} {m : LinkMsg}

/-- The command of a message whose frame is not too long is the message's row. -/
theorem sizedLinkRow_eq (short : (linkPayload m).length ≤ 200) : sizedLinkRow port m s = linkRow port m s :=
  if_neg (Nat.not_lt.mpr short)

/-- A link message that leaves a quiet happening. -/
theorem linkRow_quiet {h' : Hap} (taken : linkIn port m (Hap.start s) = h') (quiet : h'.Quiet) :
    linkRow port m s = .next h'.toState := by
  subst taken
  exact happen_quiet quiet

/-- A good frame on a D port in SYNCING or UP restarts its loss timer first (R108). -/
theorem heardD_start {p : DPort} (active : (s.dl p).state.active = true) :
    heardD p (Hap.start s) = Hap.start (s.heard (.d p)) := by
  have : (Hap.start s).dl p = s.dl p := rfl
  rw [heardD, this, if_pos active]
  cases p <;> rfl

/-- A message on an active D port is taken on the state in which the port has been heard. -/
theorem linkIn_active {p : DPort} (active : (s.dl p).state.active = true) (m : LinkMsg) :
    linkIn (.d p) m (Hap.start s) = takeActiveD p m (Hap.start (s.heard (.d p))) := by
  rw [← heardD_start active]
  have dl : (Hap.start s).dl p = s.dl p := rfl
  cases st : (s.dl p).state <;> rw [st] at active <;>
    first
    | exact absurd active (by decide)
    | simp only [linkIn, linkInD, dl, st]

/-- A message on the active U of a branch is taken on the state in which the parent has been heard. -/
theorem linkIn_heard (hears : s.hearsParent) (m : LinkMsg) :
    linkIn .u m (Hap.start s) = takeActiveU m (Hap.start (s.heard .u)) := by
  obtain ⟨branch, active⟩ := hears
  have hrole : (Hap.start s).role = .branch := branch
  have hactive : (Hap.start s).u.state.active = true := active
  simp only [linkIn, linkInU, hrole, hactive, if_true, heardU_start active]

/-- What a heard port's record is. -/
theorem heard_dl (p : DPort) : (s.heard (.d p)).dl p = { s.dl p with loss := some 60 } := by cases p <;> rfl

theorem withD_dl_self (p : DPort) (x : DLink) : (s.withD p x).dl p = x := by cases p <;> rfl

theorem withD_dl_ne {p q : DPort} (x : DLink) (ne : p ≠ q) : (s.withD p x).dl q = s.dl q := by
  cases p <;> cases q <;> first | rfl | exact absurd rfl ne

theorem withD_withD (p : DPort) (x y : DLink) : (s.withD p x).withD p y = s.withD p y := by cases p <;> rfl

theorem withD_self (p : DPort) : s.withD p (s.dl p) = s := by cases p <;> rfl

/-- Storing a port's record in a happening, as the statements store it. -/
theorem setD_start (p : DPort) (x : DLink) : (Hap.start s).setD p x = Hap.start (s.withD p x) := by cases p <;> rfl

/-- The same for a slot's records. -/
theorem setSlot_start (i : SlotId) (x : Slot) : (Hap.start s).setSlot i x = Hap.start (s.withSlot i x) := rfl
theorem setFilter_start (i : SlotId) (x : Filter) : (Hap.start s).setFilter i x = Hap.start (s.withFilter i x) := rfl
theorem setTarget_start (i : SlotId) (x : Target) : (Hap.start s).setTarget i x = Hap.start (s.withTarget i x) := rfl

/-- A happening that leaves the beginning of another has that state for its end. -/
theorem happen_start {f : Hap → Hap} (e : f (Hap.start s) = Hap.start t) : happen f s = .next t := by
  rw [happen_quiet (e ▸ start_quiet t), e]
  rfl

end

end Sys2Proof.Machine
end

section
/-! PROOF. The step, the raw lines, the enable delay, and the requests at a root whose effect is one stored field: each
leaves a quiet happening, so its command's own step is the whole of it. -/

namespace Sys2Proof.Machine

/-- Settles O1. -/
theorem stepRunsTheFrontCommand : Obligations.StepRunsTheFrontCommand := by
  unfold Obligations.StepRunsTheFrontCommand
  exact ⟨fun c rest s => rfl, fun s empty => by rw [step, empty]⟩

/-! ### Raw lines (R27) -/

/-- What a level makes of a filter, as the statements write it. -/
theorem level_eq (f : Filter) (ms : Nat) (b : Bool) :
    f.level ms b = if b = false then { raw := false, state := .empty, timer := none }
      else if f.state = .empty then { raw := true, state := .settling, timer := some ms }
      else { f with raw := true } := by
  cases b
  · rfl
  · cases st : f.state <;> simp [Filter.level, st]

/-- A change of level is never presence arriving, and is presence loss only of a line in PRESENT found inactive. -/
theorem level_no_happening {f : Filter} {b : Bool} (ms : Nat) (keeps : b = true ∨ f.state ≠ .present) :
    arrived f (f.level ms b) = false ∧ departed f (f.level ms b) = false := by
  cases b <;> cases st : f.state <;>
    first
    | simp [arrived, departed, Filter.carrier, Filter.level, st]; done
    | simp [st] at keeps

/-- Settles O3. -/
theorem rawLineMovesItsFilter : Obligations.RawLineMovesItsFilter := by
  unfold Obligations.RawLineMovesItsFilter
  intro level s
  refine ⟨fun i keeps => ?_, fun keeps => ?_, fun p keeps => ?_⟩
  · obtain ⟨noArrival, noLoss⟩ := level_no_happening (s.slot i).settle.toNat keeps
    rw [← level_eq]
    refine happen_start (f := lineLevel (.slot i) level) ?_
    have filter : (Hap.start s).filter i = s.filter i := rfl
    have slot : (Hap.start s).slot i = s.slot i := rfl
    simp only [lineLevel, slotFilterChange, filter, slot, noArrival, noLoss, Bool.false_eq_true, if_false]
    rfl
  · obtain ⟨-, noLoss⟩ := level_no_happening portSettle keeps
    rw [show (20 : Nat) = portSettle from rfl, ← level_eq]
    refine happen_start (f := lineLevel (.carrier .u) level) ?_
    have filter : (Hap.start s).u.filter = s.u.filter := rfl
    simp only [lineLevel, carrierChangeU, filter, noLoss, Bool.and_false, Bool.false_and, Bool.false_eq_true, if_false]
    rfl
  · obtain ⟨noArrival, noLoss⟩ := level_no_happening portSettle keeps
    rw [show (20 : Nat) = portSettle from rfl, ← level_eq]
    refine happen_start (f := lineLevel (.carrier (.d p)) level) ?_
    have dl : (Hap.start s).dl p = s.dl p := rfl
    simp only [lineLevel, carrierChangeD, dl, noArrival, noLoss, Bool.false_and, Bool.false_eq_true, if_false]
    exact setD_start p _

/-- Settles O6. -/
theorem enableDelayExpiryEnables : Obligations.EnableDelayExpiryEnables := by
  unfold Obligations.EnableDelayExpiryEnables
  intro i s
  have timed : ((Hap.start s).slot i).timed .delaying = true ↔ (s.slot i).state = .delaying ∧ (s.slot i).timer ≠ none := by
    simp [Slot.timed, Option.isSome_iff_ne_none]
    rfl
  refine happen_start (f := delayExpired i) ?_
  by_cases running : (s.slot i).state = .delaying ∧ (s.slot i).timer ≠ none
  · rw [if_pos running, delayExpired, if_pos (timed.mpr running)]
    rfl
  · rw [if_neg running, delayExpired, if_neg (running ∘ timed.mp)]

/-! ### Settings, the descriptor, PART RESET and ROSTER READ -/

/-- Settles O20. -/
theorem rackConfigureStoresBothSettings : Obligations.RackConfigureStoresBothSettings := by
  unfold Obligations.RackConfigureStoresBothSettings
  intro tag width timeout s ready
  have zero : ∀ b : Byte, b.toNat < 1 ↔ b = 0 := by decide
  have judged : judge (.host tag) 0x15 [width, timeout] (Hap.start s) = reqRackConfigure width timeout (Hap.start s) :=
    judge_of_req (r := .rackConfigure width timeout) rfl rfl
  simp only [zero]
  split
  · next out =>
    exact exec_refused rfl (by simp) ready (judged.trans (if_pos out))
  · next fits =>
    exact exec_replied rfl (by simp) ready (judged.trans (if_neg fits)) rfl rfl

/-- Settles O10. -/
theorem descWriteStoresInStaging : Obligations.DescWriteStoresInStaging := by
  unfold Obligations.DescWriteStoresInStaging
  intro tag page offset length data s short ready
  have fits : (page :: offset :: length :: data).length ≤ 200 := by simp; omega
  by_cases len : data.length = length.toNat
  · have judged : judge (.host tag) 0x20 (page :: offset :: length :: data) (Hap.start s) =
        reqDescWrite page.toNat offset.toNat data (Hap.start s) :=
      judge_of_req (r := .descWrite page offset data) rfl (if_pos len)
    have guarded : touchesProtected page.toNat offset.toNat data.length = true ↔
        (page.toNat = 0 ∧ offset.toNat < 2) ∨ 126 < offset.toNat + data.length := by simp [touchesProtected]
    have copying : (Hap.start s).desc.copying = true ↔ ∃ c, s.desc.commit = some c ∧ c.phase = .copying := by
      have desc : (Hap.start s).desc = s.desc := rfl
      rw [desc, Desc.copying]
      cases s.desc.commit <;> simp
    rw [if_neg (not_not_intro len)]
    by_cases range : 7 < page.toNat ∨ data.length = 0 ∨ 64 < data.length ∨ 128 < offset.toNat + data.length
    · rw [if_pos range]
      exact exec_refused rfl fits ready (judged.trans (if_pos range))
    by_cases touches : (page.toNat = 0 ∧ offset.toNat < 2) ∨ 126 < offset.toNat + data.length
    · rw [if_neg range, if_pos touches]
      exact exec_refused rfl fits ready (judged.trans ((if_neg range).trans (if_pos (guarded.mpr touches))))
    by_cases busy : ∃ c, s.desc.commit = some c ∧ c.phase = .copying
    · rw [if_neg range, if_neg touches, if_pos busy]
      exact exec_refused rfl fits ready
        (judged.trans ((if_neg range).trans ((if_neg (touches ∘ guarded.mp)).trans (if_pos (copying.mpr busy)))))
    · rw [if_neg range, if_neg touches, if_neg busy]
      exact exec_replied rfl fits ready
        (judged.trans ((if_neg range).trans ((if_neg (touches ∘ guarded.mp)).trans (if_neg (busy ∘ copying.mp))))) rfl rfl
  · rw [if_pos len]
    have judged : judge (.host tag) 0x20 (page :: offset :: length :: data) (Hap.start s) =
        (Hap.start s, .refuse .badLength (word16Of (data.length + 3))) := by
      have none : reqOf 0x20 (page :: offset :: length :: data) = none := if_neg len
      rw [judge, none]
      rfl
    exact exec_refused rfl fits ready judged

theorem not_free {t : OpTable} : (!t.free) = true ↔ 4 ≤ t.entries.length := by
  rw [OpTable.free, Bool.not_eq_true', decide_eq_false_iff_not, not_lt, opTableSize]

/-- Entry into COPYING of a commit whose page count is in range. -/
theorem enterCopying_eq {h : Hap} {c : Commit} (commit : h.desc.commit = some c) (pages : headerPages h.desc.staging ≤ 8) :
    enterCopying h =
      { h with desc := { h.desc with
          commit := some { c with phase := .copying, newGen := nextGeneration h.desc.generation,
                                  timer := some (copyTime (headerPages h.desc.staging)) } } } := by
  simp only [enterCopying, commit, Nat.not_lt.mpr pages, if_false]

/-- A DESC COMMIT taken (R79 to R81). -/
theorem reqDescCommit_taken {s : State} {o : Origin} {reannounce : Byte} {flag : Bool} (named : boolOf reannounce = some flag)
    (idle : s.desc.commit = none) (pages : headerPages s.desc.staging ≤ 8) (free : s.ops.entries.length < 4) :
    reqDescCommit o reannounce (Hap.start s) =
      ({ Hap.start s with toState :=
          { s with
            ops := s.ops.take .commit o none none,
            desc := { s.desc with
                      commit := if s.pinCount s.desc.live.other = 0 then
                                  some { phase := .copying, op := s.ops.nextOp, reannounce := flag,
                                         target := s.desc.live.other,
                                         timer := some (if headerPages s.desc.staging = 0 then 1
                                                        else 2 * headerPages s.desc.staging),
                                         newGen := if s.desc.generation = 0xFFFF then 1 else s.desc.generation + 1,
                                         selected := [] }
                                else
                                  some { phase := .draining, op := s.ops.nextOp, reannounce := flag,
                                         target := s.desc.live.other, timer := none, newGen := 0, selected := [] } } } },
        .accepted s.ops.nextOp) := by
  have noCommit : (Hap.start s).desc.commit.isSome = false := by
    have : (Hap.start s).desc = s.desc := rfl
    rw [this, idle]
    rfl
  have room : (!(Hap.start s).ops.free) = false := Bool.eq_false_iff.mpr fun full => Nat.not_lt.mpr (not_free.mp full) free
  have fits : ¬8 < headerPages (Hap.start s).desc.staging := Nat.not_lt.mpr pages
  rw [reqDescCommit, named]
  simp only [noCommit, room, fits, Bool.false_eq_true, if_false]
  refine Prod.ext ?_ rfl
  simp only [beginCommit, drainingCheck]
  by_cases pins : s.pinCount s.desc.live.other = 0
  · rw [if_pos pins]
    refine (if_pos pins).trans ((enterCopying_eq rfl pages).trans ?_)
    rfl
  · rw [if_neg pins]
    exact (if_neg pins).trans rfl

/-- Settles O11. -/
theorem descCommitBeginsACommit : Obligations.DescCommitBeginsACommit := by
  unfold Obligations.DescCommitBeginsACommit
  intro tag flag s ready
  have judged : judge (.host tag) 0x22 [flag] (Hap.start s) = reqDescCommit (.host tag) flag (Hap.start s) :=
    judge_of_req (r := .descCommit flag) rfl rfl
  by_cases odd : flag ≠ 0 ∧ flag ≠ 1
  · rw [if_pos odd]
    rw [reqDescCommit, boolOf_eq, if_neg (by tauto)] at judged
    exact exec_refused rfl (by simp) ready judged
  have named : boolOf flag = some (decide (flag = 1)) := by rw [boolOf_eq, if_pos (by tauto)]
  rw [if_neg odd]
  by_cases inFlight : s.desc.commit ≠ none
  · rw [if_pos inFlight]
    rw [reqDescCommit, named] at judged
    exact exec_refused rfl (by simp) ready (judged.trans (if_pos (Option.isSome_iff_ne_none.mpr inFlight)))
  rw [if_neg inFlight]
  by_cases pages : 8 < headerPages s.desc.staging
  · rw [if_pos pages]
    rw [reqDescCommit, named] at judged
    exact exec_refused rfl (by simp) ready
      (judged.trans ((if_neg (inFlight ∘ Option.isSome_iff_ne_none.mp)).trans (if_pos pages)))
  rw [if_neg pages]
  by_cases full : 4 ≤ s.ops.entries.length
  · rw [if_pos full]
    rw [reqDescCommit, named] at judged
    exact exec_refused rfl (by simp) ready
      (judged.trans ((if_neg (inFlight ∘ Option.isSome_iff_ne_none.mp)).trans ((if_neg pages).trans
        (if_pos (not_free.mpr full)))))
  rw [if_neg full]
  exact exec_replied rfl (by simp) ready
    (judged.trans (reqDescCommit_taken named (not_not.mp inFlight) (Nat.not_lt.mp pages) (Nat.not_le.mp full))) rfl rfl

/-- Settles O15. -/
theorem partResetIsTakenWithItsReply : Obligations.PartResetIsTakenWithItsReply := by
  unfold Obligations.PartResetIsTakenWithItsReply
  intro tag keep s ready
  have judged : judge (.host tag) 0x02 [keep] (Hap.start s) = reqPartReset keep (Hap.start s) :=
    judge_of_req (r := .partReset keep) rfl rfl
  rw [reqPartReset, boolOf_eq] at judged
  by_cases flag : keep = 0 ∨ keep = 1
  · rw [if_pos flag] at judged ⊢
    rw [exec_eq_hostRow (c := .partReset tag keep) rfl (by simp), hostRow_ready ready, judged]
    exact congrArg Host.Outcome.next (finish_quiet ⟨rfl, rfl, rfl, rfl, rfl, rfl, rfl⟩)
  · rw [if_neg flag] at judged ⊢
    exact exec_refused rfl (by simp) ready judged

theorem reqOf_rosterRead (start count : Byte) (g : Word32) :
    reqOf 0x30 (start :: count :: be32 g) = some (.rosterRead start count (some g)) :=
  congrArg (fun x => some (Req.rosterRead start count (some x))) (of32_be32 g)

/-- Settles O17. -/
theorem staleRosterReadIsRefused : Obligations.StaleRosterReadIsRefused := by
  unfold Obligations.StaleRosterReadIsRefused
  intro tag start count g s few stale
  have judged : ∀ o (h : Hap), h.roster = s.roster → judge o 0x30 (start :: count :: be32 g) h =
      (h, .refused .stale (s.roster.generation.extractLsb' 0 16) (be32 s.roster.generation)) := by
    intro o h roster
    refine (judge_of_req rfl (reqOf_rosterRead start count g)).trans ?_
    simp only [execute, reqRosterRead, Nat.not_lt.mpr few, if_false, roster, stale]
  refine ⟨fun ready => ?_, fun hears => ?_⟩
  · exact exec_replied rfl (by simp [be32]) ready (judged _ _ rfl) rfl rfl
  · exact exec_inner hears (by simp [be32]) (judged _ _ rfl) (start_quiet _) rfl hears.2 rfl rfl

end Sys2Proof.Machine
end

section
/-! PROOF. The host link: what is refused before any owning rule, repeats, FORWARD, and the requests that read (R162 to
R166, R120, R147). -/

namespace Sys2Proof.Machine

/-! ### Lengths that no layout allows (R162 case 5) -/

/-- A DESC WRITE's length is judged by its length byte. -/
theorem reqOf_descWrite_none {payload : List Byte} (length : lengthAllowed 0x20 payload = false) :
    reqOf 0x20 payload = none := by
  rcases payload with _ | ⟨page, _ | ⟨offset, _ | ⟨n, data⟩⟩⟩
  · rfl
  · rfl
  · rfl
  · have : ¬data.length = n.toNat := by simpa [lengthAllowed, Nat.add_comm 3] using length
    exact if_neg this

/-- An EVENT ACK's length is judged by its count. -/
theorem reqOf_eventAck_none {payload : List Byte} (length : lengthAllowed 0x51 payload = false) :
    reqOf 0x51 payload = none := by
  rcases payload with _ | ⟨n, rest⟩
  · rfl
  · have : ¬rest.length = 2 * n.toNat := by simpa [lengthAllowed, Nat.add_comm 1] using length
    exact if_neg this

/-- No request has a length that its kind's layout does not allow (R162 case 5, R174). Of the other kinds each allows a
length or two, so the payload's first seven bytes decide. -/
theorem reqOf_none_of_length {kind : Byte} {payload : List Byte} (request : isRequest kind = true)
    (length : lengthAllowed kind payload = false) : reqOf kind payload = none := by
  by_cases write : kind = 0x20
  · subst write
    exact reqOf_descWrite_none length
  by_cases ack : kind = 0x51
  · subst ack
    exact reqOf_eventAck_none length
  simp only [isRequest, List.contains_iff_mem, List.mem_cons, List.not_mem_nil, or_false, write, ack, false_or] at request
  rcases request with rfl | rfl | rfl | rfl | rfl | rfl | rfl | rfl | rfl | rfl | rfl | rfl | rfl | rfl | rfl | rfl | rfl |
    rfl | rfl | rfl <;>
    rcases payload with _ | ⟨a, _ | ⟨b, _ | ⟨c, _ | ⟨d, _ | ⟨e, _ | ⟨f, _ | ⟨g, rest⟩⟩⟩⟩⟩⟩⟩ <;>
    first
    | rfl
    | exact Bool.noConfusion (show true = false from length)
/-! ### The taking of a frame (R160, R162, R164) -/

section
variable {s : State} {c : Instr} {f : HostFrame}

/-- A free host link takes a good frame in the happening that completes it. -/
theorem hostFrameIn_takes (takes : s.takes) : hostFrameIn f (Hap.start s) = handleFrame f (Hap.start s) := by
  obtain ⟨empty, noReply, noReset⟩ := takes
  have buffer : (Hap.start s).host.buffer = [] := empty
  have waits : HostLink.replyWaits { (Hap.start s).host with buffer := [f] } = false := noReply
  have resets : State.resetPending { (Hap.start s).toState with host := { (Hap.start s).host with buffer := [f] } } = false :=
    noReset
  have back : ({ Hap.start s with host := { (Hap.start s).host with buffer := [] } } : Hap) = Hap.start s := by
    rw [← buffer]
  unfold hostFrameIn
  simp only [buffer, List.length_nil, bufferSize, Nat.zero_lt_succ, if_true, List.nil_append, takeBuffered,
    List.length_singleton, takeRequests, waits, resets, Bool.or_self, Bool.false_eq_true, if_false, back]

/-- A command that stands for a frame, at a free host link. -/
theorem exec_takes (frame : hostFrameOf c = some f) (short : f.payload.length ≤ 200) (takes : s.takes) :
    exec c s = happen (handleFrame f) s := by
  rw [exec_eq_hostRow frame short]
  exact congrArg (fun h => Host.Outcome.next (finish h)) (hostFrameIn_takes takes)

/-- A frame that the repeat memory does not describe is executed. -/
theorem handleFrame_new (tag : f.tag ≠ 0) (fresh : ∀ m, s.host.memory = some m → m.describes f = false) :
    handleFrame f (Hap.start s) = executeHost f (Hap.start s) := by
  have memory : (Hap.start s).host.memory = s.host.memory := rfl
  unfold handleFrame
  rw [if_neg tag, memory]
  cases m : s.host.memory with
  | none => rfl
  | some r => simp only [fresh r m, Bool.false_eq_true, if_false]

end

theorem be16_zero : be16 0 = [0, 0] := by decide

/-- Settles O13. -/
theorem requestsAreRefusedBeforeTheirRules : Obligations.RequestsAreRefusedBeforeTheirRules := by
  unfold Obligations.RequestsAreRefusedBeforeTheirRules
  refine ⟨fun kind tag count payload seqs c f s short few => ⟨fun unknown ready => ?_, fun request length => ⟨fun ready => ?_,
    fun hears shorter => ?_⟩, fun miscounted ready => ?_, fun frame fits zero takes => ?_⟩,
    fun tag c f s branch tagged takes fresh => ⟨fun frame fits other => ?_, fun hello => ?_⟩⟩
  · refine exec_refused rfl short ready ?_
    simp only [judge, unknown, Bool.not_false, if_true]
    rfl
  · refine exec_refused rfl short ready ?_
    simp only [judge, request, reqOf_none_of_length request length, Bool.not_true, Bool.false_eq_true, if_false]
  · refine exec_inner_refused hears shorter ?_
    simp only [judge, request, reqOf_none_of_length request length, Bool.not_true, Bool.false_eq_true, if_false]
  · have bytes : (seqs.flatMap be16).length = 2 * seqs.length := length_flatMap_be16 seqs
    have length : lengthAllowed 0x51 (count :: seqs.flatMap be16) = false := by
      simp [lengthAllowed, bytes]
      omega
    have total : (count :: seqs.flatMap be16).length = 1 + 2 * seqs.length := by
      rw [List.length_cons, bytes, Nat.add_comm]
    refine exec_refused (f := ⟨0x51, tag, count :: seqs.flatMap be16⟩) rfl (by rw [total]; omega) ready ?_
    have none := reqOf_none_of_length rfl length
    rw [judge, none, total]
    rfl
  · rw [exec_takes frame fits takes]
    refine (happen_quiet ?_).trans ?_ <;> rw [handleFrame, if_pos zero]
    · exact ⟨rfl, rfl, rfl, rfl, rfl, rfl, rfl⟩
    · rw [refusalPayload, be16_zero]
      rfl
  · have refused : handleFrame f (Hap.start s) = answerHost f (.refuse .notRoot 1) (Hap.start s) := by
      have role : (Hap.start s).role = .branch := branch
      have notHello : f.kind ≠ helloKind := other
      rw [handleFrame_new tagged fresh, executeHost, judgeHost]
      simp only [role, notHello, ne_eq, not_false_eq_true, decide_true, Bool.and_self, if_true]
    rw [exec_takes frame fits takes]
    refine (happen_quiet ?_).trans ?_ <;> rw [refused]
    · exact ⟨rfl, rfl, rfl, rfl, rfl, rfl, rfl⟩
    · exact congrArg (fun p => Host.Outcome.next (s.replied f .refused p)) (List.append_nil _)
  · subst hello
    have answered : handleFrame ⟨0x01, tag, []⟩ (Hap.start s) = answerHost ⟨0x01, tag, []⟩ (.ok (helloData s)) (Hap.start s) := by
      rw [handleFrame_new tagged fresh, executeHost, judgeHost]
      simp only [helloKind, ne_eq, not_true_eq_false, decide_false, Bool.and_false, Bool.false_eq_true, if_false]
      rfl
    rw [exec_takes (f := ⟨0x01, tag, []⟩) rfl (by simp) takes]
    refine (happen_quiet ?_).trans ?_ <;> rw [answered]
    · exact ⟨rfl, rfl, rfl, rfl, rfl, rfl, rfl⟩
    · rfl

/-! ### FORWARD at the root (R120) -/

/-- Settles O16. -/
theorem forwardIsSentDown : Obligations.ForwardIsSentDown := by
  unfold Obligations.ForwardIsSentDown
  intro tag path kind payload p rest s short ready
  have fits : (path :: kind :: payload).length ≤ 200 := by simp; omega
  have judged : judge (.host tag) 0x03 (path :: kind :: payload) (Hap.start s) =
      reqForward (.host tag) path kind payload (Hap.start s) :=
    judge_of_req (r := .forward path kind payload) rfl rfl
  rw [reqForward] at judged
  refine ⟨fun bad => exec_refused rfl fits ready ?_, fun named depth => ?_⟩
  · rcases bad with e | e | ⟨q, e, deep⟩ <;> rw [judged, e]
    rcases q with _ | ⟨p, rest⟩
    · rfl
    · exact if_pos (Nat.lt_of_succ_lt_succ deep)
  rw [named] at judged
  replace judged := judged.trans (if_neg (Nat.not_lt.mpr depth))
  by_cases nested : kind = 0x03
  · rw [if_pos nested]
    exact exec_refused rfl fits ready (judged.trans (if_pos nested))
  rw [if_neg nested]
  replace judged := judged.trans (if_neg nested)
  by_cases closed : (s.dl p).state ≠ .up
  · rw [if_pos closed]
    exact exec_refused rfl fits ready (judged.trans (if_pos closed))
  rw [if_neg closed]
  replace judged := judged.trans (if_neg closed)
  by_cases full : 4 ≤ s.ops.entries.length
  · rw [if_pos full]
    exact exec_refused rfl fits ready (judged.trans (if_pos (not_free.mpr full)))
  rw [if_neg full]
  replace judged := judged.trans (if_neg (full ∘ not_free.mp))
  rw [exec_eq_hostRow (c := .forward tag path kind payload) rfl fits, hostRow_ready ready, judged]
  cases p <;> exact congrArg Host.Outcome.next (finish_quiet ⟨rfl, rfl, rfl, rfl, rfl, rfl, rfl⟩)

/-! ### The delivery order (R145) -/

theorem sortBy_nil {α : Type} (lt : α → α → Bool) : sortBy lt [] = [] := rfl

/-- Sorting, one element more. -/
theorem sortBy_concat {α : Type} (lt : α → α → Bool) (xs : List α) (x : α) :
    sortBy lt (xs ++ [x]) = insertBy lt x (sortBy lt xs) := by
  rw [sortBy, List.foldl_append]
  rfl

theorem sortBy_perm {α : Type} (lt : α → α → Bool) (xs : List α) : (sortBy lt xs).Perm xs := by
  induction xs using List.reverseRecOn with
  | nil => exact List.Perm.refl _
  | append_singleton xs x ih =>
    rw [sortBy_concat]
    exact ((insertBy_perm lt x _).trans (ih.cons x)).trans (List.perm_append_comm (l₁ := [x]))

/-- Inserting by a key keeps a list ordered by the key. -/
theorem insertBy_pairwise {α : Type} {lt : α → α → Bool} {key : α → Nat} (byKey : ∀ a b, lt a b = true ↔ key a < key b)
    (x : α) : ∀ xs : List α, xs.Pairwise (fun a b => key a ≤ key b) → (insertBy lt x xs).Pairwise (fun a b => key a ≤ key b)
  | [], _ => by simp [insertBy]
  | y :: t, sorted => by
    obtain ⟨first, rest⟩ := List.pairwise_cons.mp sorted
    rw [insertBy]
    split
    · next before =>
      have le : key x ≤ key y := Nat.le_of_lt ((byKey x y).mp before)
      refine List.pairwise_cons.mpr ⟨fun z mem => ?_, sorted⟩
      rcases List.mem_cons.mp mem with rfl | mem
      · exact le
      · exact Nat.le_trans le (first z mem)
    · next after =>
      have le : key y ≤ key x := Nat.not_lt.mp (after ∘ (byKey x y).mpr)
      refine List.pairwise_cons.mpr ⟨fun z mem => ?_, insertBy_pairwise byKey x t rest⟩
      rcases List.mem_cons.mp ((insertBy_perm lt x t).mem_iff.mp mem) with rfl | mem
      · exact le
      · exact first z mem

theorem sortBy_pairwise {α : Type} {lt : α → α → Bool} {key : α → Nat} (byKey : ∀ a b, lt a b = true ↔ key a < key b)
    (xs : List α) : (sortBy lt xs).Pairwise (fun a b => key a ≤ key b) := by
  induction xs using List.reverseRecOn with
  | nil => exact List.Pairwise.nil
  | append_singleton xs x ih =>
    rw [sortBy_concat]
    exact insertBy_pairwise byKey x _ ih

/-- An element joins those of its key behind them. -/
theorem filter_insertBy {α : Type} {lt : α → α → Bool} {key : α → Nat} (byKey : ∀ a b, lt a b = true ↔ key a < key b)
    (n : Nat) (x : α) : ∀ xs : List α, xs.Pairwise (fun a b => key a ≤ key b) →
    (insertBy lt x xs).filter (fun a => decide (key a = n)) =
      xs.filter (fun a => decide (key a = n)) ++ [x].filter (fun a => decide (key a = n))
  | [], _ => by simp [insertBy]
  | y :: t, sorted => by
    obtain ⟨first, rest⟩ := List.pairwise_cons.mp sorted
    rw [insertBy]
    split
    · next before =>
      by_cases same : key x = n
      · have lt := (byKey x y).mp before
        have none : (y :: t).filter (fun a => decide (key a = n)) = [] := by
          refine List.filter_eq_nil_iff.mpr fun z mem => ?_
          rcases List.mem_cons.mp mem with rfl | mem
          · simp; omega
          · have := first z mem
            simp
            omega
        rw [List.filter_cons, none, List.nil_append]
        simp [same]
      · simp [List.filter_cons, same]
    · rw [List.filter_cons, List.filter_cons, filter_insertBy byKey n x t rest]
      split <;> rfl

theorem filter_sortBy {α : Type} {lt : α → α → Bool} {key : α → Nat} (byKey : ∀ a b, lt a b = true ↔ key a < key b)
    (n : Nat) (xs : List α) :
    (sortBy lt xs).filter (fun a => decide (key a = n)) = xs.filter (fun a => decide (key a = n)) := by
  induction xs using List.reverseRecOn with
  | nil => rfl
  | append_singleton xs x ih =>
    rw [sortBy_concat, filter_insertBy byKey n x _ (sortBy_pairwise byKey xs), ih, List.filter_append]

/-- A record's place by its priority: 0 for the highest. -/
def EvRecord.place (r : EvRecord) : Nat := 3 - r.priority.val

theorem place_le_iff {a b : EvRecord} : a.place ≤ b.place ↔ b.priority ≤ a.priority := by
  have := a.priority.isLt
  have := b.priority.isLt
  rw [EvRecord.place, EvRecord.place, Fin.le_def]
  omega

theorem place_lt_iff (a b : EvRecord) : decide (b.priority < a.priority) = true ↔ a.place < b.place := by
  rw [decide_eq_true_eq, ← not_le, ← place_le_iff, not_le]

theorem place_eq_iff {a : EvRecord} {pr : Fin 4} : a.place = 3 - pr.val ↔ a.priority = pr := by
  have := a.priority.isLt
  have := pr.isLt
  rw [EvRecord.place, Fin.ext_iff]
  omega

theorem deliveryOrder_perm (q : List EvRecord) : (deliveryOrder q).Perm q := sortBy_perm _ q

theorem deliveryOrder_pairwise (q : List EvRecord) :
    (deliveryOrder q).Pairwise (fun a b => b.priority ≤ a.priority) :=
  (sortBy_pairwise place_lt_iff q).imp place_le_iff.mp

theorem filter_deliveryOrder (q : List EvRecord) (pr : Fin 4) :
    ((deliveryOrder q).filter fun r => decide (r.priority = pr)) = q.filter fun r => decide (r.priority = pr) := by
  simpa only [place_eq_iff, deliveryOrder] using filter_sortBy place_lt_iff (3 - pr.val) q

/-- Settles O27. -/
theorem eventFetchReadsInDeliveryOrder : Obligations.EventFetchReadsInDeliveryOrder := by
  unfold Obligations.EventFetchReadsInDeliveryOrder
  refine ⟨fun tag maximum s ready => ?_,
    fun q => ⟨deliveryOrder_perm q, deliveryOrder_pairwise q, filter_deliveryOrder q⟩⟩
  have judged : judge (.host tag) 0x50 [maximum] (Hap.start s) = reqEventFetch maximum.toNat (Hap.start s) :=
    judge_of_req (r := .eventFetch maximum) rfl rfl
  split
  · next out => exact exec_refused rfl (by simp) ready (judged.trans (if_pos (by omega)))
  · next fits => exact exec_replied rfl (by simp) ready (judged.trans (if_neg (by omega))) rfl rfl

end Sys2Proof.Machine
end

section
/-! PROOF. The requests that read (R23, R49, R77, R105, R118, R166): each leaves the happening as it was, so what is shown
here is that its data are the statement's. -/

namespace Sys2Proof.Machine

section
variable {s : State}

theorem ready_root {f : HostFrame} (ready : s.ready f = true) : s.role = .root := by
  simp only [State.ready, Bool.and_eq_true, decide_eq_true_eq] at ready
  exact ready.1.1.1.1.1

/-- The operations in the order of their ids, by any list that holds them so ordered. -/
theorem sortBy_op_eq {es : List OpEntry} (perm : es.Perm s.ops.entries)
    (sorted : es.Pairwise fun a b => a.op.toNat < b.op.toNat) :
    sortBy (fun a b : OpEntry => decide (a.op.toNat < b.op.toNat)) s.ops.entries = es := by
  have nodup : (es.map fun e : OpEntry => e.op.toNat).Nodup := List.pairwise_map.mpr (sorted.imp Nat.ne_of_lt)
  refine List.Perm.eq_of_pairwise (le := fun a b => a.op.toNat ≤ b.op.toNat) (fun a b memA memB ab ba => ?_)
    (sortBy_pairwise (fun a b => decide_eq_true_iff) _) (sorted.imp Nat.le_of_lt) ((sortBy_perm _ _).trans perm.symm)
  exact List.inj_on_of_nodup_map nodup (perm.mem_iff.mpr ((sortBy_perm _ _).mem_iff.mp memA)) memB (Nat.le_antisymm ab ba)

/-- HELLO's data from the operations by ascending op id. -/
theorem helloData_eq {es : List OpEntry} (perm : es.Perm s.ops.entries)
    (sorted : es.Pairwise fun a b => a.op.toNat < b.op.toNat) :
    helloData s = [0x4A, 0x56, 0x10, 0x40, Config.hardwareRevision, roleCode s.role, tierByte s.tier] ++
      ([10, 96, 32, 4, 3, byteOf es.length] ++ es.flatMap fun e => [e.op, opKindCode e.kind, originByte e.origin]) := by
  rw [helloData, sortBy_op_eq perm sorted]
  rfl

theorem tierByte_eq (t : Option Nat) : tierByte t = t.elim 0xFF byteOf := by cases t <;> rfl

/-- One place of a list of slots that have local entries. -/
theorem flatMap_placeBytes {js : List SlotId} (entries : ∀ j ∈ js, s.localEntry j ≠ none) :
    js.flatMap (placeBytes s) = js.flatMap fun j => (s.localEntry j).elim []
      fun e => [byteOf (j.val + 1), byteOf e.draw.val, byteOf (2 ^ e.draw.val)] := by
  refine List.flatMap_congr fun j mem => ?_
  cases e : s.localEntry j with
  | none => exact absurd e (entries j mem)
  | some e' => simp only [placeBytes, e]; rfl

theorem slotGrant_granted {j : SlotId} (granted : s.slotGrant j = .granted) : s.localEntry j ≠ none := fun none => by
  rw [State.slotGrant, none] at granted
  cases granted

theorem blocked_byte : boolCode s.blocked =
    match s.budget.waiting.head?.bind s.localEntry with
    | some e => if s.budget.units - grantedSum s.roster.entries < 2 ^ e.draw.val then 1 else 0
    | none => 0 := by
  cases list : s.budget.waiting with
  | nil => simp only [State.blocked, State.waitingHead, list]; rfl
  | cons i rest =>
    cases entry : s.localEntry i with
    | none => simp only [State.blocked, State.waitingHead, list, entry, List.head?_cons, Option.bind_some]; rfl
    | some e =>
      simp only [State.blocked, State.waitingHead, list, entry, List.head?_cons, Option.bind_some, Option.map_some,
        boolCode, decide_eq_true_eq]
      rfl

theorem budgetStatusData_eq (entries : ∀ j ∈ s.budget.waiting, s.localEntry j ≠ none) :
    budgetStatusData s =
      [byteOf s.budget.units, byteOf (grantedSum s.roster.entries),
        (match s.budget.waiting.head?.bind s.localEntry with
          | some e => if s.budget.units - grantedSum s.roster.entries < 2 ^ e.draw.val then 1 else 0
          | none => 0),
        byteOf s.budget.waiting.length] ++
        s.budget.waiting.flatMap (fun j => (s.localEntry j).elim []
          fun e => [byteOf (j.val + 1), byteOf e.draw.val, byteOf (2 ^ e.draw.val)]) ++
        [byteOf ((List.finRange 10).filter fun j => decide (s.slotGrant j = .granted)).length] ++
        ((List.finRange 10).filter fun j => decide (s.slotGrant j = .granted)).flatMap (fun j =>
          (s.localEntry j).elim [] fun e => [byteOf (j.val + 1), byteOf e.draw.val, byteOf (2 ^ e.draw.val)]) := by
  have granted : ∀ j ∈ s.grantedSlots, s.localEntry j ≠ none := fun j mem =>
    slotGrant_granted (of_decide_eq_true (List.mem_filter.mp mem).2)
  rw [budgetStatusData, flatMap_placeBytes entries, flatMap_placeBytes granted, blocked_byte]
  rfl

theorem portData_eq (p : DPort) : portData s p =
    linkStateCode (s.dl p).state ::
      (match (s.dl p).child with
        | none => [0, 0, 0, 0, 0, 0, 0, 0, 0, 0xFF]
        | some c => 1 :: be32 c.rackId ++ be16 c.rackClass ++ [c.revision, byteOf c.tier, c.reported.elim 0xFF flagsByte]) ++
      [if s.roster.marker p = true then 1 else 0] := by
  cases child : (s.dl p).child with
  | none => simp only [portData, child]; rfl
  | some c =>
    obtain ⟨rackId, rackClass, revision, tier, reported⟩ := c
    cases reported <;> simp only [portData, child] <;> rfl

theorem branchStatusData_eq : branchStatusData s =
    [roleCode s.role, linkStateCode s.u.state, tierByte s.tier, pathByte s.ownPath] ++
      [DPort.d1, .d2].flatMap (fun p =>
        linkStateCode (s.dl p).state ::
          (match (s.dl p).child with
            | none => [0, 0, 0, 0, 0, 0, 0, 0, 0, 0xFF]
            | some c =>
              1 :: be32 c.rackId ++ be16 c.rackClass ++ [c.revision, byteOf c.tier, c.reported.elim 0xFF flagsByte]) ++
            [if s.roster.marker p = true then 1 else 0]) := by
  simp only [branchStatusData, portData_eq, List.flatMap_cons, List.flatMap_nil, List.append_nil, List.append_assoc]

end

/-- Settles O18: each request is answered OK with its data, and the data are the statement's. -/
theorem readingRequestsChangeNothing : Obligations.ReadingRequestsChangeNothing := by
  unfold Obligations.ReadingRequestsChangeNothing
  refine ⟨fun tag i es table ports s perm sorted htable hports => ⟨fun ready => ?hello, fun hears => ?helloUp,
      fun ready => ?slotStatus, fun ready entries => ?budget, fun ready => ?branch, fun hears => ?branchUp⟩,
    fun tag copy page offset length s ready => ?descRead,
    fun tag start count s => ⟨fun ready => ?roster, fun ready few => ?expected⟩⟩
  case hello =>
    refine hostRow_ok ready (Prod.ext rfl ?_)
    have tier : s.tier = some 0 := by rw [State.tier, ready_root ready]
    have data := helloData_eq perm sorted
    rw [ready_root ready, tier] at data
    subst htable
    exact congrArg Answer.ok data
  case helloUp =>
    refine exec_forwardRequest_ok hears (by decide) (Prod.ext rfl ?_)
    have data := helloData_eq perm sorted
    rw [hears.1, tierByte_eq] at data
    subst htable
    exact congrArg Answer.ok data
  case slotStatus =>
    refine hostRow_ok ready ((judge_of_req (r := .slotStatus (slotByte i)) rfl rfl).trans ?_)
    simp only [execute, onSlot, slotOf_slotByte]
    rfl
  case budget =>
    exact hostRow_ok ready (Prod.ext rfl (congrArg Answer.ok (budgetStatusData_eq entries)))
  case branch =>
    refine hostRow_ok ready (Prod.ext rfl ?_)
    have tier : s.tier = some 0 := by rw [State.tier, ready_root ready]
    have path : s.ownPath = [] := by rw [State.ownPath, ready_root ready]
    have data := branchStatusData_eq (s := s)
    rw [ready_root ready, tier, path] at data
    subst hports
    exact congrArg Answer.ok data
  case branchUp =>
    refine exec_forwardRequest_ok hears (by decide) (Prod.ext rfl ?_)
    have data := branchStatusData_eq (s := s)
    rw [hears.1, tierByte_eq] at data
    subst hports
    exact congrArg Answer.ok data
  case descRead =>
    have judged : judge (.host tag) 0x21 [copy, page, offset, length] (Hap.start s) =
        reqDescRead copy.toNat page.toNat offset.toNat length.toNat (Hap.start s) :=
      judge_of_req (r := .descRead copy page offset length) rfl rfl
    have zero : copy.toNat = 0 ↔ copy = 0 := (BitVec.toNat_eq (y := 0)).symm
    split
    · next out => exact hostRow_refused ready (judged.trans (if_pos (by omega)))
    · next fits =>
      refine hostRow_ok ready (judged.trans ((if_neg (by omega)).trans ?_))
      by_cases staged : copy = 0
      · rw [if_pos (zero.mpr staged), if_pos staged]
        rfl
      · rw [if_neg (staged ∘ zero.mp), if_neg staged]
        rfl
  case roster =>
    have judged : judge (.host tag) 0x30 [start, count] (Hap.start s) =
        reqRosterRead start.toNat count.toNat none (Hap.start s) := judge_of_req (r := .rosterRead start count none) rfl rfl
    split
    · next many => exact hostRow_refused ready (judged.trans (if_pos many))
    · next few => exact hostRow_ok ready (judged.trans (if_neg few))
  case expected =>
    refine hostRow_ok ready ((judge_of_req rfl (reqOf_rosterRead start count _)).trans ((if_neg (Nat.not_lt.mpr few)).trans ?_))
    exact if_pos rfl

end Sys2Proof.Machine
end

section
/-! PROOF. The slot link's reads and refusals without an event (R53 to R62), and the receivers and transmitters of the
ports with their timers (R108, R109, R114). -/

namespace Sys2Proof.Machine

section
variable {s : State} {i : SlotId}

/-! ### A target's record, read and stored again -/

theorem withTarget_withTarget (x y : Target) : (s.withTarget i x).withTarget i y = s.withTarget i y := by
  simp [State.withTarget]

theorem withTarget_target_self (x : Target) : (s.withTarget i x).target i = x := by
  simp [State.target, State.withTarget]

theorem withTarget_self : s.withTarget i (s.target i) = s := by
  simp [State.withTarget, State.target]

/-- The target once a burst of its own, if any, has ended (R61). -/
def Target.unburst (t : Target) : Target :=
  match t.phase with
  | .burst _ => { t with phase := .ready, stall := none }
  | .ready | .holding _ _ => t

theorem unburst_burst {t : Target} {b : Burst} (burst : t.phase = .burst b) :
    t.unburst = { t with phase := .ready, stall := none } := by
  rw [Target.unburst, burst]

/-- With no commit in flight, the end of a burst touches the target alone. -/
theorem endBurst_idle (idle : (s.target i).pin = none ∨ s.desc.commit = none) :
    endBurst i (Hap.start s) = Hap.start (s.withTarget i (s.target i).unburst) := by
  have target : (Hap.start s).target i = s.target i := rfl
  cases phase : (s.target i).phase with
  | burst b =>
    have commit : s.desc.commit = none := by simpa [Target.pin, phase] using idle
    have quietCommit : ((Hap.start s).setTarget i { s.target i with phase := .ready, stall := none }).desc.commit = none :=
      commit
    simp only [endBurst, target, phase, drainingCheck, quietCommit, Target.unburst]
    rfl
  | ready | holding =>
    simp only [endBurst, target, phase, Target.unburst]
    rw [withTarget_self]

theorem endBurst_stored {t : Target} {b : Burst} (burst : t.phase = .burst b) (idle : s.desc.commit = none) :
    endBurst i (Hap.start (s.withTarget i t)) = Hap.start (s.withTarget i { t with phase := .ready, stall := none }) := by
  rw [endBurst_idle (s := s.withTarget i t) (Or.inr idle), withTarget_target_self, withTarget_withTarget, unburst_burst burst]

theorem unburst_stall (t : Target) : t.unburst.stall = if t.pin = none then t.stall else none := by
  cases phase : t.phase <;> simp [Target.unburst, Target.pin, phase]

theorem unburst_lastResult (t : Target) : t.unburst.lastResult = t.lastResult := by
  cases phase : t.phase <;> simp [Target.unburst, phase]

theorem unburst_lastByte (t : Target) : t.unburst.lastByte = t.lastByte := by
  cases phase : t.phase <;> simp [Target.unburst, phase]

/-- A response held behind a burst that ends. -/
theorem holdResponse_unburst (resp : List Byte) :
    holdResponse i resp (Hap.start (s.withTarget i (s.target i).unburst)) =
      Hap.start (s.withTarget i { s.target i with
        phase := .holding resp 0, stall := if (s.target i).pin = none then (s.target i).stall else none }) := by
  have target : (Hap.start (s.withTarget i (s.target i).unburst)).target i = (s.target i).unburst := withTarget_target_self _
  rw [holdResponse, target, setTarget_start, withTarget_withTarget]
  congr 2
  simp only [unburst_stall, unburst_lastResult, unburst_lastByte]

end

/-- The checks of a PAGE READ, as the statement orders them. -/
theorem pageReadRefusal_eq (s : State) (i : SlotId) (page offset length : Nat) :
    pageReadRefusal s i page offset length =
      if s.enLine i = false then some .notEnabled
      else if s.desc.pages ≤ page ∨ 8 ≤ page then some .noPage
      else if length < 1 ∨ 32 < length ∨ 128 < offset + length then some .badRange
      else none := by
  simp only [pageReadRefusal, State.enLine, Bool.not_eq_true', Bool.or_eq_true, decide_eq_true_eq, Nat.lt_one_iff, or_assoc]

/-- Settles O31. -/
theorem pageReadPinsTheLiveBank : Obligations.PageReadPinsTheLiveBank := by
  unfold Obligations.PageReadPinsTheLiveBank
  intro i page offset length s idle
  have written : slotWrite i [2, page, offset, length] (Hap.start s) =
      pageReadCmd i page.toNat offset.toNat length.toNat (Hap.start (s.withTarget i (s.target i).unburst)) := by
    rw [← endBurst_idle idle]
    rfl
  refine happen_start (f := slotWrite i [2, page, offset, length]) (written.trans ?_)
  have checks : pageReadRefusal (Hap.start (s.withTarget i (s.target i).unburst)).toState i page.toNat offset.toNat
      length.toNat = _ := pageReadRefusal_eq s i page.toNat offset.toNat length.toNat
  rw [pageReadCmd, checks]
  by_cases off : s.enLine i = false
  · simp only [if_pos off]
    exact holdResponse_unburst _
  by_cases page' : s.desc.pages ≤ page.toNat ∨ 8 ≤ page.toNat
  · simp only [if_neg off, if_pos page']
    exact holdResponse_unburst _
  by_cases range : length.toNat < 1 ∨ 32 < length.toNat ∨ 128 < offset.toNat + length.toNat
  · simp only [if_neg off, if_neg page', if_pos range]
    exact holdResponse_unburst _
  · have target : (Hap.start (s.withTarget i (s.target i).unburst)).target i = (s.target i).unburst :=
      withTarget_target_self _
    simp only [if_neg off, if_neg page', if_neg range, target, setTarget_start, withTarget_withTarget, setSlot_start,
      unburst_lastResult, unburst_lastByte]
    rfl

/-- Settles O32. -/
theorem clockedByteComesFromThePhase : Obligations.ClockedByteComesFromThePhase := by
  unfold Obligations.ClockedByteComesFromThePhase
  intro i s
  have target : (Hap.start s).target i = s.target i := rfl
  have stored : ∀ x b, clockOut i b ((Hap.start s).setTarget i x) = Hap.start (s.withTarget i { x with lastByte := some b }) := by
    intro x b
    rw [clockOut, setTarget_target_self, setTarget_start, setTarget_start, withTarget_withTarget]
  refine ⟨fun ready => happen_start (f := slotByteRead i) ?_, fun resp pos holding => happen_start (f := slotByteRead i) ?_,
    fun b burst => ⟨fun first => ?_, fun second => ?_, fun third => ?_, fun data more => ?_, fun data last idle => ?_⟩⟩
  · have out : slotByteRead i (Hap.start s) = clockOut i filler (Hap.start s) := by
      simp only [slotByteRead, target, ready]
    exact out.trans rfl
  · by_cases more : pos < resp.length
    · have out : slotByteRead i (Hap.start s) =
          clockOut i (resp.getD pos filler) ((Hap.start s).setTarget i { s.target i with phase := .holding resp (pos + 1) }) := by
        simp only [slotByteRead, target, holding, if_pos more]
      rw [out, stored, List.getD_eq_getElem _ _ more, dif_pos more]
    · have out : slotByteRead i (Hap.start s) = clockOut i filler (Hap.start s) := by
        simp only [slotByteRead, target, holding, if_neg more]
      rw [out, dif_neg more]
      rfl
  · refine happen_start (f := slotByteRead i) ?_
    simp only [slotByteRead, target, burst, first, Nat.zero_lt_succ, if_true, stored, burstHeader]
    rfl
  · refine happen_start (f := slotByteRead i) ?_
    simp only [slotByteRead, target, burst, second, Nat.one_lt_ofNat, if_true, stored, burstHeader]
    rfl
  · refine happen_start (f := slotByteRead i) ?_
    simp only [slotByteRead, target, burst, third, Nat.lt_add_one, if_true, stored, burstHeader]
    rfl
  · refine happen_start (f := slotByteRead i) ?_
    simp only [slotByteRead, target, burst, data, Nat.lt_irrefl, if_false, Nat.not_le.mpr more, stored]
    rfl
  · refine happen_start (f := slotByteRead i) ?_
    simp only [slotByteRead, target, burst, data, Nat.lt_irrefl, if_false, last, Nat.le_refl, if_true]
    exact endBurst_stored burst idle

/-! ### Receivers (R108, R158) -/

theorem gapExpired_eq (rx : Rx) :
    rx.gapExpired = if rx.gap = none then rx else { phase := .hunting, gap := none } := by
  cases gap : rx.gap <;> simp [Rx.gapExpired, gap]

/-- What a byte makes of a receiver, phase by phase. -/
theorem take_hunting {rx : Rx} (hunting : rx.phase = .hunting) (b : Byte) :
    rx.take b = { rx := if b = 0xC3 then { phase := .length, gap := some 2 } else rx, done := none } := by
  by_cases start : b = 0xC3 <;> simp only [Rx.take, hunting, startByte, gapLimit, start, if_true, if_false]

theorem take_length {rx : Rx} (length : rx.phase = .length) (b : Byte) :
    rx.take b = { rx := if 200 < b.toNat then { phase := .hunting, gap := none } else { phase := .body b [], gap := some 2 },
                  done := none } := by
  by_cases long : 200 < b.toNat <;> simp [Rx.take, length, maxPayload, gapLimit, long]

theorem take_body {rx : Rx} {n : Byte} {got : List Byte} (body : rx.phase = .body n got)
    (more : got.length + 1 < n.toNat + 4) (b : Byte) :
    rx.take b = { rx := { phase := .body n (got ++ [b]), gap := some 2 }, done := none } := by
  simp only [Rx.take, body, more, if_true, gapLimit]

/-- The frame that the last CRC byte completes. -/
def lastFrame (kind tag : Byte) (payload : List Byte) (hi b : Byte) : RxFrame :=
  { kind := kind, tag := tag, payload := payload, crc := hi ++ b }

theorem take_last {rx : Rx} {kind tag hi : Byte} {payload : List Byte} (short : payload.length ≤ 200)
    (body : rx.phase = .body (byteOf payload.length) (kind :: tag :: payload ++ [hi])) (b : Byte) :
    rx.take b = { rx := { phase := .hunting, gap := none }, done := some (lastFrame kind tag payload hi b) } := by
  have n : (byteOf payload.length).toNat = payload.length := by
    rw [byteOf, BitVec.toNat_ofNat]
    omega
  have full : ¬(kind :: tag :: payload ++ [hi]).length + 1 < payload.length + 4 := by simp
  have crc : (kind :: tag :: payload ++ [hi] ++ [b]).getD (payload.length + 2) 0 = hi := by simp
  have crc' : (kind :: tag :: payload ++ [hi] ++ [b]).getD (payload.length + 3) 0 = b := by
    show (payload ++ [hi] ++ [b]).getD (payload.length + 1) 0 = b
    simp
  have data : ((kind :: tag :: payload ++ [hi] ++ [b]).drop 2).take payload.length = payload := by simp
  simp only [Rx.take, body, n, full, if_false, rxFrame, crc, crc', data]
  rfl

theorem lastFrame_good {kind tag hi b : Byte} {payload : List Byte} :
    (lastFrame kind tag payload hi b).good = true ↔ hi ++ b = crc16 (byteOf payload.length :: kind :: tag :: payload) :=
  decide_eq_true_iff

section
variable {s : State} {port : Port} {b : Byte}

theorem setRx_start (rx : Rx) : setRx port rx (Hap.start s) = Hap.start (s.withRx port rx) := by
  cases port with
  | u => rfl
  | d p => exact setD_start p _

theorem withRx_self : s.withRx port (s.portRx port) = s := by
  cases port with
  | u => rfl
  | d p => cases p <;> rfl

/-- A byte that completes no good frame of a message does nothing but what it makes of the receiver. -/
theorem exec_linkByte {out : RxOut} (taken : (s.portRx port).take b = out) (none : out.done.bind RxFrame.linkMsg = none) :
    exec (.linkByteReceived port b) s = .next (s.withRx port out.rx) := by
  subst taken
  refine happen_start (f := linkByteIn port b) ?_
  have rx : (Hap.start s).portRx port = s.portRx port := rfl
  simp only [linkByteIn, rx, none, setRx_start]

/-- A byte that completes no frame does nothing but what it makes of the host receiver. -/
theorem exec_hostByte {out : RxOut} (taken : s.host.rx.take b = out) (none : out.done = none) :
    exec (.hostByteReceived b) s = .next { s with host := { s.host with rx := out.rx } } := by
  subst taken
  refine happen_start (f := hostByteIn b) ?_
  have rx : (Hap.start s).host.rx = s.host.rx := rfl
  simp only [hostByteIn, rx, none]
  rfl

end

/-- Settles O37. -/
theorem receiversGatherFrames : Obligations.ReceiversGatherFrames := by
  unfold Obligations.ReceiversGatherFrames
  refine ⟨fun b s => ⟨happen_start (f := hostGapExpired) ?_, fun hunting => ?_, fun length => ?_,
    fun n got body more => exec_hostByte (take_body body more b) rfl⟩,
    fun port b s => ⟨happen_start (f := linkGapExpired port) ?_, fun hunting => ?_, fun length => ?_,
      fun n got body more => exec_linkByte (take_body body more b) rfl, fun hi kind tag payload short body bad => ?_⟩⟩
  · have rx : (Hap.start s).host.rx = s.host.rx := rfl
    rw [hostGapExpired, rx, gapExpired_eq]
    split <;> rfl
  · rw [exec_hostByte (take_hunting hunting b) rfl]
    split <;> rfl
  · rw [exec_hostByte (take_length length b) rfl]
  · have rx : (Hap.start s).portRx port = s.portRx port := rfl
    rw [linkGapExpired, rx, gapExpired_eq, setRx_start]
    split
    · rw [withRx_self]
    · rfl
  · rw [exec_linkByte (take_hunting hunting b) rfl]
    split
    · rfl
    · rw [withRx_self]
  · rw [exec_linkByte (take_length length b) rfl]
  · have discarded : (some (lastFrame kind tag payload hi b)).bind RxFrame.linkMsg = none :=
      if_neg (bad ∘ lastFrame_good.mp)
    exact exec_linkByte (take_last short body b) discarded

/-! ### Transmitters (R108, R161) -/

theorem takeBuffered_empty {h : Hap} (empty : h.host.buffer = []) : takeBuffered h = h := by
  rw [takeBuffered, empty]
  rfl

/-- Settles O39. -/
theorem transmittersGoOnToTheNextFrame : Obligations.TransmittersGoOnToTheNextFrame := by
  unfold Obligations.TransmittersGoOnToTheNextFrame
  refine ⟨fun s x c f plain => ⟨fun idle => ?_, fun sent empty => ?_, fun sent held frame short => ?_⟩,
    fun p x s => ⟨fun idle => ?_, fun sent => ?_, fun idle => ?_, fun sent plain rest => ?_⟩⟩
  · refine happen_start (f := hostFrameOut) ?_
    have cur : (Hap.start s).host.cur = none := idle
    simp only [hostFrameOut, cur]
  · refine happen_start (f := hostFrameOut) ?_
    have cur : (Hap.start s).host.cur = some x := sent
    simp only [hostFrameOut, cur, plain]
    exact (takeBuffered_empty empty).trans rfl
  · have cur : (Hap.start s).host.cur = some x := sent
    have buffer : (Hap.start s).host.buffer = [f] := held
    have out : hostFrameOut (Hap.start s) = hostFrameIn f (Hap.start { s with
        host := { s.host with cur := s.host.sendList.head?, sendList := s.host.sendList.tail, buffer := [] } }) := by
      have refill : (Hap.start { s with host := { s.host with
          cur := s.host.sendList.head?, sendList := s.host.sendList.tail, buffer := [] } }).host.buffer = [] := rfl
      simp only [hostFrameOut, cur, plain, hostFrameIn, refill, List.length_nil, bufferSize, Nat.zero_lt_succ, if_true,
        List.nil_append]
      rw [← buffer]
      rfl
    rw [exec_eq_hostRow frame short]
    exact congrArg (fun h => Host.Outcome.next (finish h)) out
  · refine happen_start (f := linkFrameOut (.d p)) ?_
    have cur : ((Hap.start s).dl p).tx.cur = none := idle
    simp only [linkFrameOut, frameSentD, cur]
  · refine happen_start (f := linkFrameOut (.d p)) ?_
    have cur : ((Hap.start s).dl p).tx.cur = some x := sent
    simp only [linkFrameOut, frameSentD, cur]
    exact setD_start p _
  · refine happen_start (f := linkFrameOut .u) ?_
    have cur : (Hap.start s).u.tx.cur = none := idle
    simp only [linkFrameOut, frameSentU, cur]
  · refine happen_start (f := linkFrameOut .u) ?_
    have cur : (Hap.start s).u.tx.cur = some x := sent
    simp only [linkFrameOut, frameSentU, cur, plain]
    split
    · next none =>
      have drained : s.u.tx.waiting = [] := by
        have : s.u.tx.waiting.head?.isNone = true := none
        simpa using this
      have phase : s.u.dumpPhase ≠ .sending := by tauto
      have : (Hap.start s).u.dumpPhase = s.u.dumpPhase := rfl
      unfold formDumpFrame
      split
      · next sending => exact absurd sending phase
      · rfl
      · rfl
    · rfl

/-! ### Keepalives and their timers (R109, R114) -/

section
variable {s : State}

/-- A message that its port discards in SYNCING and UP only restarts the loss timer. -/
theorem exec_heard_d {p : DPort} {m : LinkMsg} (active : (s.dl p).state.active = true)
    (discarded : takeActiveD p m (Hap.start (s.heard (.d p))) = Hap.start (s.heard (.d p))) :
    linkRow (.d p) m s = .next (s.heard (.d p)) :=
  happen_start (f := linkIn (.d p) m) ((linkIn_active active m).trans discarded)

theorem exec_heard_u {m : LinkMsg} (hears : s.hearsParent)
    (discarded : takeActiveU m (Hap.start (s.heard .u)) = Hap.start (s.heard .u)) :
    linkRow .u m s = .next (s.heard .u) :=
  happen_start (f := linkIn .u m) ((linkIn_heard hears m).trans discarded)

/-- A port in no state that takes messages discards all but a PROBE REPLY in PROBING. -/
theorem linkIn_inactive {p : DPort} {m : LinkMsg} (inactive : (s.dl p).state.active = false)
    (probing : (s.dl p).state = .probing → takeProbingD p m (Hap.start s) = Hap.start s) :
    linkRow (.d p) m s = .next s := by
  refine happen_start (f := linkIn (.d p) m) ?_
  have dl : (Hap.start s).dl p = s.dl p := rfl
  cases st : (s.dl p).state with
  | syncing | up => simp [st, LinkState.active] at inactive
  | probing => simp only [linkIn, linkInD, dl, st, probing st]
  | down | refused => simp only [linkIn, linkInD, dl, st]

end

/-- Settles O41. -/
theorem keepalivesKeepTheLink : Obligations.KeepalivesKeepTheLink := by
  unfold Obligations.KeepalivesKeepTheLink
  refine ⟨fun port p rackId rackClass s => ⟨fun hears => ?_, fun deaf => ?_, fun hears => ?_, fun deaf => ?_⟩,
    fun p s => ⟨?probe, ?keepalive, ?keepaliveU⟩⟩
  · cases port with
    | u => exact exec_heard_u hears rfl
    | d q => exact exec_heard_d hears rfl
  · cases port with
    | d q => exact linkIn_inactive (Bool.not_eq_true _ ▸ deaf) fun _ => rfl
    | u =>
      refine happen_start (f := linkIn .u .keepalive) ?_
      have role : (Hap.start s).role = s.role := rfl
      cases r : s.role with
      | root => simp only [linkIn, linkInU, role, r]
      | branch =>
        have inactive : ¬(Hap.start s).u.state.active = true := fun active => deaf ⟨r, active⟩
        simp only [linkIn, linkInU, role, r]
        exact if_neg inactive
  · refine happen_start (f := linkIn (.d p) (.info rackId rackClass)) ((linkIn_active hears _).trans ?_)
    have dl : (Hap.start (s.heard (.d p))).dl p = { s.dl p with loss := some 60 } := heard_dl p
    simp only [takeActiveD, takeInfo, dl, setD_start]
    exact congrArg Hap.start (withD_withD p _ _)
  · exact linkIn_inactive (Bool.not_eq_true _ ▸ deaf) fun _ => rfl
  case probe =>
    refine happen_start (f := probeExpired p) ?_
    have dl : (Hap.start s).dl p = s.dl p := rfl
    split
    · next running =>
      obtain ⟨n, timer⟩ := Option.ne_none_iff_exists'.mp running.2
      simp only [probeExpired, dl, running.1, timer]
      exact setD_start p _
    · next stopped =>
      unfold probeExpired
      simp only [dl]
      split
      · next st timer => exact absurd ⟨st, fun c => by rw [c] at timer; cases timer⟩ stopped
      · rfl
  case keepalive =>
    refine happen_start (f := keepaliveExpired (.d p)) ?_
    have dl : (Hap.start s).dl p = s.dl p := rfl
    cases timer : (s.dl p).keepalive with
    | none => simp only [keepaliveExpired, keepaliveExpiredD, dl, timer, ne_eq, not_true_eq_false, and_false, if_false]
    | some n =>
      simp only [keepaliveExpired, keepaliveExpiredD, dl, timer, ne_eq, reduceCtorEq, not_false_eq_true, and_true]
      split
      · exact setD_start p _
      · rfl
  case keepaliveU =>
    refine happen_start (f := keepaliveExpired .u) ?_
    have u : (Hap.start s).u = s.u := rfl
    cases timer : s.u.keepalive with
    | none => simp only [keepaliveExpired, keepaliveExpiredU, u, timer, ne_eq, not_true_eq_false, and_false, if_false]
    | some n =>
      simp only [keepaliveExpired, keepaliveExpiredU, u, timer, ne_eq, reduceCtorEq, not_false_eq_true, and_true]
      split
      · next active => simp [sendU, sendUMarked, State.toParent, restarted, active, keepaliveMs, Hap.start]
      · rfl

end Sys2Proof.Machine
end

section
/-! PROOF. Requests and replies that pass through the part (R121 to R124, R169), and the child's dump and its messages sent
again (R128 to R130, R133, R151): exact next states. -/

namespace Sys2Proof.Machine

section
variable {s : State}

/-! ### FORWARD REQUEST at a branch (R121, R122) -/

/-- A FORWARD REQUEST taken on the state in which the parent has been heard. -/
theorem exec_forwardRequest {tag path kind : Byte} {payload : List Byte} {t : State} (hears : s.hearsParent)
    (short : payload.length ≤ 198)
    (taken : takeForwardRequest tag path kind payload (Hap.start (s.heard .u)) = Hap.start t) :
    exec (.forwardRequest .u tag path kind payload) s = .next t := by
  have fits : (linkPayload (.forwardRequest tag path kind payload)).length ≤ 200 := Nat.add_le_add_right short 2
  exact (sizedLinkRow_eq fits).trans (happen_start (f := linkIn .u _) ((linkIn_heard hears _).trans taken))

/-- A relay refusal goes up U with this part's tier. -/
theorem relayRefusal_heard (hears : s.hearsParent) (tag : Byte) (code : RefCode) :
    relayRefusal tag code (Hap.start (s.heard .u)) =
      Hap.start (s.sentUp (.forwardReply tag .refused (refusalPayload code (word16Of s.ownTier)))) := by
  rw [← sendU_heard hears.2, relayRefusal, answerUp]
  exact congrArg (fun bytes => sendU (.forwardReply tag .refused bytes) (Hap.start (s.heard .u))) (List.append_nil _)

end

/-- Settles O43. -/
theorem forwardRequestIsRelayed : Obligations.ForwardRequestIsRelayed := by
  unfold Obligations.ForwardRequestIsRelayed
  intro tag path kind payload p rest s hears short
  have refused := relayRefusal_heard hears tag
  refine ⟨fun none => exec_forwardRequest hears short ?_, fun named => exec_forwardRequest hears short ?_⟩
  · simp only [takeForwardRequest, none]
    exact refused .badPath
  · have dl : (Hap.start (s.heard .u)).dl p = s.dl p := by cases p <;> rfl
    have tier : (Hap.start (s.heard .u)).ownTier = s.ownTier := rfl
    simp only [takeForwardRequest, named, tier, dl]
    by_cases deep : 3 < rest.length + 1 + s.ownTier
    · rw [if_pos deep, if_pos deep]
      exact refused .badPath
    rw [if_neg deep, if_neg deep]
    by_cases closed : (s.dl p).state ≠ .up
    · rw [if_pos closed, if_pos closed]
      exact refused .noRoute
    rw [if_neg closed, if_neg closed]
    by_cases full : 4 ≤ s.ops.entries.length
    · rw [if_pos full]
      exact (if_pos (not_free.mpr full)).trans (refused .busy)
    · rw [if_neg full]
      refine (if_neg (full ∘ not_free.mp)).trans ?_
      cases p <;> rfl

/-! ### The replies of waiting FORWARDs (R123, R124, R169) -/

section
variable {s : State} {e : OpEntry}

/-- The one entry with an op id. -/
theorem find_op {es : List OpEntry} (ids : (es.map OpEntry.op).Nodup) (mem : e ∈ es) {q : OpEntry → Bool}
    (holds : q e = true) (only : ∀ x, q x = true → x.op = e.op) : es.find? q = some e := by
  have found : (es.find? q).isSome := List.find?_isSome.mpr ⟨e, mem, holds⟩
  obtain ⟨x, found⟩ := Option.isSome_iff_exists.mp found
  rw [found, List.inj_on_of_nodup_map ids (List.mem_of_find?_eq_some found) mem (only x (List.find?_some found))]

theorem find_op_none {es : List OpEntry} {op : Byte} (absent : op ∉ es.map OpEntry.op) {q : OpEntry → Bool}
    (only : ∀ x, q x = true → x.op = op) : es.find? q = none :=
  List.find?_eq_none.mpr fun x mem holds => absent (only x holds ▸ List.mem_map_of_mem mem)

/-- A reply passed up U. -/
theorem passUp_upstream {tag : Byte} (origin : e.origin = .upstream tag) (active : s.u.state.active = true) (kind : ReplyKind)
    (payload : List Byte) :
    passUp e kind payload (Hap.start s) = Hap.start (State.toParent { s with ops := s.ops.release e.op }
      (.forwardReply tag kind payload)) := by
  simp [passUp, freeOpEntry, origin, sendU, sendUMarked, State.toParent, restarted, active, keepaliveMs, Hap.start]

/-- A reply passed up to the host, by what the repeat memory holds. -/
theorem passUp_host {tag : Byte} {m : RepeatRec} (origin : e.origin = .host tag) (memory : s.host.memory = some m)
    (kind : ReplyKind) (payload : List Byte) (answered : State)
    (he : answered = { s with
      ops := s.ops.release e.op,
      host := { s.host with memory := some (if m.reply = .pending e.op then
                                              { m with reply := .frame (replyFrame tag kind payload) } else m) } }) :
    passUp e kind payload (Hap.start s) =
      Hap.start (if s.host.waitingOf .late < 4 then
                   State.handed answered { sort := .late, frame := replyFrame tag kind payload, resets := none }
                 else answered) := by
  subst he
  have same : ({ s.host with memory := some m } : HostLink) = s.host := by rw [← memory]
  have stored : storeLate e.op (replyFrame tag kind payload) (freeOpEntry e.op (Hap.start s)) = Hap.start { s with
      ops := s.ops.release e.op,
      host := { s.host with memory := some (if m.reply = .pending e.op then
                                              { m with reply := .frame (replyFrame tag kind payload) } else m) } } := by
    have held : (freeOpEntry e.op (Hap.start s)).host.memory = some m := memory
    unfold storeLate
    simp only [held]
    cases reply : m.reply with
    | frame f =>
      simp only [reduceCtorEq, if_false, same]
      rfl
    | pending o =>
      simp only [MemReply.pending.injEq]
      by_cases mine : o = e.op
      · simp only [mine, if_true]
        rfl
      · simp only [mine, if_false, same]
        rfl
  simp only [passUp, origin, lateReply, stored]
  by_cases room : s.host.waitingOf .late < 4
  · rw [if_pos room]
    exact if_pos room
  · rw [if_neg room]
    exact if_neg room

end

/-- Settles O45. -/
theorem waitingForwardIsAnswered : Obligations.WaitingForwardIsAnswered := by
  unfold Obligations.WaitingForwardIsAnswered
  intro e p tag kind payload m s base answered c short
  refine ⟨fun odd => ?_, fun ids forward port running cause => ?_⟩
  · exact (if_neg (by rw [odd]; nofun) : execForwardReply (.d p) tag kind payload s = .next s)
  have passed : (e ∈ s.ops.entries → ∀ t, passUp e kind payload (Hap.start base) = Hap.start t → exec c s = .next t) ∧
      (e.op ∉ s.ops.ids → exec c s = .next base) ∧ base.ops = s.ops ∧ base.host = s.host ∧ base.u = s.u := by
    rcases cause with ⟨rfl, active, fits, rfl⟩ | ⟨rfl, rfl, rfl, rfl⟩
    · have short' : (linkPayload (.forwardReply e.op kind payload)).length ≤ 200 := Nat.add_le_add_right short 1
      have row : exec (.forwardReply (.d p) e.op kind payload) s = linkRow (.d p) (.forwardReply e.op kind payload) s :=
        (if_pos fits).trans (sizedLinkRow_eq short')
      have ops : (s.heard (.d p)).ops = s.ops := by cases p <;> rfl
      have entries : (Hap.start (s.heard (.d p))).ops.entries = s.ops.entries := congrArg OpTable.entries ops
      refine ⟨fun mem t passed => ?_, fun absent => ?_, ops, by cases p <;> rfl, by cases p <;> rfl⟩
      · refine row.trans (happen_start (f := linkIn (.d p) _) ((linkIn_active active _).trans ?_))
        have found : s.ops.entries.find? (fun e' => decide (e'.kind = .forward) && decide (e'.op = e.op) &&
            decide (e'.hopPort = some p)) = some e :=
          find_op ids mem (by simp [forward, port]) fun x hx => by
            simp only [Bool.and_eq_true, decide_eq_true_eq] at hx
            exact hx.1.2
        simp only [takeActiveD, takeForwardReply, entries, found, passed]
      · refine row.trans (happen_start (f := linkIn (.d p) _) ((linkIn_active active _).trans ?_))
        have found : s.ops.entries.find? (fun e' => decide (e'.kind = .forward) && decide (e'.op = e.op) &&
            decide (e'.hopPort = some p)) = none :=
          find_op_none absent fun x hx => by
            simp only [Bool.and_eq_true, decide_eq_true_eq] at hx
            exact hx.1.2
        simp only [takeActiveD, takeForwardReply, entries, found]
    · have only : ∀ x : OpEntry, (decide (x.op = e.op) && decide (x.kind = .forward) && x.hopTimer.isSome) = true →
          x.op = e.op := fun x hx => by
        simp only [Bool.and_eq_true, decide_eq_true_eq] at hx
        exact hx.1.1
      refine ⟨fun mem t passed => happen_start (f := hopExpired e.op) ?_,
        fun absent => happen_start (f := hopExpired e.op) ?_, rfl, rfl, rfl⟩
      · have found : (Hap.start base).ops.waitingForward e.op = some e :=
          find_op ids mem (by simp [forward, Option.isSome_iff_ne_none, running]) only
        simp only [hopExpired, found]
        exact passed
      · have found : (Hap.start base).ops.waitingForward e.op = none := find_op_none absent only
        simp only [hopExpired, found]
  obtain ⟨onEntry, onNone, ops, host, u⟩ := passed
  refine ⟨fun mem origin active => onEntry mem _ ?_, fun mem origin memory he => onEntry mem _ ?_, onNone⟩
  · rw [passUp_upstream origin (u ▸ active), ops]
    rfl
  · rw [passUp_host origin (host ▸ memory) kind payload answered (by rw [he, ops, host]; rfl), host]

end Sys2Proof.Machine
end

section
/-! PROOF. The end of a happening in the cases that the statements name: what stands where little is due, that the
completeness flags follow their causes, and that frames handed to U stay handed. -/

namespace Sys2Proof.Machine

section
variable {h : Hap} {s : State}

/-! ### Where little is due -/

/-- The end of a happening behind overflow recovery. -/
def behindRecovery (h : Hap) : Hap :=
  attend (drainIfDue (sendDeltasIfDue (handUpward (advanceGeneration (recomputeFlags h)))))

theorem settleIfDue_still (still : h.settleDue = false) : settleIfDue h = h := by simp [settleIfDue, still]

theorem recomputeFlags_still (still : h.flagsDue = false) : recomputeFlags h = h := by simp [recomputeFlags, still]

theorem advanceGeneration_still (clean : h.dirty = false) : advanceGeneration h = h := by simp [advanceGeneration, clean]

theorem handUpward_still (clean : h.dirty = false) : handUpward h = h := by simp [handUpward, clean]

/-- A root hands nothing upward. -/
theorem handUpward_root (root : h.role = .root) : handUpward h = h := by simp [handUpward, root]

theorem sendDeltasIfDue_still (still : h.deltaDue = false) : sendDeltasIfDue h = h := by simp [sendDeltasIfDue, still]

theorem drainIfDue_still (still : h.drainDue = false) : drainIfDue h = h := by simp [drainIfDue, still]

theorem drainIfDue_root (root : h.role = .root) : drainIfDue h = h := by simp [drainIfDue, root]

theorem attend_still (still : h.entered = []) : attend h = h := by simp [attend, still, topPriority]

theorem attend_branch (branch : h.role = .branch) : attend h = h := by simp [attend, branch]

theorem overflowRecovery_clean (clean : h.dirty = false) : overflowRecovery h = h := by simp [overflowRecovery, clean]

/-- Recovery has nothing to do where no port is marked. -/
theorem overflowRecovery_unmarked (m1 : h.roster.marker1 = false) (m2 : h.roster.marker2 = false) :
    overflowRecovery h = h := by
  have one : recoverPort .d1 h = h := if_neg (by simp [Roster.marker, m1])
  have two : recoverPort .d2 h = h := if_neg (by simp [Roster.marker, m2])
  rw [overflowRecovery_eq, one, two, ite_self]

/-- Recovery has nothing to do over a full roster. -/
theorem overflowRecovery_full (full : rosterCapacity ≤ h.roster.entries.length) : overflowRecovery h = h := by
  simp [overflowRecovery, Roster.full, full]

theorem closing_behind (h : Hap) : closing h = behindRecovery (overflowRecovery (settleIfDue h)) := rfl

/-- The settling of the waiting list leaves the refused markers alone. -/
theorem settleIfDue_markers (h : Hap) : (settleIfDue h).roster.marker1 = h.roster.marker1 ∧
    (settleIfDue h).roster.marker2 = h.roster.marker2 := by
  have := (moves_settleIfDue h).frame .markers rfl
  simpa [Part.same] using this

theorem closing_unmarked (m1 : h.roster.marker1 = false) (m2 : h.roster.marker2 = false) :
    closing h = behindRecovery (settleIfDue h) := by
  obtain ⟨e1, e2⟩ := settleIfDue_markers h
  rw [closing_behind, overflowRecovery_unmarked (e1.trans m1) (e2.trans m2)]

/-- Where the roster stands as it was and the waiting list is not due, only what is behind recovery is left. -/
theorem closing_clean (settled : h.settleDue = false) (clean : h.dirty = false) : closing h = behindRecovery h := by
  rw [closing_behind, settleIfDue_still settled, overflowRecovery_clean clean]

theorem finish_eq (noReset : h.resetDue = none) : finish h = (closing h).toState := by rw [finish, noReset]

/-! ### What the end of a happening leaves alone -/

/-- A part that the end of a happening cannot change stands as the command's own step left it. -/
theorem closing_same {x : Part} (kept : endParts x = false) : x.same h (closing h) :=
  (moves_closing h).frame x kept

/-- With no marker set, the end of a happening leaves the ports and the markers alone too. -/
def unmarkedParts : Part → Bool
  | .markers | .port _ => false
  | x => endParts x

theorem moves_closing_unmarked (m1 : h.roster.marker1 = false) (m2 : h.roster.marker2 = false) :
    Moves unmarkedParts h (closing h) := by
  rw [closing_unmarked m1 m2]
  refine ((moves_settleIfDue h).mono fun x => ?_).trans ((moves_behindRecovery _).mono fun x => ?_)
  · cases x <;> first | exact id | exact fun _ => rfl
  · cases x <;> first | exact id | exact fun _ => rfl

/-- With the roster as it was and nothing to settle, the roster's entries, the waiting list and the ports stand. -/
theorem moves_closing_clean (settled : h.settleDue = false) (clean : h.dirty = false) : Moves lateParts h (closing h) := by
  rw [closing_clean settled clean]
  exact moves_behindRecovery h

/-! ### The completeness flags (R21) -/

theorem sendDeltas_roster : ∀ (n : Nat) (h : Hap), (sendDeltas n h).roster = h.roster
  | 0, _ => rfl
  | n + 1, h => by
    unfold sendDeltas
    split
    · rfl
    · split
      · exact (sendDeltas_roster n _).trans rfl
      · rfl

theorem handUpward_roster (due : h.flagsDue = false) : (handUpward h).roster = h.roster := by
  have opened : ∀ c, (openDump c h).roster = h.roster := fun c => by
    rw [openDump, recomputeFlags_still due]
    rfl
  have begun : ∀ c, (beginDump c h).roster = h.roster := fun c => by
    unfold beginDump
    split
    · exact (opened c).symm ▸ rfl
    · exact opened c
  unfold handUpward
  simp only
  split
  · split
    · rfl
    · split
      · exact begun _
      · rfl
  · rfl

/-- Behind the reckoning of the flags the end of a happening leaves the roster alone, but for its generation. -/
theorem behindRecovery_roster (h : Hap) : (behindRecovery h).roster = (advanceGeneration (recomputeFlags h)).roster := by
  have due : (advanceGeneration (recomputeFlags h)).flagsDue = false := by
    cases due : h.flagsDue <;> cases dirty : h.dirty <;> simp [advanceGeneration, recomputeFlags, due, dirty]
    all_goals split <;> rfl
  have attended : ∀ h : Hap, (attend h).roster = h.roster := fun h => by
    unfold attend
    split
    · split <;> rfl
    · rfl
  have drained : ∀ h : Hap, (drainIfDue h).roster = h.roster := fun h => by
    unfold drainIfDue
    split
    · split <;> rfl
    · rfl
  have sent : ∀ h : Hap, (sendDeltasIfDue h).roster = h.roster := fun h => by
    unfold sendDeltasIfDue
    split
    · exact sendDeltas_roster _ h
    · rfl
  rw [behindRecovery, attended, drained, sent, handUpward_roster due]

theorem advanceGeneration_flags (h : Hap) : (advanceGeneration h).roster.flags = h.roster.flags := by
  unfold advanceGeneration
  split <;> rfl

/-- The flags' causes stand in the ports and the markers. -/
theorem causedFlags_congr {s t : State} (d1 : t.d1 = s.d1) (d2 : t.d2 = s.d2) (m1 : t.roster.marker1 = s.roster.marker1)
    (m2 : t.roster.marker2 = s.roster.marker2) : t.causedFlags = s.causedFlags := by
  simp only [State.causedFlags, d1, d2, m1, m2]

theorem behindRecovery_causedFlags (h : Hap) : (behindRecovery h).causedFlags = h.causedFlags := by
  have m := moves_behindRecovery h
  have markers := m.frame .markers rfl
  simp only [Part.same, Prod.mk.injEq] at markers
  exact causedFlags_congr (m.frame (.port .d1) rfl) (m.frame (.port .d2) rfl) markers.1 markers.2

/-- Where they are due the flags are reckoned from their causes. -/
theorem behindRecovery_flags (due : h.flagsDue = true) : (behindRecovery h).roster.flags = (behindRecovery h).causedFlags := by
  rw [behindRecovery_causedFlags, behindRecovery_roster, advanceGeneration_flags, recomputeFlags, if_pos due]

/-- Where they are not due they stand. -/
theorem behindRecovery_flags_still (due : h.flagsDue = false) : (behindRecovery h).roster.flags = h.roster.flags := by
  rw [behindRecovery_roster, advanceGeneration_flags, recomputeFlags_still due]

/-! ### Frames handed to U stay handed -/

/-- Every frame that one state of U's transmitter holds the other holds too. -/
def LinkTx.within (a b : LinkTx) : Prop := ∀ x ∈ a.frames, x ∈ b.frames

theorem LinkTx.within.refl (a : LinkTx) : a.within a := fun _ => id

theorem LinkTx.within.trans {a b c : LinkTx} (ab : a.within b) (bc : b.within c) : a.within c := fun x m => bc x (ab x m)

theorem hand_within (t : LinkTx) (x : TxFrame) : t.within (t.hand x) := by
  intro y mem
  cases cur : t.cur with
  | none =>
    rw [LinkTx.frames, cur] at mem
    simp only [LinkTx.hand, cur]
    exact List.mem_append_right _ mem
  | some z =>
    rw [LinkTx.frames, cur] at mem
    simp only [LinkTx.hand, cur, LinkTx.frames, ← List.append_assoc]
    exact List.mem_append_left _ mem

theorem hand_mem (t : LinkTx) (x : TxFrame) : x ∈ (t.hand x).frames := by
  cases cur : t.cur with
  | none =>
    simp only [LinkTx.hand, cur]
    exact List.mem_append_left _ (List.mem_cons_self ..)
  | some z =>
    simp only [LinkTx.hand, cur, LinkTx.frames, ← List.append_assoc]
    exact List.mem_append_right _ (List.mem_singleton_self x)

theorem openDump_within (c : DumpCause) (h : Hap) : h.u.tx.within (openDump c h).u.tx := by
  have flags : (recomputeFlags h).u = h.u := by
    unfold recomputeFlags
    split <;> rfl
  have : (openDump c h).u.tx = (recomputeFlags h).u.tx.hand _ := rfl
  rw [this, flags]
  exact hand_within _ _

theorem handUpward_within (h : Hap) : h.u.tx.within (handUpward h).u.tx := by
  unfold handUpward
  simp only
  split
  · split
    · exact .refl _
    · split
      · unfold beginDump
        split
        · exact (openDump_within _ h).trans (hand_within _ _)
        · exact openDump_within _ h
      · exact .refl _
  · exact .refl _

theorem sendDeltas_within : ∀ (n : Nat) (h : Hap), h.u.tx.within (sendDeltas n h).u.tx
  | 0, _ => .refl _
  | n + 1, h => by
    unfold sendDeltas
    split
    · exact .refl _
    · split
      · simp only
        refine LinkTx.within.trans ?_ (sendDeltas_within n _)
        exact hand_within _ _
      · exact .refl _

/-- What has been handed to U before the end of a happening is not discarded by it. -/
theorem behindRecovery_within (h : Hap) : h.u.tx.within (behindRecovery h).u.tx := by
  have flagged : (recomputeFlags h).u = h.u := by
    unfold recomputeFlags
    split <;> rfl
  have advanced : ∀ h : Hap, (advanceGeneration h).u = h.u := fun h => by
    unfold advanceGeneration
    split <;> rfl
  have attended : ∀ h : Hap, (attend h).u = h.u := fun h => by
    unfold attend
    split
    · split <;> rfl
    · rfl
  have drained : ∀ h : Hap, h.u.tx.within (drainIfDue h).u.tx := fun h => by
    unfold drainIfDue
    split
    · split
      · exact hand_within _ _
      · exact .refl _
    · exact .refl _
  have sent : ∀ h : Hap, h.u.tx.within (sendDeltasIfDue h).u.tx := fun h => by
    unfold sendDeltasIfDue
    split
    · exact sendDeltas_within _ h
    · exact .refl _
  have start : h.u.tx.within (advanceGeneration (recomputeFlags h)).u.tx := by
    rw [advanced, flagged]
    exact .refl _
  rw [behindRecovery, attended]
  exact start.trans ((handUpward_within _).trans ((sent _).trans (drained _)))

theorem settleIfDue_u (h : Hap) : (settleIfDue h).u = h.u := by
  have m := moves_settleIfDue h
  have parts := And.intro (m.frame .uFilter rfl) <| And.intro (m.frame .uRx rfl) <| And.intro (m.frame .uLoss rfl) <|
    And.intro (m.frame .uTier rfl) <| And.intro (m.frame .uState rfl) <| And.intro (m.frame .uOut rfl) <|
    And.intro (m.frame .uDump rfl) (m.frame .uDeltas rfl)
  simp only [Part.same, Prod.mk.injEq] at parts
  have eta : ∀ u : ULink, u = ⟨u.state, u.filter, u.rx, u.tx, u.keepalive, u.loss, u.recTier, u.recPath, u.tierKnown, u.dumpPhase,
    u.dumpCause, u.dumpList, u.cursor, u.ackTimer, u.deltas, u.nextSeq, u.retransmit⟩ := fun _ => rfl
  rw [eta (settleIfDue h).u, eta h.u]
  simp only [parts]

end

end Sys2Proof.Machine
end

section
/-! PROOF. The frames of the statements: what a happening of one slot or one D port leaves alone, with the end of the
happening included; and RESCAN, dumps and deltas asked for anew (R131, R138). -/

namespace Sys2Proof.Machine

section
variable {h : Hap} {s t : State} {i : SlotId} {p : DPort}

/-! ### Ports at the end of a happening -/

/-- The end of a happening leaves a port alone that has no refused marker. -/
theorem closing_port {q : DPort} (unmarked : h.roster.marker q = false) : (closing h).dl q = h.dl q := by
  have settled : (settleIfDue h).dl q = h.dl q := (moves_settleIfDue h).frame (.port q) rfl
  have marker : (settleIfDue h).roster.marker q = false := by
    obtain ⟨m1, m2⟩ := settleIfDue_markers h
    cases q
    · exact m1.trans unmarked
    · exact m2.trans unmarked
  have late : (closing h).dl q = (overflowRecovery (settleIfDue h)).dl q :=
    (moves_behindRecovery _).frame (.port q) rfl
  have idle : ∀ g : Hap, g.roster.marker q = false → recoverPort q g = g := fun g m => if_neg (by rw [m]; nofun)
  have recovered : ∀ g : Hap, g.roster.marker q = false → (overflowRecovery g).dl q = g.dl q := by
    intro g m
    rw [overflowRecovery_eq]
    split
    · cases q with
      | d1 => rw [idle g m]; exact (moves_recoverPort (p := .d2) g).frame (.port .d1) rfl
      | d2 =>
        rw [idle _ ((recoverPort_marker .d1 g).2 .d2 m)]
        exact (moves_recoverPort (p := .d1) g).frame (.port .d2) rfl
    · rfl
  rw [late, recovered _ marker, settled]

/-! ### The frame of a slot's happening -/

/-- What changes one slot's parts and what is sent to the host has, with its end, the statements' frame. -/
theorem slotFrame_of_same
    (same : ∀ x : Part, slotParts i x = false → x ≠ .hostMemory → x ≠ .hostOut → x.same (Hap.start s) h) :
    State.slotFrame i s (closing h).toState := by
  have frame : ∀ x : Part, slotParts i x = false → endParts x = false → x ≠ .hostMemory → x.same (Hap.start s) (closing h) :=
    fun x a b memory => Part.same_trans (same x a memory fun out => by rw [out] at b; cases b) ((moves_closing h).frame x b)
  have copies := frame .copies rfl rfl nofun
  have tier := frame .uTier rfl rfl nofun
  simp only [Part.same, Prod.mk.injEq] at copies tier
  have markers := same .markers rfl nofun nofun
  simp only [Part.same, Prod.mk.injEq] at markers
  refine ⟨frame .role rfl rfl nofun, frame .rate rfl rfl nofun, frame .rack rfl rfl nofun, frame .rescan rfl rfl nofun, frame .pending rfl rfl nofun,
    fun j ne => ?_, copies.1, copies.2.1, copies.2.2.1, copies.2.2.2, frame .hostRx rfl rfl nofun, frame .hostBuffer rfl rfl nofun,
    frame .units rfl rfl nofun, frame .kinds rfl rfl nofun, frame .remoteConds rfl rfl nofun, frame .uFilter rfl rfl nofun, frame .uRx rfl rfl nofun,
    frame .uLoss rfl rfl nofun, tier.1, tier.2.1, tier.2.2, fun m1 m2 => ?_⟩
  · have off : ∀ x : Part, x = .slot j ∨ x = .filter j ∨ x = .target j → slotParts i x = false := by
      rintro x (rfl | rfl | rfl) <;> simp [slotParts, ne]
    exact ⟨frame _ (off (.slot j) (by simp)) rfl nofun, frame _ (off (.filter j) (by simp)) rfl nofun,
      frame _ (off (.target j) (by simp)) rfl nofun⟩
  · have port1 : (closing h).dl .d1 = h.dl .d1 := closing_port (markers.1.trans m1)
    have port2 : (closing h).dl .d2 = h.dl .d2 := closing_port (markers.2.trans m2)
    exact ⟨port1.trans (same (.port .d1) rfl nofun nofun), port2.trans (same (.port .d2) rfl nofun nofun)⟩

/-- A happening of one slot, with its end, has the statements' frame. -/
theorem slotFrame_of (m : Moves (slotParts i) (Hap.start s) h) : State.slotFrame i s (closing h).toState :=
  slotFrame_of_same fun x own _ _ => m.frame x own

/-- The repeat memory is not a slot's. -/
theorem slot_memory (m : Moves (slotParts i) (Hap.start s) h) : (closing h).host.memory = s.host.memory :=
  Part.same_trans (x := .hostMemory) (m.frame _ rfl) ((moves_closing h).frame _ rfl)

theorem closing_slot (h : Hap) (j : SlotId) : (closing h).slot j = h.slot j := (moves_closing h).frame (.slot j) rfl

theorem closing_filter (h : Hap) (j : SlotId) : (closing h).filter j = h.filter j := (moves_closing h).frame (.filter j) rfl

theorem closing_target (h : Hap) (j : SlotId) : (closing h).target j = h.target j := (moves_closing h).frame (.target j) rfl

theorem closing_ops (h : Hap) : (closing h).ops = h.ops := (moves_closing h).frame .ops rfl

theorem closing_rescan (h : Hap) : (closing h).rescan = h.rescan := (moves_closing h).frame .rescan rfl

theorem closing_desc (h : Hap) : (closing h).desc = h.desc := by
  have := congrArg (fun x : Hap => x.desc) (closing_offEnd h)
  exact this

theorem closing_keys (h : Hap) : (closing h).roster.keys = h.roster.keys ∧
    (closing h).roster.joinCounter = h.roster.joinCounter := by
  simpa [Part.same] using (moves_closing h).frame .keys rfl

theorem closing_memory (h : Hap) : (closing h).host.memory = h.host.memory := (moves_closing h).frame .hostMemory rfl

/-! ### The frame of a D port's happening -/

/-- A happening of one D port, with its end, has the statements' frame, where it marks no other port. -/
theorem portFrame_of (base : t = s ∨ t = s.heard (.d p)) (m : Moves (portParts p) (Hap.start t) h)
    (other : s.roster.marker1 = false → s.roster.marker2 = false → ∀ q, q ≠ p → h.roster.marker q = false) :
    State.portFrame p s (closing h).toState := by
  have start : ∀ x : Part, x ≠ .port p → x.same (Hap.start s) (Hap.start t) := by
    rcases base with rfl | rfl
    · exact fun x _ => Part.same_refl _ x
    · intro x ne
      cases x
      case port q => cases p <;> cases q <;> first | exact rfl | exact absurd rfl ne
      all_goals cases p <;> exact rfl
  have frame : ∀ x, portParts p x = false → endParts x = false → x.same (Hap.start s) (closing h) := fun x a b =>
    Part.same_trans (Part.same_trans (start x fun e => by simp [e, portParts] at a) (m.frame x a))
      ((moves_closing h).frame x b)
  have tier := frame .uTier rfl rfl
  have copies := frame .copies rfl rfl
  have commit := frame .commit rfl rfl
  simp only [Part.same, Prod.mk.injEq] at tier copies commit
  have vec : ∀ {α : Type} {v w : Vector α 10}, (∀ j : SlotId, v[j] = w[j]) → v = w := fun e =>
    Vector.ext fun j hj => e ⟨j, hj⟩
  have descEta : ∀ d : Desc, d = ⟨d.staging, d.bank0, d.bank1, d.live, d.commit⟩ := fun _ => rfl
  refine ⟨frame .role rfl rfl, frame .rate rfl rfl, vec fun j => frame (.filter j) rfl rfl,
    vec fun j => frame (.slot j) rfl rfl, frame .rack rfl rfl, vec fun j => frame (.target j) rfl rfl, ?_,
    frame .pending rfl rfl, frame .units rfl rfl, frame .hostRx rfl rfl, frame .hostBuffer rfl rfl, frame .hostMemory rfl rfl,
    frame .kinds rfl rfl, frame .uFilter rfl rfl, frame .uRx rfl rfl, frame .uLoss rfl rfl, tier.1, tier.2.1, tier.2.2,
    fun m1 m2 q ne => ?_⟩
  · rw [descEta (closing h).desc, copies.1, copies.2.1, copies.2.2.1, copies.2.2.2, commit]
    rfl
  · have off : portParts p (.port q) = false := by simp [portParts, ne]
    have notP : Part.port q ≠ .port p := fun e => ne (Part.port.inj e)
    exact (closing_port (other m1 m2 q ne)).trans (Part.same_trans (x := .port q) (start _ notP) (m.frame _ off))

/-- With nothing sent down, a root's happening leaves U alone. -/
theorem behindRecovery_root (root : h.role = .root) (deltas : h.deltaDue = false) :
    behindRecovery h = attend (advanceGeneration (recomputeFlags h)) := by
  have flagged : (recomputeFlags h).role = h.role ∧ (recomputeFlags h).deltaDue = h.deltaDue := by
    unfold recomputeFlags
    split <;> exact ⟨rfl, rfl⟩
  have advanced : ∀ g : Hap, (advanceGeneration g).role = g.role ∧ (advanceGeneration g).deltaDue = g.deltaDue := fun g => by
    unfold advanceGeneration
    split <;> exact ⟨rfl, rfl⟩
  obtain ⟨role, due⟩ := advanced (recomputeFlags h)
  have role' := role.trans (flagged.1.trans root)
  rw [behindRecovery, handUpward_root role', sendDeltasIfDue_still (due.trans (flagged.2.trans deltas)), drainIfDue_root role']

theorem behindRecovery_root_u (root : h.role = .root) (deltas : h.deltaDue = false) : (behindRecovery h).u = h.u := by
  rw [behindRecovery_root root deltas]
  have attended : ∀ g : Hap, (attend g).u = g.u := fun g => by
    unfold attend
    split
    · split <;> rfl
    · rfl
  have advanced : ∀ g : Hap, (advanceGeneration g).u = g.u := fun g => by
    unfold advanceGeneration
    split <;> rfl
  rw [attended, advanced]
  unfold recomputeFlags
  split <;> rfl

end

end Sys2Proof.Machine
end

section
/-! PROOF. RESCAN, the requests executed at a branch, the dump and the retransmissions (R122, R128 to R134, R138, R151). -/

namespace Sys2Proof.Machine

/-! ### RESCAN (R138) -/

/-- A frame handed to the host leaves the repeat memory alone. -/
theorem hand_memory (l : HostLink) (x : SendItem) : (l.hand x).memory = l.memory := by
  unfold HostLink.hand
  split
  · rfl
  · split <;> rfl

/-- The reply to a request is remembered. -/
theorem HostLink.replied_memory (l : HostLink) (f : HostFrame) (kind : ReplyKind) (payload : List Byte) :
    (l.replied f kind payload).memory = some (recordOf f (.frame (replyFrame f.tag kind payload))) := hand_memory _ _

/-- With a free entry the next op id is in no entry, whatever the counter. -/
theorem nextOp_unused {t : OpTable} (free : t.entries.length < 4) : t.nextOp ∉ t.ids := by
  by_cases counter : t.counter = 0
  · intro used
    have zero : (0 : Byte) ∈ t.ids := by
      by_contra unused
      have first : t.nextOp = 0 := by
        rw [OpTable.nextOp, counter, opTableSize, freeOp, if_neg (by simpa using unused)]
      exact unused (first ▸ used)
    have next : t.nextOp = freeOp t.ids 3 1 := by
      rw [OpTable.nextOp, counter, opTableSize, freeOp, if_pos (by simpa using zero)]
      rfl
    have all := (freeOp_spec t.ids 3 1 (by decide)).2 (next ▸ used)
    have sub : [(0 : Byte), 1, 2, 3, 4] ⊆ t.ids := by
      intro x hx
      rcases List.mem_cons.mp hx with rfl | hx
      · exact zero
      · exact all x hx
    have len := (by decide : [(0 : Byte), 1, 2, 3, 4].Nodup).length_le_of_subset sub
    simp [OpTable.ids] at len
    omega
  · exact (nextOp_fresh free counter).2

/-- An entry taken and freed in the same happening leaves the others, and the counter moved on. -/
theorem release_take {t : OpTable} (free : t.entries.length < 4) (kind : OpKind) (o : Origin) (port : Option DPort)
    (timer : Timer) : (t.take kind o port timer).release t.nextOp = { t with counter := nextByte t.nextOp } := by
  have kept : t.entries.filter (fun e => decide (e.op ≠ t.nextOp)) = t.entries :=
    List.filter_eq_self.mpr fun e mem => decide_eq_true fun same =>
      nextOp_unused free (same ▸ List.mem_map_of_mem mem)
  simp only [OpTable.release, OpTable.take, List.filter_append, kept, List.filter_cons, ne_eq, not_true_eq_false,
    decide_false, Bool.false_eq_true, if_false, List.filter_nil, List.append_nil]

/-- A D port that has been asked for a dump (R131). -/
def DLink.asked (d : DLink) : DLink :=
  DLink.send { d with state := .syncing, syncPhase := .awaiting, syncTimer := some 500 } .resync

theorem askDump_active {h : Hap} {p : DPort} (active : (h.dl p).state.active = true) :
    askDump p h = { h.setD p (h.dl p).asked with flagsDue := true } := if_pos active

/-- A D port that a RESCAN asks where it is UP. -/
def DLink.rescanned (d : DLink) : DLink := if d.state = .up then d.asked else d

/-- A RESCAN with a port UP asks each such port and waits for them. -/
theorem beginRescan_up {h : Hap} (op : Byte) (up : h.d1.state = .up ∨ h.d2.state = .up) :
    beginRescan op h = { h with
      d1 := h.d1.rescanned, d2 := h.d2.rescanned, flagsDue := true,
      rescan := some { op := op,
                       ports := (if h.d1.state = .up then [.d1] else []) ++ (if h.d2.state = .up then [.d2] else []),
                       synced := 0 } } := by
  have active : LinkState.up.active = true := rfl
  by_cases one : h.d1.state = .up <;> by_cases two : h.d2.state = .up
  · simp [beginRescan, State.dl, one, two, askDump, active, Hap.setD, DLink.rescanned, DLink.asked, syncMs]
  · simp [beginRescan, State.dl, one, two, askDump, active, Hap.setD, DLink.rescanned, DLink.asked, syncMs]
  · simp [beginRescan, State.dl, one, two, askDump, active, Hap.setD, DLink.rescanned, DLink.asked, syncMs]
  · exact (up.elim one two).elim

theorem beginRescan_none {h : Hap} (op : Byte) (one : h.d1.state ≠ .up) (two : h.d2.state ≠ .up) :
    beginRescan op h = opDone none op 0 h := by
  simp [beginRescan, State.dl, one, two]

section
variable {s : State} {o : Origin}

/-- RESCAN taken. -/
theorem reqRescan_taken {h : Hap} (idle : h.rescan = none) (free : h.ops.entries.length < 4) :
    reqRescan o h =
      (beginRescan h.ops.nextOp { h with ops := h.ops.take .rescan o none none }, .accepted h.ops.nextOp) := by
  have : (h.rescan.isSome || !h.ops.free) = false := by
    simp [idle, OpTable.free, opTableSize, free]
  rw [reqRescan, this]
  rfl

end

/-- What an operation of the event unit makes of a happening: another event unit, and notes for the end. -/
theorem shape_of_offEv {h h' : Hap} (e : h'.offEv = h.offEv) :
    ∃ ev entered due, h' = { h with ev := ev, entered := entered, drainDue := due } := by
  refine ⟨h'.ev, h'.entered, h'.drainDue, ?_⟩
  have : h' = { h'.offEv with ev := h'.ev, entered := h'.entered, drainDue := h'.drainDue } := rfl
  rw [this, e]
  rfl

/-- The end of a root's happening that left the roster as it was, with nothing to settle and no delta to send. -/
theorem finish_clean_root {h : Hap} (noReset : h.resetDue = none) (settled : h.settleDue = false) (clean : h.dirty = false)
    (deltas : h.deltaDue = false) (root : h.role = .root) :
    (finish h).host.memory = h.host.memory ∧ (finish h).ops = h.ops ∧ (finish h).rescan = h.rescan ∧
      (∀ p, (finish h).dl p = h.dl p) ∧ (finish h).slots = h.slots ∧ (finish h).targets = h.targets ∧
      (finish h).filters = h.filters ∧ (finish h).desc = h.desc ∧ (finish h).budget = h.budget ∧
      (finish h).roster.entries = h.roster.entries ∧ (finish h).u = h.u ∧ (finish h).role = h.role ∧
      (finish h).rack = h.rack ∧ (finish h).pending = h.pending := by
  obtain ⟨role, -, filters, slots, rack, targets, desc, ops, rescan, pending⟩ := finish_offEnd noReset
  rw [finish_eq noReset] at *
  have m := moves_closing_clean settled clean
  have units := m.frame .units rfl
  have waiting := m.frame .waiting rfl
  have entries := m.frame .entries rfl
  simp only [Part.same, Prod.mk.injEq] at units waiting entries
  have u : (closing h).u = h.u := by rw [closing_clean settled clean, behindRecovery_root_u root deltas]
  have eta : ∀ b : Budget, b = ⟨b.units, b.waiting, b.pwr⟩ := fun _ => rfl
  refine ⟨closing_memory h, ops, rescan, fun p => m.frame (.port p) rfl, slots, targets, filters, desc, ?_, entries.1, u, role,
    rack, pending⟩
  rw [eta (closing h).budget, units, waiting.1, waiting.2]

/-- Settles O26. -/
theorem rescanAsksEveryUpPort : Obligations.RescanAsksEveryUpPort := by
  unfold Obligations.RescanAsksEveryUpPort
  intro tag s ready
  have judged : judge (.host tag) 0x42 [] (Hap.start s) = reqRescan (.host tag) (Hap.start s) :=
    judge_of_req (r := .rescan) rfl rfl
  refine ⟨fun busy => exec_refused rfl (by simp) ready (judged.trans (if_pos ?_)), fun idle free => ?_⟩
  · simp only [Bool.or_eq_true, not_free, Option.isSome_iff_ne_none]
    exact busy
  have row : exec (.rescan tag) s = .next (finish (answerHost ⟨0x42, tag, []⟩ (.accepted s.ops.nextOp)
      (beginRescan s.ops.nextOp { Hap.start s with ops := s.ops.take .rescan (.host tag) none none }))) := by
    rw [exec_eq_hostRow (c := .rescan tag) (f := ⟨0x42, tag, []⟩) rfl (by simp), hostRow_ready ready, judged,
      reqRescan_taken (h := Hap.start s) idle free]
    rfl
  have root := ready_root ready
  by_cases up : s.d1.state = .up ∨ s.d2.state = .up
  · rw [beginRescan_up _ up] at row
    refine ⟨_, row, ?_⟩
    obtain ⟨memory, ops, rescan, ports, rest⟩ := finish_clean_root (h := answerHost ⟨0x42, tag, []⟩ (.accepted s.ops.nextOp)
      { Hap.start s with
        ops := s.ops.take .rescan (.host tag) none none, d1 := s.d1.rescanned, d2 := s.d2.rescanned, flagsDue := true,
        rescan := some { op := s.ops.nextOp,
                         ports := (if s.d1.state = .up then [.d1] else []) ++ (if s.d2.state = .up then [.d2] else []),
                         synced := 0 } }) rfl rfl rfl rfl root
    refine ⟨memory.trans ?_, ops.trans (if_pos up).symm, rescan.trans (if_pos up).symm, fun p => (ports p).trans ?_, rest⟩
    · exact HostLink.replied_memory ..
    · cases p <;> rfl
  · obtain ⟨one, two⟩ := not_or.mp up
    rw [beginRescan_none _ one two, opDone, raiseLatched] at row
    obtain ⟨ev, entered, due, raised⟩ := shape_of_offEv (raiseLatched_offEv
      { Hap.start s with ops := s.ops.take .rescan (.host tag) none none } .opDone (opLocus none s.ops.nextOp) 0)
    rw [← raiseLatched, raised] at row
    refine ⟨_, row, ?_⟩
    obtain ⟨memory, ops, rescan, ports, rest⟩ := finish_clean_root (h := answerHost ⟨0x42, tag, []⟩ (.accepted s.ops.nextOp)
      (freeOpEntry s.ops.nextOp { Hap.start s with
        ops := s.ops.take .rescan (.host tag) none none, ev := ev, entered := entered, drainDue := due })) rfl rfl rfl rfl root
    refine ⟨memory.trans ?_, ops.trans ?_, rescan.trans (idle.trans (if_neg up).symm), fun p => (ports p).trans ?_, rest⟩
    · exact HostLink.replied_memory ..
    · rw [if_neg up]
      exact release_take free ..
    · cases p
      · exact (if_neg one).symm
      · exact (if_neg two).symm

end Sys2Proof.Machine
end

section
/-! PROOF. The requests executed at a branch (R122), the child's dump, and what is sent again (R128 to R130, R133, R151). -/

namespace Sys2Proof.Machine

/-! ### Inner requests (R122) -/

section
variable {s : State} {tag kind : Byte} {bytes : List Byte} {h' : Hap} {a : Answer}

/-- An inner request, whatever its execution leaves for the end of the happening. -/
theorem exec_inner_finish (hears : s.hearsParent) (short : bytes.length ≤ 198)
    (judged : judge (.upstream tag) kind bytes (Hap.start (s.heard .u)) = (h', a)) :
    exec (.forwardRequest .u tag 0 kind bytes) s = .next (finish (answerUp tag a h')) := by
  have fits : (linkPayload (.forwardRequest tag 0 kind bytes)).length ≤ 200 := Nat.add_le_add_right short 2
  refine (sizedLinkRow_eq fits).trans (congrArg (fun h => Host.Outcome.next (finish h)) ?_)
  rw [linkIn_forwardRequest_here hears, executeInner, judged]

end

/-- Settles O44. -/
theorem innerRequestIsExecutedAtTheBranch : Obligations.InnerRequestIsExecutedAtTheBranch := by
  unfold Obligations.InnerRequestIsExecutedAtTheBranch
  intro tag kind path width timeout m keep flag seqs payload i s hears short few
  have shorter : payload.length ≤ 198 := Nat.le_succ_of_le short
  refine ⟨fun low high nonzero => ?rack, fun idle pages free => ?commit, fun state absent free => ?eject,
    fun idle free up => ?rescan, fun fits => ?forward, ?fetch, ?ack, fun unknown => ?unknown, ?reset⟩
  case rack =>
    have zero : width ≠ 0 := fun e => by simp [e] at low
    exact exec_inner hears (by simp) ((judge_of_req (r := .rackConfigure width timeout) rfl rfl).trans
      (if_neg (not_or.mpr ⟨zero, not_or.mpr ⟨Nat.not_lt.mpr high, nonzero⟩⟩))) (start_quiet _) rfl hears.2 rfl rfl
  case commit =>
    have taken := reqDescCommit_taken (s := s.heard .u) (o := .upstream tag) (boolOf_boolCode flag) idle pages free
    exact exec_inner hears (by simp) ((judge_of_req (r := .descCommit (boolCode flag)) rfl rfl).trans taken)
      (start_quiet _) rfl hears.2 rfl rfl
  case eject =>
    have room : (Hap.start (s.heard .u)).ops.free = true := decide_eq_true free
    have entry : ejectEntry i { Hap.start (s.heard .u) with ops := s.ops.take .eject (.upstream tag) none none } =
        { Hap.start (s.heard .u) with ops := s.ops.take .eject (.upstream tag) none none } := by
      have missing : State.localEntry { s.heard .u with ops := s.ops.take .eject (.upstream tag) none none } i = none := absent
      unfold ejectEntry
      simp only [show ({ Hap.start (s.heard .u) with ops := s.ops.take .eject (.upstream tag) none none } : Hap).localEntry i =
        none from missing]
    have slot : (Hap.start (s.heard .u)).slot i = s.slot i := rfl
    have taken : reqSlotEject (.upstream tag) i (Hap.start (s.heard .u)) =
        (ejectSlot i s.ops.nextOp { Hap.start (s.heard .u) with ops := s.ops.take .eject (.upstream tag) none none },
          .accepted s.ops.nextOp) := by
      rcases state with state | state <;>
      · simp only [reqSlotEject, slot, state, room, if_true]
        rfl
    refine exec_inner hears (by simp) ((judge_of_req (r := .slotEject (slotByte i)) rfl rfl).trans ?_)
      ?_ ?_ hears.2 rfl rfl (h' := ejectSlot i s.ops.nextOp
        { Hap.start (s.heard .u) with ops := s.ops.take .eject (.upstream tag) none none }) (t := State.withSlot { s with ops := s.ops.take .eject (.upstream tag) none none } i
        { s.slot i with state := .leaving, timer := some (100 * s.rack.ejectTimeout.toNat), ejectRequested := true,
                        ejectOp := s.ops.nextOp }) (a := .accepted s.ops.nextOp)
    · simp only [execute, onSlot, slotOf_slotByte]
      exact taken
    · rw [ejectSlot, entry]
      exact ⟨rfl, rfl, rfl, rfl, rfl, rfl, rfl⟩
    · rw [ejectSlot, entry]
      rfl
  case rescan =>
    have up' : (Hap.start (s.heard .u)).d1.state = .up ∨ (Hap.start (s.heard .u)).d2.state = .up := up
    have row := exec_inner_finish (kind := 0x42) (bytes := []) hears (Nat.zero_le _)
      ((judge_of_req (o := .upstream tag) (kind := 0x42) (bytes := []) (r := .rescan) rfl rfl).trans
      ((reqRescan_taken (h := Hap.start (s.heard .u)) idle free).trans
        (congrArg (fun h => (h, Answer.accepted s.ops.nextOp)) (beginRescan_up s.ops.nextOp up'))))
    refine ⟨_, row, ?_⟩
    rw [finish_eq rfl]
    have kept := moves_closing_clean (h := answerUp tag (.accepted s.ops.nextOp) { Hap.start (s.heard .u) with
        ops := s.ops.take .rescan (.upstream tag) none none, d1 := s.d1.rescanned, d2 := s.d2.rescanned, flagsDue := true,
        rescan := some { op := s.ops.nextOp,
                         ports := (if s.d1.state = .up then [.d1] else []) ++ (if s.d2.state = .up then [.d2] else []),
                         synced := 0 } }) rfl rfl
    refine ⟨kept.frame .ops rfl, ?_, kept.frame .rescan rfl, fun p => (kept.frame (.port p) rfl).trans ?_⟩
    · rw [closing_clean rfl rfl]
      exact behindRecovery_within _ _ (hand_mem _ _)
    · cases p <;> rfl
  case forward =>
    have judged : judge (.upstream tag) 0x03 (path :: kind :: payload) (Hap.start (s.heard .u)) =
        innerForward path (Hap.start (s.heard .u)) := judge_of_req (r := .forward path kind payload) rfl rfl
    have bytes : (path :: kind :: payload).length ≤ 198 := Nat.add_le_add_right fits 2
    unfold innerForward at judged
    cases named : pathOf path with
    | none =>
      rw [if_pos rfl]
      rw [named] at judged
      exact exec_inner_refused hears bytes judged
    | some q =>
      rw [if_neg nofun]
      rw [named] at judged
      exact exec_inner_refused hears bytes judged
  case fetch => exact exec_inner_refused hears (by simp) (judge_of_req (r := .eventFetch m) rfl rfl)
  case ack =>
    have size : (seqs.flatMap be16).length = 2 * seqs.length := length_flatMap_be16 seqs
    have count : (byteOf seqs.length).toNat = seqs.length := by
      rw [byteOf, BitVec.toNat_ofNat]
      omega
    have req : reqOf 0x51 (byteOf seqs.length :: seqs.flatMap be16) = some (.eventAck seqs) := by
      refine (if_pos ?_).trans (congrArg (Option.map Req.eventAck) (words16_flatMap_be16 seqs))
      rw [count, size]
    exact exec_inner_refused hears (by simp only [List.length_cons, size]; omega) (judge_of_req rfl req)
  case unknown =>
    refine exec_inner_refused hears shorter ?_
    simp only [judge, unknown, Bool.not_false, if_true]
    rfl
  case reset =>
    have judged : judge (.upstream tag) 0x02 [boolCode keep] (Hap.start (s.heard .u)) =
        (Hap.start (s.heard .u), .resets keep) := by
      refine (judge_of_req (r := .partReset (boolCode keep)) rfl rfl).trans ?_
      simp only [execute, reqPartReset, boolOf_boolCode]
    rw [exec_inner_quiet hears (by simp) judged (start_quiet _) rfl]
    have heard : (Hap.start (s.heard .u)).u = { s.u with loss := some 60 } := rfl
    simp only [sendUMarked, heard, restarted, hears.2, if_true, keepaliveMs, Answer.mark, Option.isNone_iff_eq_none]
    rfl

/-! ### The dump (R128, R129) -/

section
variable {h : Hap} {k : Key}

/-- A frame handed to an idle U whose link takes messages begins to be sent. -/
theorem sendU_idle {m : LinkMsg} (idle : h.u.tx = { cur := none, waiting := [] }) (active : h.u.state.active = true) :
    sendU m h = { h with u := { h.u with tx := { cur := some { msg := m, resets := none }, waiting := [] },
                                         keepalive := some 20 } } := by
  simp only [sendU, sendUMarked, idle, LinkTx.hand, restarted, active, Option.isNone_none, if_true, keepaliveMs]

/-- The frame of the list's next key (R129). -/
theorem formDumpFrame_next (sending : h.u.dumpPhase = .sending) (next : h.u.dumpList[h.u.cursor - 1]? = some k) :
    formDumpFrame h =
      sendU (.syncEntry (byteOf h.u.cursor) (dumpBody h.roster.entries k)) { h with u := { h.u with cursor := h.u.cursor + 1 } } := by
  simp only [formDumpFrame, sending, next]

/-- Behind the last key SYNC END follows (R129). -/
theorem formDumpFrame_end (sending : h.u.dumpPhase = .sending) (done : h.u.dumpList[h.u.cursor - 1]? = none) :
    formDumpFrame h = sendSyncEnd h := by
  simp only [formDumpFrame, sending, done]

end

/-- With no change to the roster's flags due, a dump begins by the steps of R128 alone. -/
theorem openDump_start {s : State} (active : s.u.state.active = true) (cause : DumpCause) :
    (openDump cause (Hap.start s)).toState = State.toParent
      { s with
        u := { s.u with state := .syncing, dumpPhase := .sending, dumpCause := cause, dumpList := s.roster.keys, cursor := 1,
                        ackTimer := none, deltas := [], retransmit := none },
        ev := { s.ev with retransmit := if s.u.state = .up then none else s.ev.retransmit } }
      (.syncBegin (byteOf s.roster.entries.length) cause) := by
  have len : s.roster.keys.length = s.roster.entries.length := by simp [Roster.keys]
  have keys : s.roster.entries.map Entry.key = s.roster.keys := rfl
  cases st : s.u.state <;> rw [st] at active
  case up | syncing =>
    simp [openDump, recomputeFlags_still, Hap.start, st, keys, len, sendU, sendUMarked, State.toParent, restarted,
      LinkState.active, keepaliveMs]
  all_goals exact absurd active (by decide)

theorem openDump_quiet (s : State) (cause : DumpCause) : (openDump cause (Hap.start s)).Quiet := by
  rw [openDump, recomputeFlags_still rfl]
  exact ⟨rfl, rfl, rfl, rfl, rfl, rfl, rfl⟩

/-- A dump begun in a happening that has changed nothing yet. -/
theorem beginDump_start {s begun : State} (active : s.u.state.active = true) (cause : DumpCause)
    (hb : begun = (openDump cause (Hap.start s)).toState) :
    (beginDump cause (Hap.start s)).Quiet ∧ (beginDump cause (Hap.start s)).toState =
      if s.roster.entries = [] then
        State.toParent { begun with u := { begun.u with dumpPhase := .awaitingAck, ackTimer := some 500 } }
          (.syncEnd 0 s.roster.flags)
      else begun := by
  subst hb
  have entries : (Hap.start s).roster.entries = s.roster.entries := rfl
  have quiet := openDump_quiet s cause
  have opened := openDump_start active cause
  cases empty : s.roster.entries with
  | cons e t =>
    rw [beginDump, entries, empty]
    exact ⟨quiet, (if_neg nofun).symm⟩
  | nil =>
    rw [beginDump, entries, empty]
    refine ⟨⟨quiet.settle, quiet.flags, quiet.dirty, quiet.delta, quiet.drain, quiet.entered, quiet.reset⟩, ?_⟩
    rw [if_pos rfl]
    simp only [List.isEmpty_nil, if_true, sendSyncEnd, sendU, sendUMarked]
    have keys : s.roster.keys = [] := by rw [Roster.keys, empty]; rfl
    simp only [opened]
    simp [State.toParent, restarted, LinkState.active, keepaliveMs, keys, byteOf, syncMs]

/-- Settles O46. -/
theorem dumpIsBegunAndSentFrameByFrame : Obligations.DumpIsBegunAndSentFrameByFrame := by
  unfold Obligations.DumpIsBegunAndSentFrameByFrame
  refine ⟨fun x s sent plain last sending active cursor => ?frames, fun s begun c cause loss hears cases hb => ?dump⟩
  case frames =>
    have cur : (Hap.start s).u.tx.cur = some x := sent
    have out : linkFrameOut .u (Hap.start s) = formDumpFrame (Hap.start { s with
        u := { s.u with tx := { cur := none, waiting := [] }, keepalive := some 20 } }) := by
      have tx : (Hap.start s).u.tx.next = { cur := none, waiting := [] } := by
        show LinkTx.mk s.u.tx.waiting.head? s.u.tx.waiting.tail = _
        rw [last]
        rfl
      have st : (Hap.start s).u.state.active = true := active
      simp only [linkFrameOut, frameSentU, cur, plain, tx, restarted, st, if_true, Option.isNone_none, keepaliveMs]
      rfl
    refine ⟨fun k next => happen_start (f := linkFrameOut .u) (out.trans ?_),
      fun done => happen_start (f := linkFrameOut .u) (out.trans ?_)⟩
    · exact (formDumpFrame_next sending next).trans (sendU_idle rfl active)
    · exact (formDumpFrame_end sending (List.getElem?_eq_none (Nat.le_sub_one_of_lt done))).trans (sendU_idle rfl active)
  case dump =>
    rcases cases with ⟨rfl, rfl, rfl⟩ | ⟨rfl, rfl, rfl, phase, timer⟩
    · obtain ⟨quiet, state⟩ := beginDump_start (s := s.heard .u) (begun := begun) hears.2 .requested
        (hb.trans (openDump_start (s := s.heard .u) hears.2 .requested).symm)
      have taken : linkIn .u .resync (Hap.start s) = beginDump .requested (Hap.start (s.heard .u)) := by
        rw [linkIn_heard hears, takeActiveU, takeResync]
        exact if_pos hears.2
      exact (linkRow_quiet taken quiet).trans (congrArg Host.Outcome.next state)
    · obtain ⟨quiet, state⟩ := beginDump_start (s := s) (begun := begun) hears.2 .noAck
        (hb.trans (openDump_start (s := s) hears.2 .noAck).symm)
      obtain ⟨n, timer⟩ := Option.ne_none_iff_exists'.mp timer
      have taken : ackExpired (Hap.start s) = beginDump .noAck (Hap.start s) := by
        have phase' : (Hap.start s).u.dumpPhase = .awaitingAck := phase
        have timer' : (Hap.start s).u.ackTimer = some n := timer
        simp only [ackExpired, phase', timer']
      refine (happen_quiet (f := ackExpired) (taken ▸ quiet)).trans (congrArg Host.Outcome.next ?_)
      rw [taken]
      exact state

end Sys2Proof.Machine
end

section
/-! PROOF. What is sent again (O49), and a D port's asking for a dump and marking its entries stale (O50, O52). -/

namespace Sys2Proof.Machine

/-! ### Frames handed on one after another -/

/-- A message handed to U on a link in SYNCING or UP, at the beginning of a happening. -/
theorem sendU_start {s : State} (active : s.u.state.active = true) (m : LinkMsg) :
    sendU m (Hap.start s) = Hap.start (s.toParent m) := by
  simp [sendU, sendUMarked, Hap.start, State.toParent, restarted, active, keepaliveMs]

/-- A message that fits its layout makes no frame longer than the largest. -/
theorem linkPayload_short {m : LinkMsg} (fits : LinkMsg.fits m = true) : (linkPayload m).length ≤ 200 := by
  simp only [LinkMsg.fits, Bool.and_eq_true, decide_eq_true_eq] at fits
  exact fits.1

section
variable {h : Hap}

/-- A transmitter that is idle has nothing waiting. -/
def LinkTx.tidy (t : LinkTx) : Prop := t.cur = none → t.waiting = []

theorem hand_tidy (t : LinkTx) (x : TxFrame) : (t.hand x).tidy := by
  intro idle
  unfold LinkTx.hand at idle
  split at idle
  · cases idle
  · next cur => exact absurd (cur.symm.trans idle) nofun

theorem hand_frames {t : LinkTx} (tidy : t.tidy) (x : TxFrame) : (t.hand x).frames = t.frames ++ [x] := by
  cases cur : t.cur with
  | none => simp [LinkTx.hand, LinkTx.frames, cur, tidy cur]
  | some y => simp [LinkTx.hand, LinkTx.frames, cur]

/-- A delta that has its number is handed on again (R133). -/
def sendAgain (h : Hap) (d : Delta) : Hap :=
  match d.seq with
  | some seq => sendU (.delta seq d.body) h
  | none => h

/-- The frame of a delta that has its number. -/
def Delta.frame (d : Delta) : Option TxFrame :=
  d.seq.map fun seq => { msg := LinkMsg.delta seq d.body, resets := none }

/-- Deltas handed on again move U's transmitter and keepalive timer alone. -/
theorem sendAgain_all : ∀ (ds : List Delta) (h : Hap), h.u.tx.tidy →
    ∃ tx k, ds.foldl sendAgain h = { h with u := { h.u with tx := tx, keepalive := k } } ∧
      tx.frames = h.u.tx.frames ++ ds.filterMap Delta.frame
  | [], h, _ => ⟨h.u.tx, h.u.keepalive, rfl, (List.append_nil _).symm⟩
  | d :: t, h, tidy => by
    cases seq : d.seq with
    | none =>
      obtain ⟨tx, k, same, frames⟩ := sendAgain_all t h tidy
      refine ⟨tx, k, ?_, ?_⟩
      · rw [List.foldl_cons, sendAgain, seq]
        exact same
      · rw [frames, List.filterMap_cons_none (by rw [Delta.frame, seq]; rfl)]
    | some n =>
      obtain ⟨tx, k, same, frames⟩ := sendAgain_all t (sendU (.delta n d.body) h) (hand_tidy _ _)
      refine ⟨tx, k, ?_, ?_⟩
      · rw [List.foldl_cons, sendAgain, seq]
        exact same
      · have first : (sendU (.delta n d.body) h).u.tx.frames =
            h.u.tx.frames ++ [{ msg := .delta n d.body, resets := none }] := hand_frames tidy _
        rw [frames, first, List.filterMap_cons_some (by rw [Delta.frame, seq]; rfl), List.append_assoc]
        rfl

theorem deltaRetransmit_up {n : Nat} (up : h.u.state = .up) (runs : h.u.retransmit = some n) :
    deltaRetransmit h = h.u.deltas.foldl sendAgain { h with u := { h.u with retransmit := some 40 } } := by
  unfold deltaRetransmit
  split
  · rfl
  · next no => exact (no _ up runs).elim

theorem eventRetransmit_up {x : InFlight} {n : Nat} (up : h.u.state = .up) (flight : h.ev.inFlight = some x)
    (runs : h.ev.retransmit = some n) :
    eventRetransmit h = sendU (flightMsg x) { h with ev := { h.ev with retransmit := some 40 } } := by
  unfold eventRetransmit
  split
  · unfold resendItem
    split
    · next y e =>
      cases flight.symm.trans e
      rfl
    · next e => cases flight.symm.trans e
  · next no => exact (no _ up runs).elim

end

/-- A message that a D port takes in SYNCING and UP, whatever it leaves for the end of the happening. -/
theorem linkRow_d {s : State} {p : DPort} {h : Hap} (active : (s.dl p).state.active = true) (m : LinkMsg)
    (taken : takeActiveD p m (Hap.start (s.heard (.d p))) = h) : linkRow (.d p) m s = .next (finish h) :=
  congrArg (fun h => Host.Outcome.next (finish h)) ((linkIn_active active m).trans taken)

/-- The same for U of a branch. -/
theorem linkRow_u {s : State} {h : Hap} (hears : s.hearsParent) (m : LinkMsg)
    (taken : takeActiveU m (Hap.start (s.heard .u)) = h) : linkRow .u m s = .next (finish h) :=
  congrArg (fun h => Host.Outcome.next (finish h)) ((linkIn_heard hears m).trans taken)

/-- Settles O49. -/
theorem unacknowledgedItemsAreSentAgain : Obligations.UnacknowledgedItemsAreSentAgain := by
  unfold Obligations.UnacknowledgedItemsAreSentAgain
  intro s x up
  refine ⟨fun runs tidy => ?_, fun flight runs => ?_⟩
  · obtain ⟨n, timer⟩ := Option.ne_none_iff_exists'.mp runs
    have again : deltaRetransmit (Hap.start s) =
        s.u.deltas.foldl sendAgain (Hap.start { s with u := { s.u with retransmit := some 40 } }) :=
      deltaRetransmit_up (h := Hap.start s) up timer
    obtain ⟨tx, k, same, frames⟩ := sendAgain_all s.u.deltas (Hap.start { s with u := { s.u with retransmit := some 40 } }) tidy
    exact ⟨_, happen_start (f := deltaRetransmit) (again.trans same), rfl, frames, rfl⟩
  · obtain ⟨n, timer⟩ := Option.ne_none_iff_exists'.mp runs
    have again := eventRetransmit_up (h := Hap.start s) up flight timer
    have active : s.u.state.active = true := by
      rw [up]
      rfl
    exact happen_start (f := eventRetransmit)
      (again.trans (sendU_start (s := { s with ev := { s.ev with retransmit := some 40 } }) active _))

/-! ### A D port asks for a dump (R131, R134) -/

section
variable {s t : State} {p : DPort} {h : Hap}

/-- What the end of a happening leaves of a D port's happening that changes no key of the roster. -/
structure PortEnd (p : DPort) (s : State) (h : Hap) (t : State) : Prop where
  port : t.dl p = h.dl p
  other : ∀ q, q ≠ p → t.dl q = s.dl q
  entries : t.roster.entries = h.roster.entries
  frame : State.portFrame p s t
  ops : t.ops = h.ops
  rescan : t.rescan = h.rescan
  budget : t.budget = h.budget

/-- A happening of one D port that leaves the roster and the waiting list as they were, with its end. -/
theorem portEnd_clean (base : t = s ∨ t = s.heard (.d p)) (m : Moves (portParts p) (Hap.start t) h)
    (settled : h.settleDue = false) (clean : h.dirty = false) (markers : ∀ q, h.roster.marker q = s.roster.marker q) :
    PortEnd p s h (closing h).toState := by
  have kept := moves_closing_clean settled clean
  have entries := kept.frame .entries rfl
  have waiting := kept.frame .waiting rfl
  simp only [Part.same, Prod.mk.injEq] at entries waiting
  have eta : ∀ b : Budget, b = ⟨b.units, b.waiting, b.pwr⟩ := fun _ => rfl
  refine ⟨kept.frame (.port p) rfl, fun q ne => ?_, entries.1, portFrame_of base m fun m1 m2 q _ => ?_, kept.frame .ops rfl,
    kept.frame .rescan rfl, ?_⟩
  · have own : h.dl q = t.dl q := m.frame (.port q) (by simp [portParts, ne])
    have before : t.dl q = s.dl q := by
      rcases base with rfl | rfl
      · rfl
      · exact withD_dl_ne _ (Ne.symm ne)
    exact (kept.frame (.port q) rfl).trans (own.trans before)
  · rw [markers q]
    cases q
    · exact m1
    · exact m2
  · rw [eta (closing h).budget, waiting.1, waiting.2, show (closing h).budget.units = h.budget.units from kept.frame .units rfl]

theorem heard_roster : (s.heard (.d p)).roster = s.roster := by cases p <;> rfl

/-- A D port on a link in SYNCING or UP that asks for a dump, with the end of the happening (R131). -/
theorem finish_askDump (base : t = s ∨ t = s.heard (.d p)) (active : (t.dl p).state.active = true) :
    PortEnd p s (askDump p (Hap.start t)) (finish (askDump p (Hap.start t))) ∧
      (finish (askDump p (Hap.start t))).roster.flags = (finish (askDump p (Hap.start t))).causedFlags ∧
      (finish (askDump p (Hap.start t))).dl p = (t.dl p).asked := by
  have roster : t.roster = s.roster := by
    rcases base with rfl | rfl
    · rfl
    · exact heard_roster
  have asked : askDump p (Hap.start t) = { Hap.start (t.withD p (t.dl p).asked) with flagsDue := true } :=
    (askDump_active active).trans (congrArg (fun h : Hap => { h with flagsDue := true }) (setD_start p _))
  have scratch : (askDump p (Hap.start t)).resetDue = none ∧ (askDump p (Hap.start t)).settleDue = false ∧
      (askDump p (Hap.start t)).dirty = false ∧ (askDump p (Hap.start t)).flagsDue = true := by
    rw [asked]
    exact ⟨rfl, rfl, rfl, rfl⟩
  obtain ⟨noReset, settled, clean, due⟩ := scratch
  have markers : ∀ q, (askDump p (Hap.start t)).roster.marker q = s.roster.marker q := fun q => by
    rw [askDump_roster, ← roster]
    rfl
  rw [finish_eq noReset]
  have kept := portEnd_clean base (moves_askDump _) settled clean markers
  refine ⟨kept, ?_, kept.port.trans ?_⟩
  · rw [closing_clean settled clean]
    exact behindRecovery_flags due
  · rw [asked]
    exact withD_dl_self p _

theorem takeDelta_syncing {seq : Byte} {body : DeltaBody} (syncing : (h.dl p).syncPhase ≠ .none) :
    takeDelta p seq body h = h := by
  unfold takeDelta
  simp only
  split
  · rfl
  · rfl
  · next idle => exact absurd idle syncing

theorem takeDelta_lately {seq : Byte} {body : DeltaBody} (idle : (h.dl p).syncPhase = .none) (turn : seq ≠ (h.dl p).expected)
    (lately : seq ∈ (h.dl p).recent) :
    takeDelta p seq body h = sendD p (.deltaAck ((h.dl p).recent.getLastD 0)) h := by
  simp only [takeDelta, idle, if_neg turn, List.contains_iff_mem.mpr lately, if_true]

theorem takeDelta_lost {seq : Byte} {body : DeltaBody} (idle : (h.dl p).syncPhase = .none) (turn : seq ≠ (h.dl p).expected)
    (lost : seq ∉ (h.dl p).recent) : takeDelta p seq body h = askDump p h := by
  have notIn : (h.dl p).recent.contains seq = false := by simpa using lost
  simp only [takeDelta, idle, if_neg turn, notIn, Bool.false_eq_true, if_false]

end

/-- Settles O52. -/
theorem deltaOutOfTurn : Obligations.DeltaOutOfTurn := by
  unfold Obligations.DeltaOutOfTurn
  intro p seq body s active fits
  have short : (linkPayload (.delta seq body)).length ≤ 200 := linkPayload_short fits
  have row : exec (.delta (.d p) seq body) s = linkRow (.d p) (.delta seq body) s := sizedLinkRow_eq short
  have recent : ((s.heard (.d p)).dl p).recent = (s.dl p).recent := by rw [heard_dl]
  have expected : ((s.heard (.d p)).dl p).expected = (s.dl p).expected := by rw [heard_dl]
  have phase : ((s.heard (.d p)).dl p).syncPhase = (s.dl p).syncPhase := by rw [heard_dl]
  refine ⟨fun syncing => row.trans (exec_heard_d active (takeDelta_syncing (phase ▸ syncing))),
    fun idle turn lately => row.trans ?_, fun idle turn lost => ?_⟩
  · refine happen_start (f := linkIn (.d p) (.delta seq body)) ((linkIn_active active _).trans
      ((takeDelta_lately (phase.trans idle) (expected ▸ turn) (recent ▸ lately)).trans ?_))
    refine (setD_start p _).trans (congrArg Hap.start ?_)
    show (s.heard (.d p)).withD p (((s.heard (.d p)).dl p).send (.deltaAck (((s.heard (.d p)).dl p).recent.getLastD 0))) = _
    rw [recent, heard_dl]
    exact withD_withD p _ _
  · have asked : linkIn (.d p) (.delta seq body) (Hap.start s) = askDump p (Hap.start (s.heard (.d p))) :=
      (linkIn_active active _).trans (takeDelta_lost (phase.trans idle) (expected ▸ turn) (recent ▸ lost))
    have active' : ((s.heard (.d p)).dl p).state.active = true := by
      rw [heard_dl]
      exact active
    obtain ⟨kept, flags, port⟩ := finish_askDump (.inr rfl) active'
    refine ⟨_, row.trans (congrArg (fun h => Host.Outcome.next (finish h)) asked), port.trans ?_, kept.entries.trans ?_, flags,
      kept.other, kept.frame, kept.ops.trans ?_, kept.budget.trans ?_⟩
    · rw [heard_dl]
      rfl
    · rw [askDump_roster]
      exact congrArg Roster.entries heard_roster
    · rw [askDump_active active']
      exact (setD_ops ..).trans (by cases p <;> rfl)
    · rw [askDump_active active']
      exact (setD_budget ..).trans (by cases p <;> rfl)

end Sys2Proof.Machine
end

section
/-! PROOF. Records entering the queue (R143, R145), and what a D port takes of a child's dump and deltas (O50, O51, O53). -/

namespace Sys2Proof.Machine

/-! ### Records entering the queue -/

section
variable {h : Hap}

/-- An occurrence that the queue takes as a new record. -/
theorem raise_new {pr : Fin 4} {o : Occ} (takes : h.ev.takesNew pr o.kind o.locus) :
    raise o h = noteEntry pr { h with ev := h.ev.push o pr } := by
  obtain ⟨setting, fresh, room⟩ := takes
  simp only [raise, setting, fresh, Bool.false_eq_true, if_false, enter, room, if_true]

/-- A LATCHED occurrence of this part that the queue takes stands last in it. -/
theorem raiseLatched_queue {pr : Fin 4} {k : EvKind} {l : Locus} {d : Word16} (takes : h.ev.takesNew pr k l) :
    (raiseLatched k l d h).ev.queue = h.ev.queue ++ [latchedRecord h.ev pr k l d] := by
  rw [raiseLatched, raise_new (o := latchedOcc k l d) takes]
  rfl

theorem sendDeltas_ev : ∀ (n : Nat) (h : Hap), (sendDeltas n h).ev = h.ev
  | 0, _ => rfl
  | n + 1, h => by
    unfold sendDeltas
    split
    · rfl
    · split
      · exact (sendDeltas_ev n _).trans rfl
      · rfl

theorem openDump_queue (c : DumpCause) (h : Hap) : (openDump c h).ev.queue = h.ev.queue := by
  have flagged : (recomputeFlags h).ev = h.ev := by
    unfold recomputeFlags
    split <;> rfl
  have queue : (openDump c h).ev.queue = (recomputeFlags h).ev.queue := by
    simp only [openDump, sendU, sendUMarked]
    split <;> rfl
  rw [queue, flagged]

theorem handUpward_queue (h : Hap) : (handUpward h).ev.queue = h.ev.queue := by
  unfold handUpward
  simp only
  split
  · split
    · rfl
    · split
      · unfold beginDump
        split
        · exact openDump_queue .queueFull h
        · exact openDump_queue .queueFull h
      · rfl
  · rfl

/-- Behind overflow recovery no record enters the queue and none leaves it. -/
theorem behindRecovery_queue (h : Hap) : (behindRecovery h).ev.queue = h.ev.queue := by
  have flagged : (recomputeFlags h).ev = h.ev := by
    unfold recomputeFlags
    split <;> rfl
  have advanced : ∀ h : Hap, (advanceGeneration h).ev = h.ev := fun h => by
    unfold advanceGeneration
    split <;> rfl
  have attended : ∀ h : Hap, (attend h).ev.queue = h.ev.queue := fun h => by
    unfold attend
    split
    · split <;> rfl
    · rfl
  have drained : ∀ h : Hap, (drainIfDue h).ev.queue = h.ev.queue := fun h => by
    unfold drainIfDue
    split
    · split <;> rfl
    · rfl
  have sent : ∀ h : Hap, (sendDeltasIfDue h).ev = h.ev := fun h => by
    unfold sendDeltasIfDue
    split
    · exact sendDeltas_ev _ h
    · rfl
  rw [behindRecovery, attended, drained, sent, handUpward_queue, advanced, flagged]

end

/-! ### SYNC BEGIN (R131) -/

section
variable {s : State} {p : DPort} {h : Hap}

/-- A D port that awaits the entries of a dump from ordinal 1 on. -/
def DLink.receives (d : DLink) (count : Nat) : DLink :=
  { d with state := .syncing, syncPhase := .receiving, announced := count, nextOrdinal := 1, recent := [],
           syncTimer := some 500 }

/-- A SYNC BEGIN taken, but for its event. -/
def syncBegun (p : DPort) (count : Nat) (h : Hap) : Hap :=
  { (markStale p h).setD p ((h.dl p).receives count) with flagsDue := true }

theorem takeSyncBegin_taken {count : Nat} {cause : DumpCause} (short : count ≤ 96) :
    takeSyncBegin p count cause h =
      if (h.dl p).everUp then
        raiseLatched .branchResync (portLocus p) (detailOf (dumpCauseCode cause)) (syncBegun p count h)
      else syncBegun p count h := if_neg (Nat.not_lt.mpr short)

end

/-- Settles O50. -/
theorem syncBeginMarksEntriesStale : Obligations.SyncBeginMarksEntriesStale := by
  unfold Obligations.SyncBeginMarksEntriesStale
  intro p count cause pr s active
  refine ⟨fun long => exec_heard_d active (if_pos long), fun short => ?_⟩
  have heard : (s.heard (.d p)).dl p = { s.dl p with loss := some 60 } := heard_dl p
  have ev : (s.heard (.d p)).ev = s.ev := by cases p <;> rfl
  have taken := (linkIn_active active (.syncBegin count cause)).trans
    (takeSyncBegin_taken (h := Hap.start (s.heard (.d p))) (p := p) (cause := cause) short)
  generalize hh : linkIn (.d p) (.syncBegin count cause) (Hap.start s) = h at taken
  have moved : Moves (portParts p) (Hap.start (s.heard (.d p))) h :=
    hh ▸ linkIn_active active (.syncBegin count cause) ▸ moves_takeSyncBegin _ _ _
  obtain ⟨unit, entered, drain, same⟩ : ∃ unit entered drain, h =
      { syncBegun p count.toNat (Hap.start (s.heard (.d p))) with ev := unit, entered := entered, drainDue := drain } := by
    rw [taken]
    split
    · exact shape_of_offEv (raiseLatched_offEv ..)
    · exact ⟨_, _, _, rfl⟩
  have step : h.settleDue = false ∧ h.flagsDue = true ∧ h.dirty = false ∧ h.resetDue = none ∧
      h.roster = (syncBegun p count.toNat (Hap.start (s.heard (.d p)))).roster ∧
      h.dl p = ((s.heard (.d p)).dl p).receives count.toNat ∧ h.ops = s.ops ∧ h.rescan = s.rescan := by
    rw [same]
    cases p <;> exact ⟨rfl, rfl, rfl, rfl, rfl, rfl, rfl, rfl⟩
  obtain ⟨settled, due, clean, noReset, roster, port, ops, rescan⟩ := step
  have row : exec (.syncBegin (.d p) count cause) s = .next (closing h).toState := by
    rw [← finish_eq noReset, ← hh]
    rfl
  have kept := portEnd_clean (s := s) (.inr rfl) moved settled clean fun q => by
    rw [roster]
    cases p <;> cases q <;> rfl
  refine ⟨_, row, ?_, kept.port.trans ?_, kept.other, ?_, kept.ops.trans ops, kept.rescan.trans rescan, fun up takes => ?_⟩
  · rw [kept.entries, roster]
    cases p <;> rfl
  · rw [port, heard]
    rfl
  · rw [closing_clean settled clean]
    exact behindRecovery_flags due
  · have up' : ((Hap.start (s.heard (.d p))).dl p).everUp = true := by
      show ((s.heard (.d p)).dl p).everUp = true
      rw [heard]
      exact up
    rw [closing_clean settled clean, behindRecovery_queue, taken, if_pos up']
    have begun : (syncBegun p count.toNat (Hap.start (s.heard (.d p)))).ev = s.ev := by cases p <;> rfl
    rw [raiseLatched_queue (begun.symm ▸ takes), begun]
    exact List.mem_append_right _ (List.mem_singleton_self _)

end Sys2Proof.Machine
end

section
/-! PROOF. What the parent's roster makes of a child's records (R16 to R18, R131, R134; O51). -/

namespace Sys2Proof.Machine

section
variable {h : Hap} {p : DPort} {r : LinkRecord}

/-! ### The entries at the end of a happening -/

theorem clearRefused_entries (p : DPort) (h : Hap) : (clearRefused p h).roster.entries = h.roster.entries := by
  unfold clearRefused
  split
  · have calm := (moves_reckonOverflow { h with roster := h.roster.setMarker p false }).frame .entries rfl
    refine (congrArg Prod.fst calm).trans ?_
    cases p <;> rfl
  · rfl

theorem recoverPort_entries (p : DPort) (h : Hap) : (recoverPort p h).roster.entries = h.roster.entries := by
  unfold recoverPort
  split
  · rw [clearRefused_entries, askDump_roster]
  · rfl

/-- Where the waiting list is not due the entries stand as the command's own step left them. -/
theorem closing_entries (settled : h.settleDue = false) : (closing h).roster.entries = h.roster.entries := by
  have late := (moves_behindRecovery (overflowRecovery (settleIfDue h))).frame .entries rfl
  rw [closing_behind]
  refine (congrArg Prod.fst late).trans ?_
  rw [settleIfDue_still settled, overflowRecovery_eq]
  split
  · rw [recoverPort_entries, recoverPort_entries]
  · rfl

/-- Over a full roster the markers stand too. -/
theorem closing_marker_full (settled : h.settleDue = false) (full : rosterCapacity ≤ h.roster.entries.length) (q : DPort) :
    (closing h).roster.marker q = h.roster.marker q := by
  have late := (moves_behindRecovery h).frame .markers rfl
  simp only [Part.same, Prod.mk.injEq] at late
  rw [closing_behind, settleIfDue_still settled, overflowRecovery_full full]
  cases q
  · exact late.1
  · exact late.2

/-! ### The branches of a remote store (R17) -/

theorem isHolder_iff {st : EntryState} : isHolder st = true ↔ st ≠ .conflict := by cases st <;> simp [isHolder]

theorem claimed_iff {serial : Serial} {es : List Entry} :
    claimed serial es = true ↔ ∃ x ∈ es, x.serial = serial ∧ x.state ≠ .conflict := by
  simp [claimed, isHolder_iff, and_comm]

/-- A record whose fields do not hold is dropped. -/
theorem remoteStore_dropped
    (bad : r.serial = 0 ∨ 8 < r.caps.length ∨ 3 < r.key.path.length + 1 + h.ownTier ∨ 3 < r.draw.toNat) :
    remoteStore p r h = h := by
  have unchecked : checkRecord h.ownTier p r = none := by
    unfold checkRecord
    split
    · rfl
    · next good =>
      simp only [Bool.or_eq_true, decide_eq_true_eq, List.length_cons, not_or] at good
      obtain ⟨⟨serial, caps⟩, path⟩ := good
      have draw : ¬ r.draw.toNat < 4 := by
        rcases bad with b | b | b | b
        · exact absurd b serial
        · exact absurd b caps
        · exact absurd b path
        · omega
      exact dif_neg draw
  rw [remoteStore, unchecked]

theorem checkRecord_good {tier : Nat} (serial : r.serial ≠ 0) (caps : r.caps.length ≤ 8)
    (path : r.key.path.length + 1 + tier ≤ 3) (draw : r.draw.toNat ≤ 3) :
    checkRecord tier p r = some ⟨r.draw.toNat, Nat.lt_succ_of_le draw⟩ := by
  unfold checkRecord
  rw [if_neg]
  · exact dif_pos _
  · simp only [Bool.or_eq_true, decide_eq_true_eq, List.length_cons]
    exact not_or.mpr ⟨not_or.mpr ⟨serial, Nat.not_lt.mpr caps⟩, Nat.not_lt.mpr path⟩

section
variable {draw : Fin 4} (good : checkRecord h.ownTier p r = some draw)
include good

theorem remoteStore_new (new : findEntry (remoteKey p r.key) h.roster.entries = none) :
    remoteStore p r h = remoteAdd p r draw h := by
  simp only [remoteStore, good, new]

theorem remoteStore_known {o : Entry} (found : findEntry (remoteKey p r.key) h.roster.entries = some o)
    (serial : o.serial = r.serial) : remoteStore p r h = remoteRefresh o r draw h := by
  simp only [remoteStore, good, found, serial, if_true]

end

/-- The entry that a new record makes. -/
def addedEntry (p : DPort) (r : LinkRecord) (draw : Fin 4) (es : List Entry) : Entry :=
  { key := remoteKey p r.key, serial := r.serial, classCode := r.classCode, revision := r.revision, draw := draw,
    caps := r.caps, state := derivedState r.state r.serial es, reported := some r.state, grant := r.grant, joinStamp := 0,
    stale := false }

/-- A new record, in a roster with room, is added, and nothing but its condition is moved beside it. -/
theorem remoteAdd_room (draw : Fin 4) (room : h.roster.entries.length < rosterCapacity) :
    ∃ unit entered drain, remoteAdd p r draw h =
      { addEntry (addedEntry p r draw h.roster.entries) h with ev := unit, entered := entered, drainDue := drain } := by
  have notFull : ¬ h.roster.full = true := by simpa [Roster.full] using room
  have added : remoteAdd p r draw h =
      if (addedEntry p r draw h.roster.entries).inConflict then
        beginCond .serialConflict (keyLocus (remoteKey p r.key)) (addEntry (addedEntry p r draw h.roster.entries) h)
      else addEntry (addedEntry p r draw h.roster.entries) h := if_neg notFull
  rw [added]
  split
  · exact shape_of_offEv (beginCond_offEv ..)
  · exact ⟨_, _, _, rfl⟩

/-- A record of a full roster is turned away, and its port marked. -/
theorem remoteAdd_full (draw : Fin 4) (full : rosterCapacity ≤ h.roster.entries.length) :
    remoteAdd p r draw h = setRefused p h := if_pos (decide_eq_true full)

theorem setRefused_roster (p : DPort) (h : Hap) : (setRefused p h).roster.entries = h.roster.entries ∧
    (setRefused p h).settleDue = h.settleDue ∧ (setRefused p h).roster.marker p = true ∧
    ∀ q, q ≠ p → (setRefused p h).roster.marker q = h.roster.marker q := by
  unfold setRefused
  split
  · next set => exact ⟨rfl, rfl, set, fun _ _ => rfl⟩
  · obtain ⟨unit, entered, drain, same⟩ := shape_of_offEv (setCond_offEv { h with
      roster := h.roster.setMarker p true, flagsDue := true } .rosterOverflow rackLocus
      ((h.roster.setMarker p true).marker1 || (h.roster.setMarker p true).marker2))
    have reckoned : reckonOverflow { h with roster := h.roster.setMarker p true } =
      { h with roster := h.roster.setMarker p true, flagsDue := true, ev := unit, entered := entered, drainDue := drain } := same
    rw [reckoned]
    refine ⟨by cases p <;> rfl, rfl, by cases p <;> rfl, fun q ne => ?_⟩
    cases p <;> cases q <;> first | rfl | exact absurd rfl ne

/-- The fields a holder's record gives its entry. -/
def refreshedEntry (o : Entry) (r : LinkRecord) (draw : Fin 4) : Entry :=
  { o with classCode := r.classCode, revision := r.revision, draw := draw, caps := r.caps, state := r.state,
           reported := some r.state, grant := r.grant, stale := false }

/-- A holder's record refreshes its entry in place, and does nothing else. -/
theorem remoteRefresh_holder {o : Entry} (draw : Fin 4) (holds : o.state ≠ .conflict) (wanted : o.reported ≠ some .conflict)
    (wants : r.state ≠ .conflict) :
    remoteRefresh o r draw h = changeEntry o.key (fun _ => refreshedEntry o r draw) h := by
  have refreshed : refreshedState o r.state (h.roster.entries.filter fun x => decide (x.key ≠ o.key)) = r.state := by
    simp [refreshedState, wants, wanted, holds]
  have before : o.inConflict = false := by simp [Entry.inConflict, holds]
  have after : (refreshedEntry o r draw).inConflict = false := by simp [Entry.inConflict, refreshedEntry, wants]
  have after' : Entry.inConflict { o with
      classCode := r.classCode, revision := r.revision, draw := draw, caps := r.caps, state := r.state,
      reported := some r.state, grant := r.grant, stale := false } = false := after
  simp only [remoteRefresh, refreshed, before, after', wants, decide_false, Bool.and_false, Bool.false_eq_true, if_false]
  rfl

/-! ### What a record makes of the roster, at the end of its happening -/

/-- A happening whose roster a remote store left, with its end. -/
theorem storesRecord_closing {s : State} {x : Hap} (roster : x.roster = s.roster) (tier : x.ownTier = s.ownTier)
    (still : x.settleDue = false) (stored : h.roster = (remoteStore p r x).roster)
    (due : h.settleDue = (remoteStore p r x).settleDue) : State.storesRecord p r s (closing h).toState := by
  refine ⟨fun bad => ?dropped, fun serial caps path low => ?_⟩
  case dropped =>
    rw [remoteStore_dropped (tier ▸ bad)] at stored due
    exact (closing_entries (due.trans still)).trans (by rw [stored, roster])
  have good : checkRecord x.ownTier p r = some ⟨r.draw.toNat, Nat.lt_succ_of_le low⟩ :=
    checkRecord_good serial caps (tier ▸ path) low
  rw [← roster]
  refine ⟨fun new full => ?full, fun new room => ?added, fun o found same holds wanted wants => ?refreshed⟩
  case full =>
    obtain ⟨entries, settled, marked, _⟩ := setRefused_roster p x
    rw [remoteStore_new good new, remoteAdd_full _ full] at stored due
    have settled' : h.settleDue = false := due.trans (settled.trans still)
    have entries' : h.roster.entries = x.roster.entries := by rw [stored, entries]
    refine ⟨(closing_entries settled').trans entries', ?_⟩
    rw [closing_marker_full settled' (entries' ▸ full), stored, marked]
  case added =>
    obtain ⟨unit, entered, drain, shape⟩ := remoteAdd_room (p := p) (r := r) ⟨r.draw.toNat, Nat.lt_succ_of_le low⟩ room
    rw [remoteStore_new good new, shape] at stored due
    have entries := (closing_entries (due.trans still)).trans (congrArg Roster.entries stored)
    have counter := (closing_keys h).2.trans (congrArg Roster.joinCounter stored)
    refine ⟨?_, counter, { addedEntry p r ⟨r.draw.toNat, Nat.lt_succ_of_le low⟩ x.roster.entries with
      joinStamp := x.roster.nextStamp }, ?_, rfl, rfl, rfl, rfl, rfl, rfl, rfl, rfl, rfl, ?_⟩
    · rw [Roster.keys, entries]
      exact keys_insertBy _ _
    · rw [entries]
      exact (findEntry_addEntry x (e := addedEntry p r ⟨r.draw.toNat, Nat.lt_succ_of_le low⟩ x.roster.entries) new _).trans
        (if_pos rfl)
    · show derivedState r.state r.serial x.roster.entries = _
      simp only [derivedState, Bool.and_eq_true, isHolder_iff, claimed_iff]
  case refreshed =>
    obtain ⟨_, key⟩ := findEntry_some found
    rw [remoteStore_known good found same, remoteRefresh_holder _ holds wanted wants] at stored due
    have entries := (closing_entries (due.trans still)).trans (congrArg Roster.entries stored)
    have counter := (closing_keys h).2.trans (congrArg Roster.joinCounter stored)
    refine ⟨?_, counter, refreshedEntry o r ⟨r.draw.toNat, Nat.lt_succ_of_le low⟩, ?_, same, rfl, rfl, rfl, rfl, rfl, rfl, rfl,
      rfl, rfl⟩
    · rw [Roster.keys, entries]
      exact keys_updateEntry fun _ _ _ => rfl
    · rw [entries]
      refine (findEntry_updateEntry (k := o.key) (f := fun _ => refreshedEntry o r ⟨r.draw.toNat, Nat.lt_succ_of_le low⟩)
        (fun _ _ _ => rfl) _).trans ?_
      rw [key, if_pos rfl, found]
      rfl

/-! ### The ports and the markers -/

/-- A remote removal leaves the markers, and a store those of the other port. -/
theorem remoteRemove_marker {k : Key} (remote : k.path ≠ []) (cause : Cause) (q : DPort) :
    (remoteRemove k cause h).roster.marker q = h.roster.marker q := by
  have kept := (moves_remoteRemove h remote cause).frame .markers rfl
  simp only [Part.same, Prod.mk.injEq] at kept
  cases q
  · exact kept.1
  · exact kept.2

/-- An addition marks its own port at most, and only over a full roster. -/
theorem remoteAdd_marker (draw : Fin 4) (q : DPort) :
    (remoteAdd p r draw h).roster.marker q = h.roster.marker q ∨
      q = p ∧ rosterCapacity ≤ (remoteAdd p r draw h).roster.entries.length := by
  by_cases room : h.roster.entries.length < rosterCapacity
  · obtain ⟨unit, entered, drain, shape⟩ := remoteAdd_room (p := p) (r := r) draw room
    rw [shape]
    exact .inl (by cases q <;> rfl)
  · obtain ⟨entries, _, _, other⟩ := setRefused_roster p h
    rw [remoteAdd_full draw (Nat.not_lt.mp room)]
    by_cases own : q = p
    · exact .inr ⟨own, entries ▸ Nat.not_lt.mp room⟩
    · exact .inl (other q own)

theorem remoteStore_marker (q : DPort) :
    (remoteStore p r h).roster.marker q = h.roster.marker q ∨
      q = p ∧ rosterCapacity ≤ (remoteStore p r h).roster.entries.length := by
  unfold remoteStore
  split
  · exact .inl rfl
  · next draw _ =>
    split
    · exact remoteAdd_marker draw q
    · next o found =>
      obtain ⟨mem, key⟩ := findEntry_some found
      have remote : o.key.path ≠ [] := key ▸ remoteKey_remote p r.key
      split
      · have kept := (moves_remoteRefresh h r draw mem (by simpa [Entry.isLocal] using remote)).frame .markers rfl
        simp only [Part.same, Prod.mk.injEq] at kept
        cases q
        · exact .inl kept.1
        · exact .inl kept.2
      · have removed : ∀ q, (remoteRemove o.key .reported h).roster.marker q = h.roster.marker q :=
          remoteRemove_marker remote .reported
        exact removed q ▸ remoteAdd_marker draw q

/-- The end of a happening over a full roster leaves the ports alone. -/
theorem closing_port_full (full : rosterCapacity ≤ h.roster.entries.length) (q : DPort) : (closing h).dl q = h.dl q := by
  have length : (settleIfDue h).roster.entries.length = h.roster.entries.length := by
    have keys := congrArg List.length (keys_of_calm (moves_settleIfDue h))
    simpa [Roster.keys] using keys
  rw [closing_behind, overflowRecovery_full (length.symm ▸ full)]
  exact Part.same_trans (x := .port q) ((moves_settleIfDue h).frame _ rfl) ((moves_behindRecovery _).frame _ rfl)

end

/-! ### A child's records (R131, R134) -/

section
variable {h : Hap} {p : DPort}

theorem takeSyncEntry_present {n : Nat} {r : LinkRecord} (receiving : (h.dl p).syncPhase = .receiving)
    (next : n = (h.dl p).nextOrdinal ∧ n ≤ (h.dl p).announced) :
    takeSyncEntry p n (.present r) h =
      remoteStore p r (h.setD p { h.dl p with nextOrdinal := (h.dl p).nextOrdinal + 1 }) := by
  simp only [takeSyncEntry, receiving]
  exact if_pos next

theorem takeSyncEntry_vacant {n : Nat} {k : Key} (receiving : (h.dl p).syncPhase = .receiving)
    (next : n = (h.dl p).nextOrdinal ∧ n ≤ (h.dl p).announced) :
    takeSyncEntry p n (.vacant k) h =
      remoteRemove (remoteKey p k) .reported (h.setD p { h.dl p with nextOrdinal := (h.dl p).nextOrdinal + 1 }) := by
  simp only [takeSyncEntry, receiving]
  exact if_pos next

/-- A D port's record once it has taken the delta it expected. -/
def DLink.tookDelta (d : DLink) (seq : Byte) : DLink :=
  DLink.send { d with recent := lastEight (d.recent ++ [seq]), expected := nextByte d.expected } (.deltaAck seq)

theorem takeDelta_turn {seq : Byte} {body : DeltaBody} (idle : (h.dl p).syncPhase = .none) (turn : seq = (h.dl p).expected) :
    takeDelta p seq body h = (applyDelta p body h).setD p (((applyDelta p body h).dl p).tookDelta seq) := by
  simp only [takeDelta, idle, if_pos turn]
  rfl

/-- The length of a record's link form (R172). -/
theorem linkRecordBytes_length (r : LinkRecord) : (linkRecordBytes r).length = 15 + 2 * r.caps.length := by
  simp [linkRecordBytes, keyBytes, be48, be16]
  omega

end

section
variable {s : State} {p : DPort} {h x : Hap} {r : LinkRecord}

theorem heard_ownTier : (s.heard (.d p)).ownTier = s.ownTier := by cases p <;> rfl

/-- The end of a happening that has marked no port, or its own over a full roster. -/
theorem closing_dl_of (m1 : s.roster.marker1 = false) (m2 : s.roster.marker2 = false)
    (marker : ∀ q, h.roster.marker q = s.roster.marker q ∨ q = p ∧ rosterCapacity ≤ h.roster.entries.length) (q : DPort) :
    (closing h).dl q = h.dl q := by
  have unmarked : s.roster.marker q = false := by cases q <;> assumption
  rcases marker q with same | ⟨-, full⟩
  · exact closing_port (same.trans unmarked)
  · exact closing_port_full full q

/-- The happening of a child's record, with its end. -/
theorem finish_stored (m1 : s.roster.marker1 = false) (m2 : s.roster.marker2 = false)
    (moved : Moves (portParts p) (Hap.start (s.heard (.d p))) h) (roster : x.roster = s.roster) (tier : x.ownTier = s.ownTier)
    (still : x.settleDue = false) (stored : h.roster = (remoteStore p r x).roster)
    (due : h.settleDue = (remoteStore p r x).settleDue) (ops : h.ops = s.ops) (rescan : h.rescan = s.rescan) :
    State.storesRecord p r s (finish h) ∧ State.portFrame p s (finish h) ∧ (finish h).ops = s.ops ∧
      (finish h).rescan = s.rescan ∧ (finish h).dl p = h.dl p := by
  have marker : ∀ q, h.roster.marker q = s.roster.marker q ∨ q = p ∧ rosterCapacity ≤ h.roster.entries.length := fun q => by
    rw [stored, ← roster]
    exact remoteStore_marker q
  rw [finish_eq (moved.frame .resetDue rfl)]
  refine ⟨storesRecord_closing roster tier still stored due, portFrame_of (.inr rfl) moved fun _ _ q ne => ?_,
    (closing_ops h).trans ops, (closing_rescan h).trans rescan, closing_dl_of m1 m2 marker p⟩
  rcases marker q with same | ⟨own, -⟩
  · exact same.trans (by cases q <;> assumption)
  · exact absurd own ne

end

/-- Settles O51. -/
theorem childsRecordsReachTheRoster : Obligations.ChildsRecordsReachTheRoster := by
  unfold Obligations.ChildsRecordsReachTheRoster
  refine ⟨fun p ordinal seq r s c active m1 m2 fits few cases => ?stored, fun p ordinal seq k s c active m1 m2 cases => ?removed⟩
  case stored =>
    have dl : (Hap.start (s.heard (.d p))).dl p = { s.dl p with loss := some 60 } := heard_dl p
    rcases cases with ⟨rfl, receiving, next, within⟩ | ⟨delta, idle, turn⟩
    · have taken := takeSyncEntry_present (h := Hap.start (s.heard (.d p))) (p := p) (r := r) (n := ordinal.toNat)
        (by rw [dl]; exact receiving) (by rw [dl]; exact ⟨next, next ▸ within⟩)
      have moved := moves_takeSyncEntry (p := p) (Hap.start (s.heard (.d p))) ordinal.toNat (.present r)
      have row : exec (.syncEntry (.d p) ordinal (.present r)) s =
          .next (finish (takeSyncEntry p ordinal.toNat (.present r) (Hap.start (s.heard (.d p))))) := by
        refine (sizedLinkRow_eq ?_).trans (linkRow_d active _ rfl)
        simp only [linkPayload, List.length_cons, linkRecordBytes_length]
        omega
      rw [row]
      rw [taken] at moved ⊢
      have store := moves_remoteStore (p := p) ((Hap.start (s.heard (.d p))).setD p
        { (Hap.start (s.heard (.d p))).dl p with nextOrdinal := ((Hap.start (s.heard (.d p))).dl p).nextOrdinal + 1 }) r
      obtain ⟨stored, frame, ops, rescan, port⟩ := finish_stored (s := s) (r := r) m1 m2 moved
        (by cases p <;> rfl) (by cases p <;> rfl) (by cases p <;> rfl) rfl rfl
        ((store.frame .ops rfl).trans (by cases p <;> rfl)) ((store.frame .rescan rfl).trans (by cases p <;> rfl))
      refine ⟨_, rfl, stored, frame, ops, rescan, port.trans ((store.frame (.port p) rfl).trans ?_)⟩
      rw [setD_dl_self, dl, if_neg (by rw [receiving]; nofun)]
    · have row : exec c s = .next (finish (takeDelta p seq (.add r) (Hap.start (s.heard (.d p))))) := by
        rcases delta with rfl | rfl
        all_goals
          refine (sizedLinkRow_eq ?_).trans (linkRow_d active _ rfl)
          simp only [linkPayload, List.length_cons, linkRecordBytes_length]
          omega
      have taken := takeDelta_turn (h := Hap.start (s.heard (.d p))) (p := p) (body := .add r) (seq := seq)
        (by rw [dl]; exact idle) (by rw [dl]; exact turn)
      have moved := moves_takeDelta (p := p) (Hap.start (s.heard (.d p))) seq (.add r)
      rw [row]
      rw [taken] at moved ⊢
      have store := moves_remoteStore (p := p) (Hap.start (s.heard (.d p))) r
      obtain ⟨stored, frame, ops, rescan, port⟩ := finish_stored (s := s) (r := r) m1 m2 moved heard_roster heard_ownTier rfl
        (setD_roster ..) (by cases p <;> rfl) ((setD_ops ..).trans ((store.frame .ops rfl).trans (by cases p <;> rfl)))
        ((setD_rescan ..).trans ((store.frame .rescan rfl).trans (by cases p <;> rfl)))
      have kept : (applyDelta p (.add r) (Hap.start (s.heard (.d p)))).dl p = { s.dl p with loss := some 60 } :=
        (store.frame (.port p) rfl).trans dl
      refine ⟨_, rfl, stored, frame, ops, rescan, port.trans ((setD_dl_self ..).trans ?_)⟩
      rw [kept, if_pos idle, turn]
      rfl
  case removed =>
    have dl : (Hap.start (s.heard (.d p))).dl p = { s.dl p with loss := some 60 } := heard_dl p
    have unmarked : ∀ q, s.roster.marker q = false := fun q => by cases q <;> assumption
    rcases cases with ⟨rfl, receiving, next, within⟩ | ⟨rfl, idle, turn⟩
    · have taken := takeSyncEntry_vacant (h := Hap.start (s.heard (.d p))) (p := p) (k := k) (n := ordinal.toNat)
        (by rw [dl]; exact receiving) (by rw [dl]; exact ⟨next, next ▸ within⟩)
      have moved := moves_takeSyncEntry (p := p) (Hap.start (s.heard (.d p))) ordinal.toNat (.vacant k)
      rw [taken] at moved
      have remove := moves_remoteRemove ((Hap.start (s.heard (.d p))).setD p
        { (Hap.start (s.heard (.d p))).dl p with nextOrdinal := ((Hap.start (s.heard (.d p))).dl p).nextOrdinal + 1 })
        (remoteKey_remote p k) .reported
      refine ⟨_, (sizedLinkRow_eq (by simp [linkPayload, keyBytes])).trans
        (linkRow_d active (.syncEntry ordinal (.vacant k)) taken), ?_, ?_, ?_, ?_⟩ <;> rw [finish_eq (moved.frame .resetDue rfl)]
      · rw [(closing_keys _).1, keys_remoteRemove]
        cases p <;> rfl
      · exact portFrame_of (.inr rfl) moved fun _ _ q _ =>
          (remoteRemove_marker (remoteKey_remote p k) .reported q).trans ((by cases p <;> rfl : _ = s.roster.marker q).trans
            (unmarked q))
      · exact (closing_ops _).trans ((remove.frame .ops rfl).trans (by cases p <;> rfl))
      · exact (closing_rescan _).trans ((remove.frame .rescan rfl).trans (by cases p <;> rfl))
    · have taken := takeDelta_turn (h := Hap.start (s.heard (.d p))) (p := p) (body := .remove k) (seq := seq)
        (by rw [dl]; exact idle) (by rw [dl]; exact turn)
      have moved := moves_takeDelta (p := p) (Hap.start (s.heard (.d p))) seq (.remove k)
      rw [taken] at moved
      have remove := moves_remoteRemove (Hap.start (s.heard (.d p))) (remoteKey_remote p k) .reported
      refine ⟨_, (sizedLinkRow_eq (by simp [linkPayload, keyBytes])).trans
        (linkRow_d active (.delta seq (.remove k)) taken), ?_, ?_, ?_, ?_⟩ <;> rw [finish_eq (moved.frame .resetDue rfl)]
      · rw [(closing_keys _).1, setD_roster, applyDelta, keys_remoteRemove]
        cases p <;> rfl
      · refine portFrame_of (.inr rfl) moved fun _ _ q _ => ?_
        rw [setD_roster, applyDelta, remoteRemove_marker (remoteKey_remote p k)]
        exact (congrArg (Roster.marker · q) heard_roster).trans (unmarked q)
      · exact (closing_ops _).trans ((setD_ops ..).trans ((remove.frame .ops rfl).trans (by cases p <;> rfl)))
      · exact (closing_rescan _).trans ((setD_rescan ..).trans ((remove.frame .rescan rfl).trans (by cases p <;> rfl)))

end Sys2Proof.Machine
end

section
/-! PROOF. The end of a child's sync (R131, R132; O53). -/

namespace Sys2Proof.Machine

section
variable {h : Hap} {p : DPort}

/-! ### The waiting list's settling leaves what is due for the flags -/

theorem grantLoop_flagsDue : ∀ (n : Nat) (h : Hap), (grantLoop n h).flagsDue = h.flagsDue
  | 0, _ => rfl
  | n + 1, h => by
    unfold grantLoop
    split
    · split
      · exact (grantLoop_flagsDue n _).trans rfl
      · rfl
    · rfl

theorem settleIfDue_flagsDue (h : Hap) : (settleIfDue h).flagsDue = h.flagsDue := by
  unfold settleIfDue
  split
  · obtain ⟨unit, entered, drain, same⟩ := shape_of_offEv (setCond_offEv (grantLoop h.budget.waiting.length h) .grantBlocked
      rackLocus (grantLoop h.budget.waiting.length h).blocked)
    simp only [settle, same]
    exact grantLoop_flagsDue _ h
  · rfl

/-- With no port marked, flags that are due are reckoned from their causes by the end of the happening. -/
theorem closing_flags (m1 : h.roster.marker1 = false) (m2 : h.roster.marker2 = false) (due : h.flagsDue = true) :
    (closing h).roster.flags = (closing h).causedFlags := by
  rw [closing_unmarked m1 m2]
  exact behindRecovery_flags ((settleIfDue_flagsDue h).trans due)

/-! ### Removals -/

theorem keys_remoteRemoveAll (cause : Cause) : ∀ (ks : List Key) (h : Hap),
    (remoteRemoveAll ks cause h).roster.keys = h.roster.keys.filter fun x => decide (x ∉ ks)
  | [], h => by simp [remoteRemoveAll]
  | k :: t, h => by
    refine (keys_remoteRemoveAll cause t (remoteRemove k cause h)).trans ?_
    rw [keys_remoteRemove, List.filter_filter]
    refine List.filter_congr fun x _ => ?_
    simp only [List.mem_cons, not_or, ne_eq, Bool.decide_and]
    exact Bool.and_comm _ _

/-- Where the keys are distinct, the keys of the entries that meet a test are those that fall to it. -/
theorem keys_filter_out {es : List Entry} (nodup : (es.map Entry.key).Nodup) (q : Entry → Bool) :
    ((es.map Entry.key).filter fun k => decide (k ∉ (es.filter q).map Entry.key)) =
      (es.filter fun e => !q e).map Entry.key := by
  rw [List.filter_map]
  refine congrArg (List.map Entry.key) (List.filter_congr fun e mem => ?_)
  have iff : e.key ∈ (es.filter q).map Entry.key ↔ q e = true := by
    constructor
    · intro m
      obtain ⟨x, mx, same⟩ := List.mem_map.mp m
      obtain ⟨mx, test⟩ := List.mem_filter.mp mx
      exact List.inj_on_of_nodup_map nodup mx mem same ▸ test
    · exact fun test => List.mem_map_of_mem (List.mem_filter.mpr ⟨mem, test⟩)
  simp only [Function.comp_apply, iff, Bool.not_eq_true, Bool.decide_eq_false]

/-! ### Leaving a RESCAN (R138) -/

/-- An operation's end moves the event unit and frees its entry. -/
theorem opDone_shape (slot : Option SlotId) (op : Byte) (d : Word16) (h : Hap) :
    ∃ unit entered drain, opDone slot op d h =
      { h with ev := unit, entered := entered, drainDue := drain, ops := h.ops.release op } := by
  obtain ⟨unit, entered, drain, same⟩ := shape_of_offEv (raiseLatched_offEv h .opDone (opLocus slot op) d)
  refine ⟨unit, entered, drain, ?_⟩
  rw [opDone, same]
  rfl

/-- A port that leaves the rescan is not waited for any more; beside the rescan the event unit and the operation table
alone move. -/
theorem rescanLeave_shape (p : DPort) (synced : Bool) (h : Hap) :
    ∃ unit entered drain ops rescan, rescanLeave p synced h =
      { h with ev := unit, entered := entered, drainDue := drain, ops := ops, rescan := rescan } ∧
      ∀ r, rescan = some r → p ∉ r.ports := by
  cases running : h.rescan with
  | none =>
    have same : rescanLeave p synced h = h := by simp only [rescanLeave, running]
    exact ⟨_, _, _, _, h.rescan, same, fun _ some => nomatch running.symm.trans some⟩
  | some r =>
    by_cases waits : p ∈ r.ports
    · have waits' : r.ports.contains p = true := List.contains_iff_mem.mpr waits
      by_cases last : (r.ports.filter fun q => decide (q ≠ p)).isEmpty = true
      · obtain ⟨unit, entered, drain, same⟩ := opDone_shape none r.op
          (word16Of (if synced then r.synced + 1 else r.synced)) { h with rescan := none }
        refine ⟨unit, entered, drain, h.ops.release r.op, none, ?_, nofun⟩
        simp only [rescanLeave, running, waits', last, if_true]
        exact same
      · refine ⟨h.ev, h.entered, h.drainDue, h.ops, some { r with
          ports := r.ports.filter fun q => decide (q ≠ p), synced := if synced then r.synced + 1 else r.synced }, ?_, ?_⟩
        · simp only [rescanLeave, running, waits', last, if_true]
          rfl
        · rintro _ ⟨⟩
          simp
    · have out : r.ports.contains p = false := by simpa using waits
      have same : rescanLeave p synced h = h := by simp only [rescanLeave, running, out, Bool.false_eq_true, if_false]
      exact ⟨_, _, _, _, h.rescan, same, fun _ some => Option.some.inj (running.symm.trans some) ▸ waits⟩

/-! ### SYNC END (R131, R132) -/

/-- The keys of a port's entries that are still marked stale. -/
def staleKeys (p : DPort) (es : List Entry) : List Key := (es.filter fun e => e.via p && e.stale).map Entry.key

/-- A D port's record once its sync has completed with the flags its child reports. -/
def DLink.synced (d : DLink) (f : Flags) : DLink :=
  { DLink.send { d with child := d.child.map fun c => { c with reported := some f } } .syncAck with
    state := .up, syncPhase := .none, syncTimer := none, expected := 1, everUp := true }

/-- A sync completes (R132): the stale entries are gone and the port is UP; beside these the event unit, the operation table
and the rescan alone move. -/
theorem completeSync_shape (p : DPort) (f : Flags) (h : Hap) :
    ∃ unit entered drain ops rescan, completeSync p f h =
      { (remoteRemoveAll (staleKeys p h.roster.entries) .linkLost h).setD p
          (((remoteRemoveAll (staleKeys p h.roster.entries) .linkLost h).dl p).synced f) with
        flagsDue := true, ev := unit, entered := entered, drainDue := drain, ops := ops, rescan := rescan } ∧
      ∀ r, rescan = some r → p ∉ r.ports := by
  generalize removed : remoteRemoveAll (staleKeys p h.roster.entries) .linkLost h = g
  have up : ∃ unit entered drain, completeSync p f h = rescanLeave p true
      { g.setD p ((g.dl p).synced f) with flagsDue := true, ev := unit, entered := entered, drainDue := drain } := by
    have port : (storeReported p f g).dl p =
        { g.dl p with child := (g.dl p).child.map fun c => { c with reported := some f } } := by cases p <;> rfl
    have stored : ({ (storeReported p f g).setD p ((g.dl p).synced f) with flagsDue := true } : Hap) =
        { g.setD p ((g.dl p).synced f) with flagsDue := true } := by cases p <;> rfl
    unfold completeSync
    simp only
    rw [show remoteRemoveAll ((h.roster.entries.filter fun e => e.via p && e.stale).map Entry.key) .linkLost h = g from removed,
      port]
    rw [← DLink.synced, stored]
    split
    · obtain ⟨unit, entered, drain, same⟩ := shape_of_offEv (raiseLatched_offEv
        { g.setD p ((g.dl p).synced f) with flagsDue := true } .branchJoined (portLocus p) _)
      exact ⟨unit, entered, drain, congrArg (rescanLeave p true) same⟩
    · exact ⟨_, _, _, rfl⟩
  obtain ⟨unit, entered, drain, same⟩ := up
  obtain ⟨unit', entered', drain', ops, rescan, left, out⟩ := rescanLeave_shape p true
    { g.setD p ((g.dl p).synced f) with flagsDue := true, ev := unit, entered := entered, drainDue := drain }
  exact ⟨unit', entered', drain', ops, rescan, same.trans left, out⟩

theorem takeSyncEnd_matches {n : Nat} {f : Flags} (receiving : (h.dl p).syncPhase = .receiving)
    (same : n = (h.dl p).announced ∧ (h.dl p).nextOrdinal = n + 1) : takeSyncEnd p n f h = completeSync p f h := by
  simp only [takeSyncEnd, receiving]
  exact if_pos same

theorem takeSyncEnd_differs {n : Nat} {f : Flags} (receiving : (h.dl p).syncPhase = .receiving)
    (differ : n ≠ (h.dl p).announced ∨ (h.dl p).nextOrdinal ≠ n + 1) : takeSyncEnd p n f h = askDump p h := by
  simp only [takeSyncEnd, receiving]
  exact if_neg fun both => differ.elim (absurd both.1) (absurd both.2)

theorem syncTimerExpired_runs (syncing : (h.dl p).syncPhase ≠ .none) (runs : (h.dl p).syncTimer ≠ none) :
    syncTimerExpired p h = askDump p h := by
  obtain ⟨n, timer⟩ := Option.ne_none_iff_exists'.mp runs
  unfold syncTimerExpired
  split
  · rfl
  · rfl
  · next a b => 
    cases phase : (h.dl p).syncPhase with
    | none => exact absurd phase syncing
    | awaiting => exact (a _ phase timer).elim
    | receiving => exact (b _ phase timer).elim

end

/-- Settles O53. -/
theorem syncEndCompletesTheSync : Obligations.SyncEndCompletesTheSync := by
  unfold Obligations.SyncEndCompletesTheSync
  intro p count f s c active m1 m2 nodup
  have dl : (Hap.start (s.heard (.d p))).dl p = { s.dl p with loss := some 60 } := heard_dl p
  refine ⟨fun isEnd receiving announced next => ?_, fun cases => ?_⟩
  · have taken := takeSyncEnd_matches (h := Hap.start (s.heard (.d p))) (p := p) (n := count.toNat) (f := f)
      (by rw [dl]; exact receiving) (by rw [dl]; exact ⟨announced, next⟩)
    have moved := moves_takeSyncEnd (p := p) (Hap.start (s.heard (.d p))) count.toNat f
    obtain ⟨unit, entered, drain, ops, rescan, shape, out⟩ := completeSync_shape p f (Hap.start (s.heard (.d p)))
    have via : ∀ k ∈ staleKeys p s.roster.entries, k.path ≠ [] := fun k mem => by
      obtain ⟨e, kept, rfl⟩ := List.mem_map.mp mem
      obtain ⟨_, test⟩ := List.mem_filter.mp kept
      exact via_remote (Bool.and_eq_true_iff.mp test).1
    have removed := moves_remoteRemoveAll (Hap.start (s.heard (.d p))) via .linkLost
    have keys := keys_remoteRemoveAll .linkLost (staleKeys p s.roster.entries) (Hap.start (s.heard (.d p)))
    generalize hg : remoteRemoveAll (staleKeys p s.roster.entries) .linkLost (Hap.start (s.heard (.d p))) = g at removed keys
    have shape' : takeSyncEnd p count.toNat f (Hap.start (s.heard (.d p))) =
        { g.setD p ((g.dl p).synced f) with
          flagsDue := true, ev := unit, entered := entered, drainDue := drain, ops := ops, rescan := rescan } := by
      rw [taken, shape, ← hg]
      cases p <;> rfl
    generalize hh : takeSyncEnd p count.toNat f (Hap.start (s.heard (.d p))) = h at moved shape'
    have port : h.dl p = DLink.synced { s.dl p with loss := some 60 } f := by
      rw [← dl, ← show g.dl p = _ from removed.frame (.port p) rfl, shape']
      cases p <;> rfl
    have marker : ∀ q, h.roster.marker q = false := fun q => by
      have kept := removed.frame .markers rfl
      simp only [Part.same, Prod.mk.injEq] at kept
      rw [shape']
      cases p <;> cases q <;> first | exact kept.1.trans m1 | exact kept.2.trans m2
    have last : (closing h).dl p = DLink.synced { s.dl p with loss := some 60 } f := (closing_port (marker p)).trans port
    have row : exec c s = .next (closing h).toState := by
      rw [isEnd, ← finish_eq (moved.frame .resetDue rfl)]
      exact linkRow_d active (.syncEnd count f) hh
    refine ⟨_, row, ?_⟩
    rw [show (closing h).toState.dl p = _ from last]
    refine ⟨rfl, rfl, rfl, rfl, rfl, rfl, rfl, rfl, ?_, ?_, ?_, portFrame_of (.inr rfl) moved fun _ _ q _ => marker q⟩
    · rw [(closing_keys h).1]
      have own : h.roster.keys = g.roster.keys := by
        rw [shape']
        cases p <;> rfl
      have start : (Hap.start (s.heard (.d p))).roster.keys = s.roster.keys := congrArg Roster.keys heard_roster
      rw [own, keys, start]
      exact keys_filter_out nodup _
    · refine closing_flags (marker .d1) (marker .d2) ?_
      rw [shape']
    · rw [closing_rescan h, shape']
      exact out
  · rcases cases with ⟨rfl, receiving, differ⟩ | ⟨rfl, syncing, runs⟩
    · have active' : ((s.heard (.d p)).dl p).state.active = true := by
        rw [heard_dl]
        exact active
      obtain ⟨kept, flags, port⟩ := finish_askDump (s := s) (.inr rfl) active'
      have taken := takeSyncEnd_differs (h := Hap.start (s.heard (.d p))) (p := p) (n := count.toNat) (f := f)
        (by rw [dl]; exact receiving) (by rw [dl]; exact differ)
      refine ⟨_, linkRow_d active (.syncEnd count f) taken, port.trans ?_, kept.entries.trans ?_, flags, kept.frame,
        kept.rescan.trans ?_, kept.ops.trans ?_⟩
      · rw [heard_dl, if_neg nofun]
        rfl
      · rw [askDump_roster]
        exact congrArg Roster.entries heard_roster
      · rw [askDump_active active']
        exact (setD_rescan ..).trans (by cases p <;> rfl)
      · rw [askDump_active active']
        exact (setD_ops ..).trans (by cases p <;> rfl)
    · obtain ⟨kept, flags, port⟩ := finish_askDump (p := p) (.inl rfl) active
      have taken := syncTimerExpired_runs (h := Hap.start s) (p := p) syncing runs
      refine ⟨_, congrArg (fun h => Host.Outcome.next (finish h)) taken, port.trans ?_, kept.entries.trans ?_, flags, kept.frame,
        kept.rescan.trans ?_, kept.ops.trans ?_⟩
      · rw [if_pos rfl]
        rfl
      · rw [askDump_roster]
        rfl
      · rw [askDump_active (h := Hap.start s) active]
        exact setD_rescan ..
      · rw [askDump_active (h := Hap.start s) active]
        exact setD_ops ..

end Sys2Proof.Machine
end

section
/-! PROOF. Happenings that raise an event and move little else (R143 to R150; O4, O12, O14, O33, O34). -/

namespace Sys2Proof.Machine

section
variable {s : State}

/-! ### The end of a happening that has raised events -/

theorem hand_rx (l : HostLink) (x : SendItem) : (l.hand x).rx = l.rx := by
  unfold HostLink.hand
  split
  · rfl
  · split <;> rfl

theorem hand_buffer (l : HostLink) (x : SendItem) : (l.hand x).buffer = l.buffer := by
  unfold HostLink.hand
  split
  · rfl
  · split <;> rfl

/-- A happening in which the event queue, its counter and the lost count alone have moved. -/
def Hap.raised (s : State) (q : List EvRecord) (c : Word16) (l : Nat) (e : List (Fin 4)) (d : Bool) : Hap :=
  { Hap.start s with ev := { s.ev with queue := q, counter := c, lost := l }, entered := e, drainDue := d }

/-- An occurrence that the queue takes, at the beginning of a happening. -/
theorem raise_start {pr : Fin 4} {o : Occ} (takes : s.ev.takesNew pr o.kind o.locus) :
    raise o (Hap.start s) =
      Hap.raised s (s.ev.push o pr).queue (s.ev.push o pr).counter s.ev.lost [pr] true := raise_new (h := Hap.start s) takes

section
variable {q : List EvRecord} {c : Word16} {l : Nat} {e : List (Fin 4)} {d : Bool}

theorem closing_raised : closing (Hap.raised s q c l e d) = attend (drainIfDue (Hap.raised s q c l e d)) := by
  rw [closing_clean rfl rfl, behindRecovery, recomputeFlags_still rfl, advanceGeneration_still rfl, handUpward_still rfl,
    sendDeltasIfDue_still rfl]

/-- ATTENTION moves the announced priority and the host transmitter alone. -/
theorem attend_shape (h : Hap) : ∃ a, attend h = { h with ev := { h.ev with announced := a } } ∨
    ∃ x, attend h = { h with ev := { h.ev with announced := a }, host := h.host.hand x } := by
  unfold attend
  split
  · split
    · exact ⟨_, .inr ⟨_, rfl⟩⟩
    · exact ⟨h.ev.announced, .inl rfl⟩
  · exact ⟨h.ev.announced, .inl rfl⟩

/-- Behind raised events the end of a happening moves what events move, and keeps the queue. -/
theorem finish_raised : (finish (Hap.raised s q c l e d)).ev.queue = q ∧
    State.sameButEvents (finish (Hap.raised s q c l e d)) s := by
  rw [finish_eq rfl, closing_raised]
  have drained : ∃ x r l' tx k, drainIfDue (Hap.raised s q c l e d) =
      { Hap.raised s q c l e d with
        ev := { s.ev with queue := q, counter := c, lost := l', inFlight := x, retransmit := r },
        u := { s.u with tx := tx, keepalive := k } } := by
    unfold drainIfDue
    split
    · split
      · exact ⟨_, _, _, _, _, rfl⟩
      · exact ⟨_, _, _, _, _, rfl⟩
    · exact ⟨_, _, _, _, _, rfl⟩
  obtain ⟨x, r, l', tx, k, same⟩ := drained
  rw [same]
  obtain ⟨a, attended | ⟨y, attended⟩⟩ := attend_shape { Hap.raised s q c l e d with
    ev := { s.ev with queue := q, counter := c, lost := l', inFlight := x, retransmit := r },
    u := { s.u with tx := tx, keepalive := k } }
  · rw [attended]
    exact ⟨rfl, rfl⟩
  · rw [attended]
    refine ⟨rfl, ?_⟩
    unfold State.sameButEvents
    simp only [hand_rx, hand_buffer, hand_memory]
    rfl

end

/-! ### Presence arriving (R27, R28, R33) -/

section
variable {h : Hap} {i : SlotId}

/-- A slot in IDLE whose line is present goes by its gate (R32, R33, R37). -/
theorem evaluate_idle_present (present : (h.filter i).state = .present) (policy : (h.slot i).policy ≠ .manual)
    (idle : (h.slot i).state = .idle) :
    evaluate i h = if h.gateOpen i then enterDelaying i h else enterHeld i h := by
  have notIdle : h.idleCond i = false := by
    unfold State.idleCond
    split
    · simp [present]
    · simp [present]
    · simp [present]
    · next manual => exact absurd manual policy
  simp only [evaluate, notIdle, Bool.false_eq_true, if_false, openingRule, closingRule, idle, policy]

theorem gateOpen_present {s : State} (present : (s.filter i).state = .present) (policy : (s.slot i).policy ≠ .manual) :
    s.gateOpen i = true ↔ (s.slot i).policy = .auto ∨
      1 ≤ s.desc.pages ∧ ((s.slot i).policy = .descriptor ∨ (s.slot i).permit = true) := by
  cases named : (s.slot i).policy <;> simp [State.gateOpen, named, present]
  exact absurd named policy

end

theorem setSlot_self (h : Hap) (i : SlotId) : h.setSlot i (h.slot i) = h := by simp [Hap.setSlot, State.slot]

/-- Settles O4. -/
theorem presenceArrivingMovesTheSlot : Obligations.PresenceArrivingMovesTheSlot := by
  unfold Obligations.PresenceArrivingMovesTheSlot
  intro i n pr s settling timer takes cases
  generalize there : s.withFilter i { s.filter i with state := .present, timer := none } = a
  have filter : (a.filter i).state = .present := by
    subst there
    simp [State.filter, State.withFilter]
  have slot : a.slot i = s.slot i := there ▸ rfl
  have desc : a.desc = s.desc := there ▸ rfl
  have ev : a.ev = s.ev := there ▸ rfl
  have raised := raise_start (s := a) (o := latchedOcc .slotOccupied (slotLocus i) 0) (pr := pr) (ev.symm ▸ takes)
  generalize noted : Hap.raised a (a.ev.push (latchedOcc .slotOccupied (slotLocus i) 0) pr).queue
    (a.ev.push (latchedOcc .slotOccupied (slotLocus i) 0) pr).counter a.ev.lost [pr] true = h at raised
  have taken : lineSettled (.slot i) (Hap.start s) = if (h.slot i).policy = .manual then h else evaluate i h := by
    have expired : (s.filter i).expired = { s.filter i with state := .present, timer := none } := by
      simp only [Filter.expired, settling, timer]
    have arrives : arrived (s.filter i) (s.filter i).expired = true := by
      rw [expired]
      simp [arrived, Filter.carrier, settling]
    have stored : (Hap.start s).setFilter i (s.filter i).expired = Hap.start a := by rw [expired, ← there]; rfl
    show slotFilterChange i (s.filter i).expired (Hap.start s) = _
    unfold slotFilterChange
    simp only
    rw [show (Hap.start s).filter i = s.filter i from rfl, arrives, if_pos rfl, stored, raiseLatched, raised]
  have ends : ∀ x, lineSettled (.slot i) (Hap.start s) = h.setSlot i x → ∃ t, exec (.settleTimerExpiry (.slot i)) s = .next t ∧
      t.ev.queue = s.ev.queue ++ [latchedRecord s.ev pr .slotOccupied (slotLocus i) 0] ∧
      State.sameButEvents t (a.withSlot i x) := fun x stored => by
    have same : h.setSlot i x = Hap.raised (a.withSlot i x) (a.ev.push (latchedOcc .slotOccupied (slotLocus i) 0) pr).queue
      (a.ev.push (latchedOcc .slotOccupied (slotLocus i) 0) pr).counter a.ev.lost [pr] true := noted ▸ rfl
    refine ⟨_, congrArg (fun h => Host.Outcome.next (finish h)) (stored.trans same), finish_raised.1.trans ?_, finish_raised.2⟩
    rw [ev]
    rfl
  refine ends _ (taken.trans ?_)
  have here : h.slot i = s.slot i := noted ▸ slot
  have pages : h.desc = s.desc := noted ▸ desc
  have present : (h.filter i).state = .present := noted ▸ filter
  by_cases manual : (s.slot i).policy = .manual
  · rw [here, if_pos manual, if_pos manual, ← here]
    exact (setSlot_self h i).symm
  · have idle : (h.slot i).state = .idle := here ▸ cases.resolve_left manual
    have policy : (h.slot i).policy ≠ .manual := here ▸ manual
    have gate := gateOpen_present present policy
    rw [if_neg policy, if_neg manual, evaluate_idle_present present policy idle]
    rw [here, pages] at gate
    simp only [gate]
    split
    · unfold enterDelaying enterEnabled
      simp only [here]
      split
      · rfl
      · rfl
    · unfold enterHeld
      rw [here]

end

/-! ### Repeats and overruns (R160, R164) -/

/-- Settles O14. -/
theorem repeatsAndOverrunsAreOnlyAnswered : Obligations.RepeatsAndOverrunsAreOnlyAnswered := by
  unfold Obligations.RepeatsAndOverrunsAreOnlyAnswered
  refine ⟨fun c f r op m s frame short tag takes memory sameTag sameKind sameCrc => ?repeats,
    fun c f pr s frame short full => ?overruns⟩
  case repeats =>
    have describes : m.describes f = true := by simp [RepeatRec.describes, sameTag, sameKind, sameCrc, frameCrc, coveredBytes]
    have memory' : (Hap.start s).host.memory = some m := memory
    have handled : handleFrame f (Hap.start s) =
        match m.reply with
        | .frame r => handReply r none (Hap.start s)
        | .pending _ => Hap.start s := by
      simp only [handleFrame, tag, if_false, memory', describes, if_true] <;> rfl
    rw [exec_takes frame short takes]
    refine ⟨fun reply => happen_start (f := handleFrame f) ?_, fun reply => happen_start (f := handleFrame f) ?_⟩
    · rw [handled, reply]
      rfl
    · rw [handled, reply]
  case overruns =>
    have overrun' : hostFrameIn f (Hap.start s) = overrun f (Hap.start s) :=
      if_neg (show ¬ s.host.buffer.length < 4 from by omega)
    rw [exec_eq_hostRow frame short]
    refine ⟨fun few => happen_start (f := hostFrameIn f) (overrun'.trans (if_pos few)), fun many takes => ?_⟩
    have raised := raise_start (o := latchedOcc .hostFrameError rackLocus (of16 2 f.tag)) takes
    refine ⟨_, congrArg (fun h => Host.Outcome.next (finish h)) (overrun'.trans ((if_neg (Nat.not_lt.mpr many)).trans raised)),
      finish_raised.1, finish_raised.2⟩

/-! ### The stall timer (R62) -/

section
variable {s : State} {i : SlotId} {b : Burst}

theorem stallExpired_burst {h : Hap} {n : Nat} (burst : (h.target i).phase = .burst b) (stall : (h.target i).stall = some n) :
    stallExpired i h = raiseLatched .burstStall (slotLocus i) (word16Of b.remaining) (endBurst i h) := by
  simp only [stallExpired, burst, stall]

/-- A bank that no other target pins has no pin left once this target's burst has ended. -/
theorem pinCount_released {t : Target} {bank : Bank} (unpinned : t.pin = none) (others : ∀ j, j ≠ i → (s.target j).pin ≠ some bank) :
    (s.withTarget i t).pinCount bank = 0 := by
  unfold State.pinCount
  refine List.countP_eq_zero.mpr fun x mem => ?_
  obtain ⟨j, small, rfl⟩ := List.mem_iff_getElem.mp mem
  have small' : j < 10 := by simpa using small
  rw [Vector.getElem_toList]
  by_cases own : i = ⟨j, small'⟩
  · have here : (s.withTarget i t).targets[j] = t := by
      subst own
      exact withTarget_target_self t
    simp [here, unpinned]
  · have there : (s.withTarget i t).targets[j] = s.target ⟨j, small'⟩ := by
      have apart : i.val ≠ j := fun same => own (Fin.ext same)
      simp [State.withTarget, State.target, apart]
    simpa [there] using others ⟨j, small'⟩ (Ne.symm own)

end

/-- Settles O33. -/
theorem stallCutsTheBurstOff : Obligations.StallCutsTheBurstOff := by
  unfold Obligations.StallCutsTheBurstOff
  intro i b n pr s burst stall takes
  refine ⟨fun idle => ?_, fun c commit draining target others pages => ?_⟩
  · have ended : endBurst i (Hap.start s) = Hap.start (s.withTarget i { s.target i with phase := .ready, stall := none }) :=
      (endBurst_idle (.inr idle)).trans (by rw [unburst_burst burst])
    have raised := raise_start (s := s.withTarget i { s.target i with phase := .ready, stall := none })
      (o := latchedOcc .burstStall (slotLocus i) (word16Of b.remaining)) takes
    have taken : stallExpired i (Hap.start s) = _ := (stallExpired_burst (h := Hap.start s) burst stall).trans
      ((congrArg (raiseLatched .burstStall (slotLocus i) (word16Of b.remaining)) ended).trans raised)
    exact ⟨_, congrArg (fun h => Host.Outcome.next (finish h)) taken, finish_raised.1, finish_raised.2⟩
  · generalize ready : s.withTarget i { s.target i with phase := .ready, stall := none } = a
    have desc : a.desc = s.desc := ready ▸ rfl
    have commit' : a.desc.commit = some c := desc ▸ commit
    have free : a.pinCount c.target = 0 := by
      rw [target, ← ready]
      exact pinCount_released rfl others
    have ended : endBurst i (Hap.start s) = enterCopying (Hap.start a) := by
      have phase : ((Hap.start s).target i).phase = .burst b := burst
      have here : (Hap.start a).desc.commit = some c := commit'
      have stored : (Hap.start s).setTarget i { (Hap.start s).target i with phase := .ready, stall := none } = Hap.start a :=
        ready ▸ rfl
      have unpinned : (Hap.start a).pinCount c.target = 0 := free
      simp only [endBurst, phase, stored, drainingCheck, here, draining, unpinned, if_true]
    have copies : enterCopying (Hap.start a) = Hap.start { a with desc := { a.desc with commit := some { c with
        phase := .copying, newGen := nextGeneration a.desc.generation,
        timer := some (copyTime (headerPages a.desc.staging)) } } } :=
      enterCopying_eq (h := Hap.start a) commit' (desc.symm ▸ pages)
    generalize copying : ({ a with desc := { a.desc with commit := some { c with
      phase := .copying, newGen := nextGeneration a.desc.generation,
      timer := some (copyTime (headerPages a.desc.staging)) } } } : State) = t at copies
    have ev : t.ev = s.ev := copying ▸ ready ▸ rfl
    have raised := raise_start (s := t) (o := latchedOcc .burstStall (slotLocus i) (word16Of b.remaining)) (ev.symm ▸ takes)
    have taken := (stallExpired_burst (h := Hap.start s) burst stall).trans
      ((congrArg (raiseLatched .burstStall (slotLocus i) (word16Of b.remaining)) (ended.trans copies)).trans raised)
    obtain ⟨-, same⟩ := finish_raised (s := t)
      (q := (t.ev.push (latchedOcc .burstStall (slotLocus i) (word16Of b.remaining)) pr).queue)
      (c := (t.ev.push (latchedOcc .burstStall (slotLocus i) (word16Of b.remaining)) pr).counter) (l := t.ev.lost) (e := [pr])
      (d := true)
    refine ⟨_, { c with
        phase := .copying, newGen := nextGeneration a.desc.generation,
        timer := some (copyTime (headerPages a.desc.staging)) }, congrArg (fun h => Host.Outcome.next (finish h)) taken, ?_,
      (congrArg State.slots same).trans ?_, (congrArg State.desc same).trans ?_, rfl, rfl, rfl,
      congrArg (fun d => nextGeneration (Desc.generation d)) desc, ?_⟩
    · refine (congrArg (fun x : State => (x.target i).phase) same).trans ?_
      rw [← copying, ← ready]
      exact congrArg Target.phase (withTarget_target_self _)
    · rw [← copying, ← ready]
      rfl
    · rw [← copying, desc]
    · rw [desc]
      rfl

end Sys2Proof.Machine
end

section
/-! PROOF. Writes answered with a refusal (O34), and what a completed host frame meets (O12). -/

namespace Sys2Proof.Machine

section
variable {s : State} {i : SlotId}

theorem setTarget_setTarget (h : Hap) (x y : Target) : (h.setTarget i x).setTarget i y = h.setTarget i y := by
  simp [Hap.setTarget]

/-! ### Refused writes (R55, R63, R66, R68) -/

theorem slotWrite_bad {h : Hap} {cmd : Byte} {args : List Byte} (unpinned : (h.target i).pin = none)
    (bad : (cmd = 0 ∨ 4 < cmd.toNat) ∨ (cmd = 1 ∧ args ≠ []) ∨ (cmd = 2 ∧ args.length ≠ 3) ∨ (cmd = 4 ∧ args ≠ [])) :
    slotWrite i (cmd :: args) h = holdResponse i [slotResultCode .badCommand] h := by
  have named : ∀ n : Byte, cmd = n → cmd.toNat = n.toNat := fun n e => e ▸ rfl
  have bad' : (cmd.toNat = 0 ∨ 4 < cmd.toNat) ∨ (cmd.toNat = 1 ∧ args ≠ []) ∨ (cmd.toNat = 2 ∧ args.length ≠ 3) ∨
      (cmd.toNat = 4 ∧ args ≠ []) :=
    bad.imp (Or.imp_left (named 0)) (Or.imp (And.imp_left (named 1)) (Or.imp (And.imp_left (named 2)) (And.imp_left (named 4))))
  unfold slotWrite
  dsimp only
  rw [endBurst_of_pin_none unpinned]
  match cmd.toNat, args, bad' with
  | 1, [], bad' | 2, [_, _, _], bad' | 3, _, bad' | 4, [], bad' => exact absurd bad' (by simp)
  | 0, _, _ | 1, _ :: _, _ | 2, [], _ | 2, [_], _ | 2, [_, _], _ | 2, _ :: _ :: _ :: _ :: _, _ | 4, _ :: _, _ | _ + 5, _, _ =>
    rfl

theorem releaseCmd_refused {h : Hap} (state : (h.slot i).state ≠ .leaving) :
    releaseCmd i h = holdResponse i [slotResultCode .notEjecting] h := by
  unfold releaseCmd
  split
  · next leaving => exact absurd leaving state
  all_goals rfl

/-- A CHECK-IN that is refused for the slot's state, or for want of room in the roster, is answered where it stands. -/
theorem checkInCmd_refused {h : Hap} {record : List Byte} {r : SlotResult}
    (refused : r = .ejecting ∧ (h.slot i).state = .leaving ∨ r = .notEnabled ∧ h.enLine i = false ∨
      r = .full ∧ (h.slot i).state = .enabled ∧ (checkInRecOf record).isSome = true ∧ h.localEntry i = none ∧
        96 ≤ h.roster.entries.length) :
    checkInCmd i record h = checkInResult i r h.desc.generation h := by
  rcases refused with ⟨rfl, leaving⟩ | ⟨rfl, low⟩ | ⟨rfl, enabled, formed, absent, full⟩
  · simp only [checkInCmd, leaving]
  · unfold State.enLine at low
    unfold checkInCmd
    cases state : (h.slot i).state <;> rw [state] at low <;> first | rfl | cases low
  · obtain ⟨record, formed⟩ := Option.isSome_iff_exists.mp formed
    have turned : admission i record h = (h, .full) := by
      simp only [admission, absent, admitAddition, Roster.full, rosterCapacity, full, decide_true, if_true]
    simp only [checkInCmd, enabled, formed, checkInAdmit, turned]

/-- The answer to a refused CHECK-IN. -/
theorem checkInResult_refused {r : SlotResult} {gen : Word16} {pr : Fin 4} (refused : r ≠ .accepted ∧ r ≠ .conflict)
    (takes : s.ev.takesNew pr .checkinRefused (slotLocus i)) :
    checkInResult i r gen (Hap.start s) = Hap.raised
      (s.withTarget i { s.target i with phase := .holding ([slotResultCode r, 0] ++ be16 gen) 0, lastResult := some r })
      (s.ev.push (latchedOcc .checkinRefused (slotLocus i) (detailOf (slotResultCode r))) pr).queue
      (s.ev.push (latchedOcc .checkinRefused (slotLocus i) (detailOf (slotResultCode r))) pr).counter s.ev.lost [pr] true := by
  have raised := raise_start (o := latchedOcc .checkinRefused (slotLocus i) (detailOf (slotResultCode r))) takes
  unfold checkInResult
  simp only [refused.1, refused.2, decide_false, Bool.or_self, Bool.false_eq_true, if_false, raiseLatched, raised]
  rw [holdResponse, setTarget_setTarget, setTarget_target_self]
  rfl

end

/-- Settles O34. -/
theorem refusedWritesAreAnswered : Obligations.RefusedWritesAreAnswered := by
  unfold Obligations.RefusedWritesAreAnswered
  refine ⟨fun i cmd args s unpinned => ⟨fun bad => ?_, fun state => ?_⟩, fun i record r pr s unpinned takes refused => ?_⟩
  · exact happen_holdResponse (f := slotWrite i (cmd :: args)) (slotWrite_bad (h := Hap.start s) unpinned bad)
  · refine happen_holdResponse (f := slotWrite i [4]) (Eq.trans ?_ (releaseCmd_refused (h := Hap.start s) state))
    exact congrArg (releaseCmd i) (endBurst_of_pin_none (h := Hap.start s) unpinned)
  · have written : slotWrite i (3 :: record) (Hap.start s) = checkInCmd i record (Hap.start s) :=
      congrArg (checkInCmd i record) (endBurst_of_pin_none (h := Hap.start s) unpinned)
    have notAdmitted : r ≠ .accepted ∧ r ≠ .conflict := by
      rcases refused with ⟨rfl, -⟩ | ⟨rfl, -⟩ | ⟨rfl, -⟩ <;> exact ⟨nofun, nofun⟩
    have taken := written.trans ((checkInCmd_refused (h := Hap.start s) refused).trans
      (checkInResult_refused (gen := s.desc.generation) notAdmitted takes))
    exact ⟨_, congrArg (fun h => Host.Outcome.next (finish h)) taken, finish_raised.1, finish_raised.2⟩

/-! ### A completed host frame (R159, R160) -/

section
variable {s : State}

/-- The byte that completes a frame at the host receiver. -/
theorem hostByteIn_last {kind tag hi : Byte} {payload : List Byte} (short : payload.length ≤ 200)
    (body : s.host.rx.phase = .body (byteOf payload.length) (kind :: tag :: payload ++ [hi])) (b : Byte) :
    hostByteIn b (Hap.start s) = judgeFrame (lastFrame kind tag payload hi b) (Hap.start s.hostHunting) := by
  have taken := take_last short body b
  have taken' : (Hap.start s).host.rx.take b = _ := taken
  simp only [hostByteIn, taken']
  rfl

theorem judgeFrame_bad {h : Hap} {kind tag hi b : Byte} {payload : List Byte}
    (bad : hi ++ b ≠ crc16 (byteOf payload.length :: kind :: tag :: payload)) :
    judgeFrame (lastFrame kind tag payload hi b) h = raise (latchedOcc .hostFrameError rackLocus (of16 1 tag)) h :=
  if_neg (mt lastFrame_good.mp bad)

/-! ### Priorities (R146, R150) -/

/-- The candidate of the lowest priority that entered last (R146). -/
theorem lowestLatest_eq {x : EvRecord} {after : List EvRecord} (above : ∀ r ∈ after, x.priority < r.priority) :
    ∀ {before : List EvRecord}, (∀ r ∈ before, x.priority ≤ r.priority) → lowestLatest (before ++ x :: after) = some x
  | [], _ => by
    cases last : lowestLatest after with
    | none => simp [lowestLatest, last]
    | some y =>
      have higher := above y (lowestLatest_mem last)
      simp [lowestLatest, last, higher]
  | r :: t, low => by
    have rest := lowestLatest_eq above fun y m => low y (List.mem_cons_of_mem r m)
    have here : ¬ r.priority < x.priority := Fin.not_lt.mpr (low r List.mem_cons_self)
    simp [lowestLatest, rest, here]

theorem topPriority_mem {q : Fin 4} : ∀ {ps : List (Fin 4)}, topPriority ps = some q → q ∈ ps
  | [], found => by cases found
  | p :: t, found => by
    unfold topPriority at found
    split at found
    · cases found
      exact List.mem_cons_self
    · next r rest =>
      split at found
      · cases found
        exact List.mem_cons_self
      · cases found
        exact List.mem_cons_of_mem p (topPriority_mem rest)

/-- The highest priority of a list that has one. -/
theorem topPriority_eq {top : Fin 4} : ∀ {ps : List (Fin 4)}, top ∈ ps → (∀ p ∈ ps, p ≤ top) → topPriority ps = some top
  | [], mem, _ => by cases mem
  | p :: t, mem, high => by
    have first := high p List.mem_cons_self
    by_cases later : top ∈ t
    · have rest := topPriority_eq later fun q m => high q (List.mem_cons_of_mem p m)
      by_cases same : top < p
      · exact absurd first (Fin.not_le.mpr same)
      · simp [topPriority, rest, same]
    · have own : p = top := ((List.mem_cons.mp mem).resolve_right later).symm
      subst own
      cases rest : topPriority t with
      | none => simp [topPriority, rest]
      | some q =>
        have held := topPriority_mem rest
        have below : q < p := lt_of_le_of_ne (high q (List.mem_cons_of_mem p held)) fun same => later (same ▸ held)
        simp [topPriority, rest, below]

/-! ### Occurrences that meet a kind that is OFF, a pending record or a full queue (R143, R146) -/

theorem raise_off {h : Hap} {o : Occ} (off : h.ev.setting o.kind = none) : raise o h = h := by simp only [raise, off]

theorem raise_pending {h : Hap} {o : Occ} (on : h.ev.setting o.kind ≠ none) (pending : h.ev.isPending o.kind o.locus = true)
    (latched : o.style = .latched) :
    raise o h = { h with
      ev := { h.ev with
        queue := h.ev.queue.map fun r => if r.stands o.kind o.locus then r.coalesce o else r } } := by
  obtain ⟨p, on⟩ := Option.ne_none_iff_exists'.mp on
  simp only [raise, on, pending, if_true, latched]

theorem raise_entering {h : Hap} {o : Occ} {pr : Fin 4} (on : h.ev.setting o.kind = some pr)
    (fresh : h.ev.isPending o.kind o.locus = false) : raise o h = enter o pr h := by
  simp only [raise, on, fresh, Bool.false_eq_true, if_false]

theorem coalesce_hostFrameError (tag : Byte) (r : EvRecord) :
    (if r.stands .hostFrameError rackLocus then r.coalesce (latchedOcc .hostFrameError rackLocus (of16 1 tag)) else r) =
      if r.kind = .hostFrameError ∧ r.locus = rackLocus then
        { r with count := min 255 (r.count + 1), detail := (1 : Byte) ++ tag, origin := [] } else r := by
  by_cases same : r.kind = .hostFrameError ∧ r.locus = rackLocus
  · have stands : r.stands .hostFrameError rackLocus = true := by simp [EvRecord.stands, same]
    have kind : r.kind ≠ .branchEventsLost := by simp [same.1]
    rw [if_pos same, if_pos stands, EvRecord.coalesce, if_neg kind]
    rfl
  · have apart : ¬ r.stands .hostFrameError rackLocus = true := by simpa [EvRecord.stands] using same
    rw [if_neg same, if_neg apart]

section
variable {h : Hap} {o : Occ} {pr : Fin 4} {x : EvRecord} (full : 32 ≤ h.ev.queue.length)
  (lowest : lowestLatest h.ev.candidates = some x)
include full lowest

theorem enter_full_lost (above : pr ≤ x.priority) :
    enter o pr h = { h with ev := { h.ev with lost := lostPlus h.ev.lost } } := by
  simp only [enter, queueSize, Nat.not_lt.mpr full, if_false, lowest, Fin.not_lt.mpr above]

theorem enter_full_displaces (below : x.priority < pr) :
    enter o pr h = noteEntry pr { h with
      ev := { ({ h.ev with queue := h.ev.queue.filter fun r => decide (r.seq ≠ x.seq) }).push o pr with
        lost := lostPlus h.ev.lost } } := by
  simp only [enter, queueSize, Nat.not_lt.mpr full, if_false, lowest, below, if_true]

end

/-- A part whose event items do not go up at once hands none on (R151). -/
theorem drainIfDue_held {h : Hap} (held : h.role = .root ∨ h.ev.inFlight ≠ none ∨ h.u.state ≠ .up) : drainIfDue h = h := by
  unfold drainIfDue
  refine if_neg ?_
  rcases held with root | busy | off
  · simp [root]
  · obtain ⟨item, flying⟩ := Option.ne_none_iff_exists'.mp busy
    simp [flying]
  · simp [off]

theorem attend_root {h : Hap} {pr top : Fin 4} (root : h.role = .root) (entered : h.entered = [pr])
    (highest : topPriority (h.ev.queue.map EvRecord.priority) = some top) :
    attend h = if h.wasEmpty || aboveAnnounced h.ev.announced pr then
      handHost { sort := .attention, frame := attentionFrame h.ev.queue.length top, resets := none }
        { h with ev := { h.ev with announced := some top } }
      else h := by
  simp only [attend, root, entered, topPriority, highest]

section
variable {q : List EvRecord} {c : Word16} {l : Nat} {e : List (Fin 4)} {d : Bool}

theorem finish_raised_lost (held : s.role = .root ∨ s.ev.inFlight ≠ none ∨ s.u.state ≠ .up) :
    (finish (Hap.raised s q c l e d)).ev.lost = l := by
  rw [finish_eq rfl, closing_raised, drainIfDue_held held]
  obtain ⟨a, attended | ⟨y, attended⟩⟩ := attend_shape (Hap.raised s q c l e d) <;> rw [attended] <;> rfl

/-- A record has entered a root's queue: ATTENTION goes to the host where the queue was empty or the record stands above the
announced priority (R150). -/
theorem finish_raised_root {pr top : Fin 4} (root : s.role = .root) (highest : topPriority (q.map EvRecord.priority) = some top) :
    finish (Hap.raised s q c l [pr] d) =
      if s.ev.queue = [] ∨ aboveAnnounced s.ev.announced pr = true then
        { s with
          ev := { s.ev with queue := q, counter := c, lost := l, announced := some top },
          host := s.host.hand { sort := .attention, frame := attentionFrame q.length top, resets := none } }
      else { s with ev := { s.ev with queue := q, counter := c, lost := l } } := by
  rw [finish_eq rfl, closing_raised, drainIfDue_held (.inl root)]
  rw [attend_root root rfl highest]
  have due : ((Hap.raised s q c l [pr] d).wasEmpty || aboveAnnounced (Hap.raised s q c l [pr] d).ev.announced pr) = true ↔
      s.ev.queue = [] ∨ aboveAnnounced s.ev.announced pr = true :=
    (Bool.or_eq_true ..).to_iff.trans (or_congr_left List.isEmpty_iff)
  by_cases announces : s.ev.queue = [] ∨ aboveAnnounced s.ev.announced pr = true
  · rw [if_pos announces, if_pos (due.mpr announces)]
    rfl
  · rw [if_neg announces, if_neg (mt due.mp announces)]
    rfl

end

theorem aboveAnnounced_iff {a : Option (Fin 4)} {p : Fin 4} :
    aboveAnnounced a p = true ↔ a = none ∨ ∃ q, a = some q ∧ q < p := by
  cases a <;> simp [aboveAnnounced]

end

/-- Settles O12. -/
theorem completedHostFrameIsJudgedByItsCrc : Obligations.CompletedHostFrameIsJudgedByItsCrc := by
  unfold Obligations.CompletedHostFrameIsJudgedByItsCrc
  refine ⟨fun b hi kind tag payload pr s short body bad takes => ?raised,
    fun b hi kind tag payload pr top x before after s short body bad => ?_,
    fun b hi kind tag payload s c short body good frame => ?good⟩
  case raised =>
    have raised := raise_start (s := s.hostHunting) (o := latchedOcc .hostFrameError rackLocus (of16 1 tag)) takes
    have taken := (hostByteIn_last short body b).trans ((judgeFrame_bad bad).trans raised)
    exact ⟨_, congrArg (fun h => Host.Outcome.next (finish h)) taken, finish_raised.1, finish_raised.2⟩
  case good =>
    have taken : hostByteIn b (Hap.start s) = hostFrameIn ⟨kind, tag, payload⟩ (Hap.start s.hostHunting) :=
      (hostByteIn_last short body b).trans (if_pos (lastFrame_good.mpr good))
    rw [exec_eq_hostRow frame short]
    exact congrArg (fun h => Host.Outcome.next (finish h)) taken
  have taken := (hostByteIn_last short body b).trans (judgeFrame_bad (h := Hap.start s.hostHunting) bad)
  refine ⟨fun off => ?off, fun on pending => ?pending, fun on fresh full held candidates low high => ?full,
    fun root takes above highest attained => ?attention⟩
  case off =>
    exact happen_start (f := hostByteIn b) (taken.trans (raise_off (h := Hap.start s.hostHunting) off))
  case pending =>
    have merged : (s.ev.queue.map fun r => if r.stands .hostFrameError rackLocus then
        r.coalesce (latchedOcc .hostFrameError rackLocus (of16 1 tag)) else r) =
        s.ev.queue.map fun r => if r.kind = .hostFrameError ∧ r.locus = rackLocus then
          { r with count := min 255 (r.count + 1), detail := (1 : Byte) ++ tag, origin := [] } else r :=
      List.map_congr_left fun r _ => coalesce_hostFrameError tag r
    have coalesced := taken.trans (raise_pending (h := Hap.start s.hostHunting) on pending rfl)
    have quiet : (hostByteIn b (Hap.start s)).Quiet := coalesced ▸ ⟨rfl, rfl, rfl, rfl, rfl, rfl, rfl⟩
    refine (happen_quiet (f := hostByteIn b) quiet).trans ?_
    rw [coalesced, ← merged]
    rfl
  case full =>
    have lowest : lowestLatest (Hap.start s.hostHunting).ev.candidates = some x :=
      (congrArg lowestLatest candidates).trans (lowestLatest_eq high low)
    have entering := taken.trans (raise_entering (h := Hap.start s.hostHunting) on fresh)
    refine ⟨fun kept => happen_start (f := hostByteIn b) (entering.trans (enter_full_lost full lowest kept)), fun below => ?_⟩
    have displaced := entering.trans (enter_full_displaces full lowest below)
    exact ⟨_, congrArg (fun h => Host.Outcome.next (finish h)) displaced, finish_raised.1, finish_raised_lost held, finish_raised.2⟩
  case attention =>
    have raised := taken.trans (raise_start (s := s.hostHunting) (o := latchedOcc .hostFrameError rackLocus (of16 1 tag)) takes)
    refine ⟨_, congrArg (fun h => Host.Outcome.next (finish h)) raised, ?_⟩
    have hunting : s.hostHunting.ev = s.ev := rfl
    have pushed : (s.hostHunting.ev.push (latchedOcc .hostFrameError rackLocus (of16 1 tag)) pr).queue.map EvRecord.priority =
        s.ev.queue.map EvRecord.priority ++ [pr] := by
      simp [EventUnit.push, hunting]
    have highest' : topPriority ((s.hostHunting.ev.push (latchedOcc .hostFrameError rackLocus (of16 1 tag)) pr).queue.map
        EvRecord.priority) = some top := by
      rw [pushed]
      refine topPriority_eq ?_ ?_
      · rcases attained with rfl | ⟨r, mem, rfl⟩
        · simp
        · exact List.mem_append_left _ (List.mem_map_of_mem mem)
      · intro p mem
        rcases List.mem_append.mp mem with held | own
        · obtain ⟨r, pending, rfl⟩ := List.mem_map.mp held
          exact highest r pending
        · exact List.mem_singleton.mp own ▸ above
    rw [finish_raised_root (s := s.hostHunting) root highest']
    simp only [aboveAnnounced_iff, hunting]
    split
    · refine ⟨rfl, ?_⟩
      have length : (s.ev.push (latchedOcc .hostFrameError rackLocus (of16 1 tag)) pr).queue.length =
          s.ev.queue.length + 1 := by simp [EventUnit.push]
      show s.hostHunting.host.hand _ = _
      unfold attentionFrame
      rw [length]
      rfl
    · exact ⟨rfl, rfl⟩

end Sys2Proof.Machine
end

section
/-! PROOF. Link messages and their encoding (chapter 10): O56, O38. -/

namespace Sys2Proof.Machine

/-! ### Fields (R172, R173) -/

/-- Paths of at most 4 elements and their bytes. -/
theorem pathOf_pathByte : ∀ {path : Path}, path.length ≤ 4 → pathOf (pathByte path) = some path
  | [], _ => rfl
  | [a], _ => by cases a <;> rfl
  | [a, b], _ => by cases a <;> cases b <;> rfl
  | [a, b, c], _ => by cases a <;> cases b <;> cases c <;> rfl
  | [a, b, c, d], _ => by cases a <;> cases b <;> cases c <;> cases d <;> rfl
  | _ :: _ :: _ :: _ :: _ :: _, long => absurd long (by simp)

/-- Every byte that is a path's is the byte of that path alone. -/
theorem pathByte_pathOf {b : Byte} {path : Path} (path_eq : pathOf b = some path) : pathByte path = b := by
  have all : ∀ b : Byte, (pathOf b).all (fun path => pathByte path = b) = true := by decide
  have here := all b
  rw [path_eq] at here
  exact of_decide_eq_true here

theorem flagsOf_flagsByte (f : Flags) : flagsOf (flagsByte f) = f := by
  obtain ⟨a, b, c, d⟩ := f
  revert a b c d
  decide

theorem dumpCauseOf_dumpCauseCode (c : DumpCause) : dumpCauseOf (dumpCauseCode c) = some c := by cases c <;> rfl

theorem entryStateOf_entryStateCode (e : EntryState) : entryStateOf (entryStateCode e) = some e := by cases e <;> rfl

theorem grantOf_grantCode (g : Grant) : grantOf (grantCode g) = some g := by cases g <;> rfl

theorem evStyleOf_evStyleCode (e : EvStyle) : evStyleOf (evStyleCode e) = some e := by cases e <;> rfl

theorem ackItemOf_ackItemCode (i : AckItem) : ackItemOf (ackItemCode i) = some i := by cases i <;> rfl

theorem replyKindOf_replyKindCode (k : ReplyKind) : replyKindOf (replyKindCode k) = some k := by cases k <;> rfl

theorem of48_be48 (w : Serial) :
    of48 (w.extractLsb' 40 8) (w.extractLsb' 32 8) (w.extractLsb' 24 8) (w.extractLsb' 16 8) (w.extractLsb' 8 8)
      (w.extractLsb' 0 8) = w := by
  refine BitVec.eq_of_getLsbD_eq fun i hi => ?_
  simp only [of48, BitVec.getLsbD_append, BitVec.getLsbD_extractLsb']
  by_cases a : i < 8
  · simp [a]
  · by_cases b : i - 8 < 8
    · simp [a, b, show 8 + (i - 8) = i by omega]
    · by_cases c : i - 8 - 8 < 8
      · simp [a, b, c, show 16 + (i - 8 - 8) = i by omega]
      · by_cases d : i - 8 - 8 - 8 < 8
        · simp [a, b, c, d, show 24 + (i - 8 - 8 - 8) = i by omega]
        · by_cases e : i - 8 - 8 - 8 - 8 < 8
          · simp [a, b, c, d, e, show 32 + (i - 8 - 8 - 8 - 8) = i by omega]
          · have f : i - 8 - 8 - 8 - 8 - 8 < 8 := by omega
            simp [a, b, c, d, e, f, show 40 + (i - 8 - 8 - 8 - 8 - 8) = i by omega]

theorem keyOf_bytes {k : Key} (fits : k.path.length ≤ 4) : keyOf (pathByte k.path) (slotByte k.slot) = some k := by
  simp only [keyOf, pathOf_pathByte fits, slotOf_slotByte]

theorem locusOf_bytes {l : Locus} (fits : Locus.fits l = true) :
    locusOf (pathByte l.path) (byteOf l.slot) l.op = some l := by
  simp only [Locus.fits, Path.fits, Bool.and_eq_true, decide_eq_true_eq] at fits
  obtain ⟨path, slot⟩ := fits
  have number : (byteOf l.slot).toNat = l.slot := by
    rw [byteOf, BitVec.toNat_ofNat]
    omega
  simp only [locusOf, pathOf_pathByte path, number, slot, if_true]

theorem linkRecordOf_bytes {r : LinkRecord} (fits : LinkRecord.fits r = true) :
    linkRecordOf (linkRecordBytes r) = some r := by
  simp only [LinkRecord.fits, Path.fits, Bool.and_eq_true, decide_eq_true_eq] at fits
  obtain ⟨path, caps⟩ := fits
  have count : (byteOf r.caps.length).toNat = r.caps.length := by
    rw [byteOf, BitVec.toNat_ofNat]
    omega
  have words := words16_flatMap_be16 r.caps
  unfold linkRecordBytes
  generalize r.caps.flatMap be16 = bytes at words
  simp only [keyBytes, be48, be16, List.cons_append, List.nil_append, linkRecordOf, keyOf_bytes path,
    entryStateOf_entryStateCode, grantOf_grantCode, count, of48_be48, of16_be16, words, if_true]

/-! ### Details and their enumerations (R172, log 46) -/

/-- A detail of a kind with an enumeration carries one of its codes. -/
theorem detail_within {kind : EvKind} {locus : Locus} {detail : Word16} {codes : List Byte} {lo hi : Nat}
    (fits : detailFits kind locus detail = true) (named : detailCodes kind locus = some codes) (other : kind ≠ .hostFrameError)
    (bounds : ∀ c ∈ codes, lo ≤ (detailOf c).toNat ∧ (detailOf c).toNat ≤ hi) : lo ≤ detail.toNat ∧ detail.toNat ≤ hi := by
  simp only [detailFits, named] at fits
  obtain ⟨c, mem, carries⟩ := List.any_eq_true.mp fits
  have carried : detail = detailOf c := by simpa [carriesCode, other] using carries
  exact carried ▸ bounds c mem

/-- A code in the high byte of a detail. -/
theorem of16_high (a b : Byte) : (of16 a b).toNat / 256 = a.toNat := by
  have low := b.isLt
  rw [of16, BitVec.toNat_append, ← Nat.shiftLeft_add_eq_or_of_lt low, Nat.shiftLeft_eq]
  omega

theorem hostFrameError_within {locus : Locus} {detail : Word16} (fits : detailFits .hostFrameError locus detail = true) :
    1 ≤ detail.toNat / 256 ∧ detail.toNat / 256 ≤ 2 := by
  obtain ⟨c, mem, carries⟩ := List.any_eq_true.mp (show List.any [1, 2] (carriesCode .hostFrameError detail) = true from fits)
  have high : detail = of16 c (detail.extractLsb' 0 8) := of_decide_eq_true carries
  rw [high, of16_high]
  clear carries high
  revert c
  decide

theorem detailOfItsCodes_of_fits {e : EventUp} (fits : detailFits e.kind e.locus e.detail = true) : detailOfItsCodes e := by
  refine ⟨fun k => ?_, fun k => ?_, fun k eject => ?_, fun k => ?_, fun k => ?_, fun k => ?_, fun k => ?_⟩ <;> rw [k] at fits
  · exact detail_within fits rfl nofun (by decide)
  · exact (detail_within (lo := 0) fits rfl nofun (by decide)).2
  · exact detail_within fits (if_neg eject) nofun (by decide)
  · exact detail_within fits rfl nofun (by decide)
  · exact (detail_within (lo := 0) fits rfl nofun (by decide)).2
  · exact hostFrameError_within fits
  · exact (detail_within (lo := 0) fits rfl nofun (by decide)).2

/-! ### Messages -/

theorem eventUpOf_bytes {e : EventUp} (locus : Locus.fits e.locus = true) (origin : e.origin.length ≤ 4)
    (detail : detailFits e.kind e.locus e.detail = true) :
    eventUpOf (linkPayload (.eventUp e)) = some e := by
  simp only [linkPayload, be16, locusBytes, List.cons_append, List.nil_append, eventUpOf, evKindOf_evKindCode,
    evStyleOf_evStyleCode, locusOf_bytes locus, pathOf_pathByte origin, of16_be16, detail, Bool.not_true,
    Bool.false_eq_true, if_false]

/-- What fits its layout decodes from its own encoding. -/
theorem linkMsgOf_encoded {m : LinkMsg} (fits : LinkMsg.fits m = true) :
    linkMsgOf (linkKind m) (linkTag m) (linkPayload m) = some m := by
  have own := (Bool.and_eq_true_iff.mp fits).2
  cases m with
  | probe tier path =>
    exact congrArg (Option.map (LinkMsg.probe tier)) (pathOf_pathByte (of_decide_eq_true own))
  | probeReply rackId rackClass revision =>
    exact congrArg some (congrArg₂ (fun a b => LinkMsg.probeReply a b revision) (of32_be32 rackId) (of16_be16 rackClass))
  | syncBegin count cause => exact congrArg (Option.map (LinkMsg.syncBegin count)) (dumpCauseOf_dumpCauseCode cause)
  | syncEntry ordinal body =>
    cases body with
    | present r => exact congrArg (fun o => (o.map SyncBody.present).map (LinkMsg.syncEntry ordinal)) (linkRecordOf_bytes own)
    | vacant k => exact congrArg (fun o => (o.map SyncBody.vacant).map (LinkMsg.syncEntry ordinal)) (keyOf_bytes (of_decide_eq_true own))
  | syncEnd count flags => exact congrArg (fun f => some (LinkMsg.syncEnd count f)) (flagsOf_flagsByte flags)
  | delta seq body =>
    cases body with
    | add r => exact congrArg (fun o => (o.map DeltaBody.add).map (LinkMsg.delta seq)) (linkRecordOf_bytes own)
    | update r => exact congrArg (fun o => (o.map DeltaBody.update).map (LinkMsg.delta seq)) (linkRecordOf_bytes own)
    | remove k => exact congrArg (fun o => (o.map DeltaBody.remove).map (LinkMsg.delta seq)) (keyOf_bytes (of_decide_eq_true own))
    | flags f => exact congrArg (fun f => some (LinkMsg.delta seq (.flags f))) (flagsOf_flagsByte f)
  | eventUp e =>
    obtain ⟨places, detail⟩ := Bool.and_eq_true_iff.mp own
    obtain ⟨locus, origin⟩ := Bool.and_eq_true_iff.mp places
    exact congrArg (Option.map LinkMsg.eventUp) (eventUpOf_bytes locus (of_decide_eq_true origin) detail)
  | eventAck item seq =>
    refine (congrArg (Option.map fun i => LinkMsg.eventAck i _) (ackItemOf_ackItemCode item)).trans ?_
    exact congrArg (fun w => some (LinkMsg.eventAck item w)) (of16_be16 seq)
  | conditionClear kind locus seq =>
    show (match evKindOf (evKindCode kind), locusOf (pathByte locus.path) (byteOf locus.slot) locus.op with
      | some kind, some locus => some (LinkMsg.conditionClear kind locus (of16 (seq.extractLsb' 8 8) (seq.extractLsb' 0 8)))
      | _, _ => none) = _
    rw [evKindOf_evKindCode, locusOf_bytes own, of16_be16]
  | info rackId rackClass => exact congrArg some (congrArg₂ LinkMsg.info (of32_be32 rackId) (of16_be16 rackClass))
  | forwardReply tag kind payload =>
    show forwardReplyOf tag (replyKindCode kind) payload = _
    have fits' : replyFits kind payload = true := own
    simp only [forwardReplyOf, replyKindOf_replyKindCode, fits', if_true]
  | keepalive | syncAck | deltaAck seq | resync | forwardRequest tag path kind payload | linkReset => rfl

/-- Settles O56. -/
theorem encodedMessagesDecodeToThemselves : Obligations.EncodedMessagesDecodeToThemselves := by
  unfold Obligations.EncodedMessagesDecodeToThemselves
  refine ⟨fun m => linkMsgOf_encoded, fun e tag locus odd => ?_, fun path => pathOf_pathByte, fun b path => pathByte_pathOf⟩
  have unfit : detailFits e.kind e.locus e.detail = false := Bool.eq_false_iff.mpr (mt detailOfItsCodes_of_fits odd)
  have none : eventUpOf (linkPayload (.eventUp e)) = none := by
    cases origin : pathOf (pathByte e.origin) <;>
      simp only [linkPayload, be16, locusBytes, List.cons_append, List.nil_append, eventUpOf, evKindOf_evKindCode,
        evStyleOf_evStyleCode, locusOf_bytes locus, of16_be16, unfit, origin, Bool.not_false, if_true]
  exact congrArg (Option.map LinkMsg.eventUp) none

/-! ### Good link frames (R108) -/

/-- The command that stands for a message that fits does what the message does. -/
theorem exec_linkCommand {port : Port} {m : LinkMsg} {s : State} (fits : LinkMsg.fits m = true) :
    exec (linkCommand port m) s = happen (linkIn port m) s := by
  obtain ⟨length, own⟩ := Bool.and_eq_true_iff.mp fits
  have short : sizedLinkRow port m s = linkRow port m s := sizedLinkRow_eq (of_decide_eq_true length)
  cases m with
  | eventUp e => exact if_pos (Bool.and_eq_true_iff.mp own).2
  | forwardReply tag kind payload => exact (if_pos own).trans short
  | _ => exact short

/-- Settles O38. -/
theorem goodLinkFrameIsItsMessage : Obligations.GoodLinkFrameIsItsMessage := by
  unfold Obligations.GoodLinkFrameIsItsMessage
  intro port m b hi s fits body good
  have short : (linkPayload m).length ≤ 200 := of_decide_eq_true (Bool.and_eq_true_iff.mp fits).1
  have taken := take_last short body b
  have decoded : (lastFrame (linkKind m) (linkTag m) (linkPayload m) hi b).linkMsg = some m :=
    (if_pos (lastFrame_good.mpr good)).trans (linkMsgOf_encoded fits)
  have received : linkByteIn port b (Hap.start s) = linkIn port m (Hap.start (s.withRx port { phase := .hunting, gap := none })) := by
    have rx : (Hap.start s).portRx port = s.portRx port := rfl
    simp only [linkByteIn, rx, taken, setRx_start, Option.bind_some, decoded]
  rw [exec_linkCommand fits]
  exact congrArg (fun h => Host.Outcome.next (finish h)) received

end Sys2Proof.Machine
end

section
/-! PROOF. SYNC ACK (O47); carrier, PROBE and PROBE REPLY on a link that is not running. -/

namespace Sys2Proof.Machine

section
variable {h : Hap}

/-! ### What the end of a happening makes of U's state (R126, R133, R151) -/

theorem recomputeFlags_u (h : Hap) : (recomputeFlags h).u = h.u := by
  unfold recomputeFlags
  split <;> rfl

theorem advanceGeneration_u (h : Hap) : (advanceGeneration h).u = h.u := by
  unfold advanceGeneration
  split <;> rfl

theorem attend_u (h : Hap) : (attend h).u = h.u := by
  obtain ⟨a, same | ⟨x, same⟩⟩ := attend_shape h <;> rw [same]

theorem drainIfDue_state (h : Hap) : (drainIfDue h).u.state = h.u.state := by
  unfold drainIfDue
  split
  · split <;> rfl
  · rfl

theorem sendDeltas_state : ∀ (n : Nat) (h : Hap), (sendDeltas n h).u.state = h.u.state
  | 0, _ => rfl
  | n + 1, h => by
    unfold sendDeltas
    split
    · rfl
    · split
      · exact sendDeltas_state n _
      · rfl

theorem sendDeltasIfDue_state (h : Hap) : (sendDeltasIfDue h).u.state = h.u.state := by
  unfold sendDeltasIfDue
  split
  · exact sendDeltas_state _ h
  · rfl

/-- A roster whose entries stand makes a FLAGS delta at most. -/
theorem happeningDeltas_unchanged {es : List Entry} (nodup : (es.map Entry.key).Nodup) (a b : Flags) :
    happeningDeltas es es a b = if a = b then [] else [.flags b] := by
  have changed : es.filterMap (entryDelta es) = [] := List.filterMap_eq_nil_iff.mpr fun e mem => by
    simp [entryDelta, findEntry_of_mem nodup mem]
  have gone : es.filterMap (entryGone es) = [] := List.filterMap_eq_nil_iff.mpr fun e mem => by
    simp [entryGone, findEntry_of_mem nodup mem]
  simp [happeningDeltas, changed, gone, sortBy]

/-- A change of the flags alone is queued for the parent where the queue has room (R126). -/
theorem handUpward_flags (entries : h.roster.entries = h.base) (nodup : h.roster.keys.Nodup) (room : h.u.deltas.length < 32) :
    handUpward h = h ∨ handUpward h =
      { h with u := { h.u with deltas := h.u.deltas ++ [{ body := .flags h.roster.flags, seq := none }] }, deltaDue := true } := by
  unfold handUpward
  split
  · rw [← entries, happeningDeltas_unchanged nodup]
    by_cases same : h.baseFlags = h.roster.flags
    · simp [same]
    · have fits : ¬ deltaQueueSize < h.u.deltas.length + 1 := by
        rw [deltaQueueSize]
        omega
      simp [same, fits]
  · exact .inl rfl

/-- The end of a happening that changed no entry leaves U in its state while the delta queue has room. -/
theorem behindRecovery_state (entries : h.roster.entries = h.base) (nodup : h.roster.keys.Nodup) (room : h.u.deltas.length < 32) :
    (behindRecovery h).u.state = h.u.state := by
  have start : ∀ g : Hap, g = advanceGeneration (recomputeFlags h) → (handUpward g).u.state = h.u.state := fun g named => by
    have u : g.u = h.u := by rw [named, advanceGeneration_u, recomputeFlags_u]
    have same : g.roster.entries = h.roster.entries ∧ g.base = h.base := by
      subst named
      unfold advanceGeneration recomputeFlags
      split <;> split <;> exact ⟨rfl, rfl⟩
    obtain handed | handed := handUpward_flags (h := g) (by rw [same.1, same.2, entries])
      (show (g.roster.entries.map Entry.key).Nodup from same.1 ▸ nodup) (u ▸ room)
    · rw [handed, u]
    · rw [handed, u]
  rw [behindRecovery, attend_u, drainIfDue_state, sendDeltasIfDue_state, start _ rfl]

/-! ### Ports whose tier has become known (R110, R111) -/

/-- A D port in DOWN with carrier, once the tier is known. -/
def DLink.examined (n : Nat) (m : LinkMsg) (d : DLink) : DLink :=
  if d.state = .down ∧ d.filter.state = .present then
    if n ≤ 2 then { d with state := .probing, probe := some 50 }.send m else { d with state := .refused }
  else d

theorem reexamine_shape {n : Nat} (tier : h.tier = some n) (p : DPort) :
    ∃ ev entered drain flags, reexamine p h = { h.setD p ((h.dl p).examined n (probeMsg h.toState p)) with
      ev := ev, entered := entered, drainDue := drain, flagsDue := flags } := by
  unfold reexamine DLink.examined
  simp only [Filter.carrier, tier, Bool.and_eq_true, decide_eq_true_eq]
  split
  · split
    · exact ⟨_, _, _, _, rfl⟩
    · obtain ⟨ev, entered, due, same⟩ := shape_of_offEv (beginCond_offEv
        ({ h.setD p { h.dl p with state := .refused } with flagsDue := true }) .depthExceeded (portLocus p))
      exact ⟨ev, entered, due, true, same⟩
  · exact ⟨h.ev, h.entered, h.drainDue, h.flagsDue, by cases p <;> rfl⟩

theorem resendItem_shape (h : Hap) : ∃ r tx k, resendItem h =
    { h with ev := { h.ev with retransmit := r }, u := { h.u with tx := tx, keepalive := k } } := by
  unfold resendItem
  split
  · exact ⟨_, _, _, rfl⟩
  · exact ⟨h.ev.retransmit, h.u.tx, h.u.keepalive, rfl⟩

/-- With nothing to send U's deltas and items stand. -/
theorem sendDeltasIfDue_none (none : h.u.deltas = []) : sendDeltasIfDue h = h := by
  have sent : ∀ n, sendDeltas n h = h := fun n => by cases n <;> simp [sendDeltas, none]
  simp [sendDeltasIfDue, sent]

theorem drainIfDue_none (queue : h.ev.queue = []) (reported : h.ev.reported = []) : drainIfDue h = h := by
  simp [drainIfDue, EventUnit.nextItem, queue, reported, deliveryOrder, sortBy]

/-- U has gone from SYNCING to UP (R130). -/
def State.broughtUp (s : State) : Hap :=
  { Hap.start s with
    u := { s.u with state := .up, dumpPhase := .none, dumpList := [], cursor := 1, ackTimer := none, nextSeq := 1,
                    loss := some 60 },
    deltaDue := true }

theorem takeSyncAck_awaited {s : State} (state : s.u.state = .syncing) (phase : s.u.dumpPhase = .awaitingAck) :
    takeSyncAck (Hap.start (s.heard .u)) = drainResumes (if (!s.u.tierKnown) = true then firstUp s.broughtUp else s.broughtUp) :=
  if_pos (by rw [Bool.and_eq_true, decide_eq_true_eq, decide_eq_true_eq]; exact ⟨state, phase⟩)

/-- The first SYNC ACK of a link lets both ports be examined, and queues the conditions that hold. -/
theorem firstUp_shape {n : Nat} {u : ULink} (branch : h.role = .branch) (named : h.u = u) (tier : u.recTier = some n) :
    ∃ ev entered drain flags m1 m2, firstUp h = { h with
      u := { u with tierKnown := true }, d1 := h.d1.examined n m1, d2 := h.d2.examined n m2, ev := ev, entered := entered,
      drainDue := drain, flagsDue := flags } := by
  have known : ∀ g : Hap, g.role = .branch → g.u = { u with tierKnown := true } → g.tier = some n := fun g role link => by
    simp [State.tier, role, link, tier]
  obtain ⟨e1, n1, r1, f1, one⟩ := reexamine_shape (h := { h with u := { h.u with tierKnown := true } })
    (known _ branch (by rw [named])) .d1
  obtain ⟨e2, n2, r2, f2, two⟩ := reexamine_shape (h := reexamine .d1 { h with u := { h.u with tierKnown := true } })
    (known _ (by rw [one]; exact branch) (by rw [one, ← named]; rfl)) .d2
  have quiet : (firstUp h).offEv = (reexamine .d2 (reexamine .d1 { h with u := { h.u with tierKnown := true } })).offEv :=
    (queueOddHolding_offEv _).trans (queueHolding_offEv _)
  obtain ⟨e3, n3, r3, same⟩ := shape_of_offEv quiet
  rw [same, two, one, ← named]
  exact ⟨_, _, _, _, _, _, rfl⟩

/-- What the first SYNC ACK of a link leaves for the end of its happening. -/
theorem takeSyncAck_first {s : State} {n : Nat} (branch : s.role = .branch) (state : s.u.state = .syncing)
    (phase : s.u.dumpPhase = .awaitingAck) (unknown : s.u.tierKnown = false) (tier : s.u.recTier = some n) :
    ∃ g, takeActiveU .syncAck (Hap.start (s.heard .u)) = g ∧ g.resetDue = none ∧ g.settleDue = false ∧ g.dirty = false ∧
      g.u.state = .up ∧ g.u.tierKnown = true ∧ g.u.recTier = some n ∧ g.u.deltas = s.u.deltas ∧
      (∀ p, ∃ m, g.dl p = (s.dl p).examined n m) ∧ g.roster = s.roster ∧ g.base = s.roster.entries ∧ g.slots = s.slots ∧
      g.targets = s.targets ∧ g.desc = s.desc ∧ g.ops = s.ops ∧ g.rescan = s.rescan ∧ g.pending = s.pending := by
  obtain ⟨ev, entered, drain, flags, m1, m2, first⟩ := firstUp_shape (h := s.broughtUp) (n := n) branch rfl tier
  obtain ⟨r, tx, k, resent⟩ := resendItem_shape (firstUp s.broughtUp)
  have unknown' : (!s.u.tierKnown) = true := by simp [unknown]
  have taken : takeActiveU .syncAck (Hap.start (s.heard .u)) = { resendItem (firstUp s.broughtUp) with drainDue := true } :=
    (takeSyncAck_awaited state phase).trans (congrArg drainResumes (if_pos unknown'))
  rw [resent, first] at taken
  refine ⟨_, taken, rfl, rfl, rfl, rfl, rfl, tier, rfl, fun p => ?_, rfl, rfl, rfl, rfl, rfl, rfl, rfl, rfl⟩
  cases p with
  | d1 => exact ⟨m1, rfl⟩
  | d2 => exact ⟨m2, rfl⟩

end

/-- Settles O47. -/
theorem syncAckBringsUUp : Obligations.SyncAckBringsUUp := by
  unfold Obligations.SyncAckBringsUUp
  intro s n hears
  refine ⟨fun unawaited => ?_, fun state phase known deltas queue reported idle => ?_,
    fun state phase unknown tier room one two nodup => ?_⟩
  · refine exec_heard_u hears (if_neg ?_)
    rw [Bool.and_eq_true, decide_eq_true_eq, decide_eq_true_eq, not_and_or]
    exact unawaited
  · have known' : ¬(!s.u.tierKnown) = true := by simp [known]
    have resent : resendItem s.broughtUp = s.broughtUp := by simp [resendItem, State.broughtUp, Hap.start, idle]
    have taken : takeActiveU .syncAck (Hap.start (s.heard .u)) = { s.broughtUp with drainDue := true } := by
      rw [← resent]
      exact (takeSyncAck_awaited state phase).trans (congrArg drainResumes (if_neg known'))
    refine (linkRow_u hears .syncAck taken).trans (congrArg Host.Outcome.next ?_)
    rw [finish_eq rfl, closing_clean rfl rfl, behindRecovery, recomputeFlags_still rfl, advanceGeneration_still rfl,
      handUpward_still rfl, sendDeltasIfDue_none deltas, drainIfDue_none queue reported, attend_still rfl]
    rfl
  · obtain ⟨g, taken, none, settled, clean, up, known, link, deltas, ports, roster, base, slots, targets, desc, ops, rescan,
      pending⟩ := takeSyncAck_first hears.1 state phase unknown tier
    refine ⟨_, linkRow_u hears .syncAck taken, ?_⟩
    have m := moves_closing_clean settled clean
    have tier' := m.frame .uTier rfl
    have entries := m.frame .entries rfl
    simp only [Part.same, Prod.mk.injEq] at tier' entries
    have state' : (closing g).u.state = .up := by
      rw [closing_clean settled clean, behindRecovery_state (base ▸ congrArg Roster.entries roster) (roster ▸ nodup) (deltas ▸ room), up]
    have ports' : ∀ p, ∃ m, (closing g).dl p = (s.dl p).examined n m := fun p => by
      obtain ⟨m', port⟩ := ports p
      exact ⟨m', (m.frame (.port p) rfl).trans port⟩
    have down : ∀ p, (s.dl p).state = .down := fun p => by cases p <;> assumption
    obtain ⟨-, -, -, slots', -, targets', desc', ops', rescan', pending'⟩ := finish_offEnd none
    rw [finish_eq none] at slots' targets' desc' ops' rescan' pending' ⊢
    refine ⟨state', tier'.2.2.trans known, tier'.1.trans link, fun p => ?_, fun p present small => ?_,
      entries.1.trans (congrArg Roster.entries roster), slots'.trans slots, targets'.trans targets, desc'.trans desc,
      ops'.trans ops, rescan'.trans rescan, pending'.trans pending⟩
    · obtain ⟨m, port⟩ := ports' p
      show ((closing g).dl p).state = _
      rw [port, DLink.examined]
      simp only [down p, true_and]
      split
      · split <;> rfl
      · exact down p
    · obtain ⟨m, port⟩ := ports' p
      show ((closing g).dl p).probe = _
      rw [port, DLink.examined, if_pos ⟨down p, present⟩, if_pos small]
      rfl

/-! ### Carrier, PROBE and PROBE REPLY (R110 to R113) -/

section
variable {s : State} {h : Hap} {p : DPort}

/-- Handing the roster's change up moves of the event unit no more than the retransmit timer. -/
theorem handUpward_ev (h : Hap) : ∃ r, (handUpward h).ev = { h.ev with retransmit := r } := by
  have flags : (recomputeFlags h).ev = h.ev := by
    unfold recomputeFlags
    split <;> rfl
  have opened : ∃ r, (openDump .queueFull h).ev = { h.ev with retransmit := r } := by
    simp only [openDump, sendU, sendUMarked]
    split
    · exact ⟨_, by rw [flags]⟩
    · exact ⟨h.ev.retransmit, by rw [flags]⟩
  unfold handUpward beginDump
  simp only
  split
  · split
    · exact ⟨_, rfl⟩
    · split
      · split
        · exact opened
        · exact opened
      · exact ⟨_, rfl⟩
  · exact ⟨_, rfl⟩

/-- Behind recovery the event unit's notes of what has been sent and announced move alone. -/
theorem behindRecovery_ev (h : Hap) : ∃ a x r l, (behindRecovery h).ev =
    { h.ev with announced := a, inFlight := x, retransmit := r, lost := l } := by
  have flagged : (recomputeFlags h).ev = h.ev := by
    unfold recomputeFlags
    split <;> rfl
  have advanced : ∀ g : Hap, (advanceGeneration g).ev = g.ev := fun g => by
    unfold advanceGeneration
    split <;> rfl
  have sent : ∀ g : Hap, (sendDeltasIfDue g).ev = g.ev := fun g => by
    unfold sendDeltasIfDue
    split
    · exact sendDeltas_ev _ g
    · rfl
  have drained : ∀ g : Hap, ∃ x r l, (drainIfDue g).ev = { g.ev with inFlight := x, retransmit := r, lost := l } := fun g => by
    unfold drainIfDue
    split
    · split
      · exact ⟨_, _, _, rfl⟩
      · exact ⟨_, _, _, rfl⟩
    · exact ⟨_, _, _, rfl⟩
  have attended : ∀ g : Hap, ∃ a, (attend g).ev = { g.ev with announced := a } := fun g => by
    obtain ⟨a, same | ⟨x, same⟩⟩ := attend_shape g <;> exact ⟨a, same ▸ rfl⟩
  obtain ⟨r, e⟩ := handUpward_ev (advanceGeneration (recomputeFlags h))
  obtain ⟨x, r', l, e'⟩ := drained (sendDeltasIfDue (handUpward (advanceGeneration (recomputeFlags h))))
  obtain ⟨a, e''⟩ := attended (drainIfDue (sendDeltasIfDue (handUpward (advanceGeneration (recomputeFlags h)))))
  rw [behindRecovery, e'', e', sent, e, advanced, flagged]
  exact ⟨a, x, r', l, rfl⟩

theorem Filter.expired_settling {f : Filter} (settling : f.state = .settling) (runs : f.timer ≠ none) :
    f.expired = { f with state := .present, timer := none } := by
  obtain ⟨n, timer⟩ := Option.ne_none_iff_exists'.mp runs
  simp only [Filter.expired, settling, timer]

theorem arrived_settling {f : Filter} (settling : f.state = .settling) (runs : f.timer ≠ none) :
    arrived f f.expired = true := by
  rw [Filter.expired_settling settling runs]
  simp [arrived, Filter.carrier, settling]

theorem reexamine_due {n : Nat} (tier : h.tier = some n) (down : (h.dl p).state = .down)
    (present : (h.dl p).filter.state = .present) : (reexamine p h).flagsDue = true := by
  simp only [reexamine, down, Filter.carrier, present, tier, decide_true, Bool.and_self, if_true]
  split
  · rfl
  · exact congrArg Hap.flagsDue (beginCond_offEv ({ h.setD p { h.dl p with state := .refused } with flagsDue := true })
      .depthExceeded (portLocus p))

/-- A raised occurrence moves the queue, its counter and the lost count alone (R143 to R146). -/
theorem raise_ev (o : Occ) (h : Hap) : ∃ q c l, (raise o h).ev = { h.ev with queue := q, counter := c, lost := l } := by
  have entered : ∀ pr, ∃ q c l, (enter o pr h).ev = { h.ev with queue := q, counter := c, lost := l } := fun pr => by
    unfold enter
    split
    · exact ⟨_, _, _, rfl⟩
    · split
      · exact ⟨_, _, _, rfl⟩
      · split <;> exact ⟨_, _, _, rfl⟩
  unfold raise
  split
  · exact ⟨_, _, _, rfl⟩
  · split
    · split <;> exact ⟨_, _, _, rfl⟩
    · exact entered _

/-- A local claim that begins stands among the local conditions, and moves no other (R142). -/
theorem beginCond_localConds (k : EvKind) (l : Locus) (h : Hap) : (beginCond k l h).ev.localConds =
    if h.ev.localHolds k l then h.ev.localConds else h.ev.localConds ++ [{ kind := k, locus := l }] := by
  have withdrawn : ∀ g : Hap, (withdrawClear k l g).ev.localConds = g.ev.localConds := fun g => by
    unfold withdrawClear
    split <;> rfl
  unfold beginCond
  split
  · rfl
  · simp only
    split
    · rfl
    · obtain ⟨q, c, l', raised⟩ := raise_ev (conditionOcc k l (ownerDetail ({ h with
        ev := { h.ev with localConds := h.ev.localConds ++ [{ kind := k, locus := l }] } } : Hap).toState k l) [])
        (withdrawClear k l { h with ev := { h.ev with localConds := h.ev.localConds ++ [{ kind := k, locus := l }] } })
      rw [raised]
      exact withdrawn _

theorem beginCond_holds (k : EvKind) (l : Locus) (h : Hap) : (beginCond k l h).ev.localHolds k l = true := by
  rw [EventUnit.localHolds, beginCond_localConds]
  split
  · next held => exact held
  · simp

/-- A port beyond the tree's depth holds DEPTH_EXCEEDED (R111). -/
theorem reexamine_depth {n : Nat} (tier : h.tier = some n) (down : (h.dl p).state = .down)
    (present : (h.dl p).filter.state = .present) (deep : 2 < n) :
    (reexamine p h).ev.localHolds .depthExceeded (portLocus p) = true := by
  simp only [reexamine, down, Filter.carrier, present, tier, decide_true, Bool.and_self, if_true, Nat.not_le.mpr deep, if_false]
  exact beginCond_holds ..

/-- Carrier found on a D port. -/
theorem carrier_arrives (settling : (s.dl p).filter.state = .settling) (runs : (s.dl p).filter.timer ≠ none) :
    lineSettled (.carrier (.d p)) (Hap.start s) = reexamine p (Hap.start (s.withD p { s.dl p with
      filter := { (s.dl p).filter with state := .present, timer := none } })) := by
  have dl : (Hap.start s).dl p = s.dl p := rfl
  rw [← setD_start, ← Filter.expired_settling settling runs]
  simp only [lineSettled, carrierChangeD, dl, arrived_settling settling runs, if_true]

/-- The completeness flags see of a port whether it is ready, refused and on the way up (R21). -/
theorem causedFlags_withD {d : DLink} (below : d.below = (s.dl p).below) (depth : d.depth = (s.dl p).depth)
    (pending : d.pendingLink = (s.dl p).pendingLink) : (s.withD p d).causedFlags = s.causedFlags := by
  cases p <;> simp only [State.dl] at below depth pending <;>
    simp only [State.causedFlags, State.withD, below, depth, pending]

/-- Flags that stand as their causes do are reckoned without a change. -/
theorem recomputeFlags_same {t : State} (caused : t.causedFlags = t.roster.flags) :
    recomputeFlags { Hap.start t with flagsDue := true } = Hap.start t := by
  have caused' : ({ Hap.start t with flagsDue := true } : Hap).causedFlags = t.roster.flags := caused
  have unchanged : decide (t.roster.flags ≠ (Hap.start t).roster.flags) = false := decide_eq_false fun differ => differ rfl
  simp only [recomputeFlags, if_true, caused', unchanged]
  rfl

/-- A PROBE REPLY in PROBING starts the link; the completeness flags stand, the port having been unready before (R112). -/
theorem probeReply_probing {rackId : Word32} {rackClass : Word16} {revision : Byte} (probing : (s.dl p).state = .probing)
    (child : (s.dl p).child = none) (flags : s.roster.flags = s.causedFlags) :
    exec (.probeReply (.d p) rackId rackClass revision) s = .next (s.withD p
      { s.dl p with
        state := .syncing, probe := none, keepalive := some 20, loss := some 60, syncPhase := .awaiting,
        syncTimer := some 500,
        child := some { rackId := rackId, rackClass := rackClass, revision := revision, tier := s.ownTier + 1,
                        reported := none } }) := by
  generalize started : ({ s.dl p with
    state := .syncing, probe := none, keepalive := some 20, loss := some 60, syncPhase := .awaiting, syncTimer := some 500,
    child := some { rackId := rackId, rackClass := rackClass, revision := revision, tier := s.ownTier + 1,
                    reported := none } } : DLink) = d
  have dl : (Hap.start s).dl p = s.dl p := rfl
  have taken : linkIn (.d p) (.probeReply rackId rackClass revision) (Hap.start s) =
      { Hap.start (s.withD p d) with flagsDue := true } := by
    rw [← setD_start, ← started]
    simp only [linkIn, linkInD, dl, probing, takeProbingD, takeProbeReply]
    rfl
  have below : d.below = (s.dl p).below := by simp [← started, DLink.below, probing]
  have depth : d.depth = (s.dl p).depth := by simp [← started, DLink.depth, DLink.reportedFlags, probing, child]
  have pending : d.pendingLink = (s.dl p).pendingLink := by simp [← started, DLink.pendingLink, probing]
  have caused : (s.withD p d).causedFlags = (s.withD p d).roster.flags :=
    (causedFlags_withD below depth pending).trans (flags.symm.trans (by cases p <;> rfl))
  refine congrArg Host.Outcome.next ((congrArg finish taken).trans ?_)
  rw [finish_eq rfl, closing_clean rfl rfl, behindRecovery, recomputeFlags_same caused, advanceGeneration_still rfl,
    handUpward_still rfl, sendDeltasIfDue_still rfl, drainIfDue_still rfl, attend_still rfl]
  rfl

/-- A PROBE that passes in DOWN (R111 to R113, R128). -/
theorem probe_down {tier : Byte} {path : Path} (branch : s.role = .branch) (down : s.u.state = .down) :
    exec (.probe .u tier path) s = .next
      (if s.u.filter.state = .present ∧ tier.toNat ≤ 2 ∧ path.length = tier.toNat + 1 then
        { s with u := { s.u with
          state := .syncing, keepalive := some 20, loss := some 60, recTier := some (tier.toNat + 1),
          recPath := some path, dumpPhase := if s.roster.entries = [] then .awaitingAck else .sending,
          dumpCause := .first, dumpList := s.roster.keys, cursor := 1,
          ackTimer := if s.roster.entries = [] then some 500 else none, deltas := [], retransmit := none,
          tx :=
            let begun := (s.u.tx.hand
                { msg := .probeReply (headerRackId s.desc.liveBank) (headerRackClass s.desc.liveBank)
                           Config.hardwareRevision, resets := none }).hand
                { msg := .syncBegin (byteOf s.roster.entries.length) .first, resets := none }
            if s.roster.entries = [] then begun.hand { msg := .syncEnd 0 s.roster.flags, resets := none } else begun } }
      else s) := by
  have role : (Hap.start s).role = .branch := branch
  have inactive : (Hap.start s).u.state.active = false := congrArg LinkState.active down
  have taken : linkIn .u (.probe tier path) (Hap.start s) = takeProbe tier path (Hap.start s) := by
    simp only [linkIn, linkInU, role, inactive, Bool.false_eq_true, if_false, takeDownU]
  have passes : probePasses s tier path = true ↔ s.u.filter.state = .present ∧ tier.toNat ≤ 2 ∧ path.length = tier.toNat + 1 := by
    simp [probePasses, Filter.carrier, and_assoc]
  by_cases pass : s.u.filter.state = .present ∧ tier.toNat ≤ 2 ∧ path.length = tier.toNat + 1
  · generalize begun : ({ s with u := { s.u with
      state := .syncing, keepalive := some 20, loss := some 60, recTier := some (tier.toNat + 1), recPath := some path,
      tx := s.u.tx.hand { msg := .probeReply (headerRackId s.desc.liveBank) (headerRackClass s.desc.liveBank)
                                   Config.hardwareRevision, resets := none } } } : State) = t
    have active : t.u.state.active = true := begun ▸ rfl
    have started : takeProbe tier path (Hap.start s) = beginDump .first (Hap.start t) := by
      have passes' : probePasses (Hap.start s).toState tier path = true := passes.mpr pass
      simp only [takeProbe, passes', if_true, inactive, Bool.false_eq_true, if_false, ← begun]
      rfl
    obtain ⟨quiet, ends⟩ := beginDump_start (s := t) active .first rfl
    rw [if_pos pass]
    refine (linkRow_quiet (taken.trans started) quiet).trans (congrArg Host.Outcome.next (ends.trans ?_))
    rw [openDump_start active]
    have retransmit : (if t.u.state = .up then none else t.ev.retransmit) = s.ev.retransmit := by rw [← begun]; rfl
    rw [retransmit, ← begun]
    by_cases empty : s.roster.entries = []
    · simp [State.toParent, empty]
    · simp [State.toParent, empty]
  · have passes' : probePasses (Hap.start s).toState tier path = false := Bool.eq_false_iff.mpr (mt passes.mp pass)
    rw [if_neg pass]
    refine happen_start (f := linkIn .u (.probe tier path)) (taken.trans ?_)
    simp only [takeProbe, passes', Bool.false_eq_true, if_false]

/-- Carrier found on a D port in DOWN of a part whose tier is known (R110, R111). -/
theorem carrier_examined {n : Nat} (settling : (s.dl p).filter.state = .settling) (runs : (s.dl p).filter.timer ≠ none)
    (down : (s.dl p).state = .down) (tier : s.tier = some n) (m1 : s.roster.marker1 = false) (m2 : s.roster.marker2 = false) :
    ∃ t, exec (.settleTimerExpiry (.carrier (.d p))) s = .next t ∧
      t.dl p = (if n ≤ 2 then
                  { s.dl p with filter := { (s.dl p).filter with state := .present, timer := none },
                                state := .probing, probe := some 50 }.send (.probe (byteOf n) (s.ownPath ++ [p]))
                else { s.dl p with filter := { (s.dl p).filter with state := .present, timer := none },
                                   state := .refused }) ∧
      (2 < n → t.ev.localHolds .depthExceeded (portLocus p) = true) ∧ t.roster.flags = t.causedFlags ∧
      t.roster.entries = s.roster.entries ∧ t.ops = s.ops ∧ t.rescan = s.rescan ∧ State.portFrame p s t := by
  have arrives := carrier_arrives settling runs
  generalize found : s.withD p { s.dl p with filter := { (s.dl p).filter with state := .present, timer := none } } = t at arrives
  have dl : (Hap.start t).dl p = { s.dl p with filter := { (s.dl p).filter with state := .present, timer := none } } := by
    rw [← found]
    exact withD_dl_self p _
  have tier' : (Hap.start t).tier = some n := by
    rw [← found]
    cases p <;> exact tier
  have probe : probeMsg (Hap.start t).toState p = .probe (byteOf n) (s.ownPath ++ [p]) := by
    have own : (Hap.start t).toState.ownTier = n := by simp [State.ownTier, tier']
    have path : (Hap.start t).toState.ownPath = s.ownPath := by
      rw [← found]
      cases p <;> rfl
    rw [probeMsg, own, path]
  have down' : ((Hap.start t).dl p).state = .down := dl ▸ down
  have present : ((Hap.start t).dl p).filter.state = .present := dl ▸ rfl
  have due := reexamine_due tier' down' present
  have depth := reexamine_depth tier' down' present
  obtain ⟨ev, entered, drain, flags, shape⟩ := reexamine_shape tier' p
  have moved : Moves (portParts p) (Hap.start s) (reexamine p (Hap.start t)) := by
    rw [← found, ← setD_start]
    exact (moves_setD _ _).trans (moves_reexamine _)
  generalize examined : reexamine p (Hap.start t) = h at arrives due depth shape moved
  have roster : h.roster = s.roster := by
    rw [shape, ← found]
    cases p <;> rfl
  have scratch : h.resetDue = none ∧ h.settleDue = false ∧ h.dirty = false ∧ h.ops = s.ops ∧ h.rescan = s.rescan := by
    rw [shape, ← found]
    cases p <;> exact ⟨rfl, rfl, rfl, rfl, rfl⟩
  obtain ⟨none, settled, clean, ops, rescan⟩ := scratch
  have unmarked : ∀ q, h.roster.marker q = false := fun q => by
    rw [roster]
    cases q
    · exact m1
    · exact m2
  refine ⟨_, congrArg (fun h => Host.Outcome.next (finish h)) arrives, ?_⟩
  rw [finish_eq none]
  refine ⟨(closing_port (unmarked p)).trans ?_, fun deep => ?_, closing_flags (unmarked .d1) (unmarked .d2) due,
    (closing_entries settled).trans (congrArg Roster.entries roster), (closing_ops h).trans ops, (closing_rescan h).trans rescan,
    portFrame_of (.inl rfl) moved fun _ _ q _ => unmarked q⟩
  · have port : h.dl p = ((Hap.start t).dl p).examined n (probeMsg (Hap.start t).toState p) := by
      rw [shape]
      exact setD_dl_self _
    rw [port, DLink.examined, if_pos ⟨down', present⟩, probe, dl]
  · obtain ⟨a, x, r, l, ev'⟩ := behindRecovery_ev h
    show (closing h).ev.localHolds _ _ = true
    rw [closing_clean settled clean, ev']
    exact depth deep

end

end Sys2Proof.Machine
end

section
/-! PROOF. The teardown of a D port and of U (R115, R116): what each leaves. -/

namespace Sys2Proof.Machine

section
variable {h : Hap} {p q : DPort}

/-! ### FORWARDs that wait on the port (R115 step 1) -/

/-- A late reply moves the host link alone. -/
theorem lateReply_shape (op tag : Byte) (kind : ReplyKind) (payload : List Byte) (h : Hap) :
    ∃ host, lateReply op tag kind payload h = { h with host := host } := by
  have stored : ∃ host, storeLate op (replyFrame tag kind payload) h = { h with host := host } := by
    unfold storeLate
    split
    · exact ⟨h.host, rfl⟩
    · split
      · split
        · exact ⟨_, rfl⟩
        · exact ⟨h.host, rfl⟩
      · exact ⟨h.host, rfl⟩
  obtain ⟨host, same⟩ := stored
  unfold lateReply
  simp only [same]
  split
  · exact ⟨_, rfl⟩
  · exact ⟨host, rfl⟩

/-- A reply passed up frees its entry and moves what is handed to the host and to U. -/
theorem passUp_shape (e : OpEntry) (kind : ReplyKind) (payload : List Byte) (h : Hap) :
    ∃ host tx k, passUp e kind payload h =
      { h with ops := h.ops.release e.op, host := host, u := { h.u with tx := tx, keepalive := k } } := by
  unfold passUp
  cases e.origin with
  | upstream tag => exact ⟨h.host, _, _, rfl⟩
  | host tag =>
    obtain ⟨host, same⟩ := lateReply_shape e.op tag kind payload (freeOpEntry e.op h)
    exact ⟨host, h.u.tx, h.u.keepalive, same⟩

/-- A reply to this part's host leaves U alone. -/
theorem passUp_u {e : OpEntry} {tag : Byte} (origin : e.origin = .host tag) (kind : ReplyKind) (payload : List Byte) (h : Hap) :
    (passUp e kind payload h).u = h.u := by
  obtain ⟨host, same⟩ := lateReply_shape e.op tag kind payload (freeOpEntry e.op h)
  simp only [passUp, origin, same]
  rfl

/-- The FORWARDs whose hop was sent on a port. -/
def OpEntry.onPort (p : DPort) (e : OpEntry) : Bool := decide (e.kind = .forward) && decide (e.hopPort = some p)

theorem loseForwards_shape (p : DPort) (h : Hap) : ∃ host tx k, loseForwards p h =
    { h with ops := ((h.ops.entries.filter (OpEntry.onPort p)).map OpEntry.op).foldl OpTable.release h.ops, host := host,
             u := { h.u with tx := tx, keepalive := k } } := by
  have all : ∀ (es : List OpEntry) (g : Hap), ∃ host tx k, es.foldl (fun g e => passRefusal e .forwardLinkLost g) g =
      { g with ops := (es.map OpEntry.op).foldl OpTable.release g.ops, host := host,
               u := { g.u with tx := tx, keepalive := k } } := by
    intro es
    induction es with
    | nil => exact fun g => ⟨g.host, g.u.tx, g.u.keepalive, rfl⟩
    | cons e t ih =>
      intro g
      obtain ⟨host, tx, k, passed⟩ := passUp_shape e .refused (refCode .forwardLinkLost :: be16 (word16Of g.ownTier)) g
      obtain ⟨host', tx', k', rest⟩ := ih (passRefusal e .forwardLinkLost g)
      refine ⟨host', tx', k', ?_⟩
      rw [List.foldl_cons, rest, passRefusal, passed]
      rfl
  exact all _ h

/-- Where no FORWARD of the parent's waits, the answers go to this part's host and U is left alone. -/
theorem loseForwards_u (own : ∀ e ∈ h.ops.entries, e.upstreamForward = false) : (loseForwards p h).u = h.u := by
  have all : ∀ (es : List OpEntry) (g : Hap), (∀ e ∈ es, e.kind = .forward ∧ e.upstreamForward = false) →
      (es.foldl (fun g e => passRefusal e .forwardLinkLost g) g).u = g.u := by
    intro es
    induction es with
    | nil => exact fun g _ => rfl
    | cons e t ih =>
      intro g each
      obtain ⟨forward, here⟩ := each e List.mem_cons_self
      rw [List.foldl_cons, ih _ fun x m => each x (List.mem_cons_of_mem e m), passRefusal]
      cases origin : e.origin with
      | host tag => exact passUp_u origin ..
      | upstream tag => simp [OpEntry.upstreamForward, forward, origin] at here
  refine all _ h fun e mem => ?_
  obtain ⟨mem, waits⟩ := List.mem_filter.mp mem
  exact ⟨of_decide_eq_true (Bool.and_eq_true_iff.mp waits).1, own e mem⟩

theorem mem_release {t : OpTable} {op : Byte} {e : OpEntry} : e ∈ (t.release op).entries ↔ e ∈ t.entries ∧ e.op ≠ op := by
  simp [OpTable.release, List.mem_filter]

theorem mem_releases {e : OpEntry} : ∀ {ops : List Byte} {t : OpTable},
    e ∈ (ops.foldl OpTable.release t).entries ↔ e ∈ t.entries ∧ e.op ∉ ops
  | [], t => by simp
  | op :: rest, t => by
    rw [List.foldl_cons, mem_releases, mem_release, List.mem_cons, not_or, and_assoc]

/-! ### The teardown of a D port (R115) -/

/-- What the first steps of R115 leave: the FORWARDs answered, the entries and remote conditions gone, the marker cleared
and a rescan gone on without the port. -/
def lostPort (p : DPort) (h : Hap) : Hap :=
  rescanLeave p false (endRemotesOf p (clearRefused p
    (remoteRemoveAll (portKeys p (loseForwards p h).roster.entries) .linkLost (loseForwards p h))))

theorem moves_lostPort : Moves (portParts p) (loseForwards p h) (lostPort p h) := by
  have removed := moves_removePort (p := p) (loseForwards p h) (Entry.via p) (fun _ => id) .linkLost
  exact ((removed.trans ((moves_clearRefused _).stored p)).trans (moves_endRemotesOf _)).trans (moves_rescanLeave _ _ _)

/-- The teardown's last steps move the port's own record and the event unit. -/
theorem downTeardown_shape (p : DPort) (reason : LossReason) (reset : Bool) (h : Hap) :
    ∃ ev entered drain, downTeardown p reason reset h =
      { (lostPort p h).setD p (if reset then ((lostPort p h).dl p).down.send .linkReset else ((lostPort p h).dl p).down) with
        flagsDue := true, ev := ev, entered := entered, drainDue := drain } := by
  unfold downTeardown lostPort
  simp only
  generalize rescanLeave p false (endRemotesOf p (clearRefused p (remoteRemoveAll
    (portKeys p (loseForwards p h).roster.entries) .linkLost (loseForwards p h)))) = g
  have sent : (if reset = true then sendD p .linkReset { g.setD p (g.dl p).down with flagsDue := true }
      else { g.setD p (g.dl p).down with flagsDue := true }) =
      { g.setD p (if reset = true then (g.dl p).down.send .linkReset else (g.dl p).down) with flagsDue := true } := by
    cases reset <;> cases p <;> rfl
  rw [sent]
  refine shape_of_offEv (h := { g.setD p (if reset = true then (g.dl p).down.send .linkReset else (g.dl p).down) with
    flagsDue := true }) ?_
  split <;> split <;> simp

theorem endRemotesOf_shape (p : DPort) (h : Hap) :
    ∃ ev entered drain, endRemotesOf p h = { h with ev := ev, entered := entered, drainDue := drain } :=
  shape_of_offEv (endRemotesOf_offEv h p)

theorem portKeys_remote {es : List Entry} {k : Key} (mem : k ∈ portKeys p es) : k.path ≠ [] := by
  obtain ⟨e, me, rfl⟩ := List.mem_map.mp mem
  exact via_remote (List.mem_filter.mp me).2

/-- The first steps leave the ports alone. -/
theorem lostPort_dl (p q : DPort) (h : Hap) : (lostPort p h).dl q = h.dl q := by
  obtain ⟨host, tx, k, lost⟩ := loseForwards_shape p h
  have removed := (moves_remoteRemoveAll (loseForwards p h) (fun _ => portKeys_remote (p := p)
    (es := (loseForwards p h).roster.entries)) .linkLost).frame (.port q) rfl
  have cleared := (moves_clearRefused (p := p) (remoteRemoveAll (portKeys p (loseForwards p h).roster.entries) .linkLost
    (loseForwards p h))).frame (.port q) rfl
  obtain ⟨e1, n1, d1, ended⟩ := endRemotesOf_shape p (clearRefused p
    (remoteRemoveAll (portKeys p (loseForwards p h).roster.entries) .linkLost (loseForwards p h)))
  obtain ⟨e2, n2, d2, o2, r2, left, -⟩ := rescanLeave_shape p false (endRemotesOf p (clearRefused p
    (remoteRemoveAll (portKeys p (loseForwards p h).roster.entries) .linkLost (loseForwards p h))))
  have start : (loseForwards p h).dl q = h.dl q := by rw [lost]; rfl
  have ends : (lostPort p h).dl q = (clearRefused p
    (remoteRemoveAll (portKeys p (loseForwards p h).roster.entries) .linkLost (loseForwards p h))).dl q := by
    rw [lostPort, left, ended]
    rfl
  exact ends.trans (Eq.trans cleared (Eq.trans removed start))

/-- The port's entries are gone, and no other. -/
theorem lostPort_keys (p : DPort) (h : Hap) :
    (lostPort p h).roster.keys = h.roster.keys.filter fun k => decide (k ∉ portKeys p h.roster.entries) := by
  obtain ⟨host, tx, k, lost⟩ := loseForwards_shape p h
  obtain ⟨e1, n1, d1, ended⟩ := endRemotesOf_shape p (clearRefused p
    (remoteRemoveAll (portKeys p (loseForwards p h).roster.entries) .linkLost (loseForwards p h)))
  obtain ⟨e2, n2, d2, o2, r2, left, -⟩ := rescanLeave_shape p false (endRemotesOf p (clearRefused p
    (remoteRemoveAll (portKeys p (loseForwards p h).roster.entries) .linkLost (loseForwards p h))))
  have roster : (loseForwards p h).roster = h.roster := by rw [lost]
  have ends : (lostPort p h).roster.entries = (remoteRemoveAll (portKeys p (loseForwards p h).roster.entries) .linkLost
      (loseForwards p h)).roster.entries := by
    rw [lostPort, left, ended]
    exact clearRefused_entries p _
  calc (lostPort p h).roster.keys
      = (remoteRemoveAll (portKeys p (loseForwards p h).roster.entries) .linkLost (loseForwards p h)).roster.keys :=
        congrArg (List.map Entry.key) ends
    _ = _ := by rw [keys_remoteRemoveAll, roster]

/-- A rescan that does not wait for a port stands (R138). -/
theorem rescanLeave_out {synced : Bool} (out : ∀ r, h.rescan = some r → p ∉ r.ports) : rescanLeave p synced h = h := by
  cases running : h.rescan with
  | none => simp only [rescanLeave, running]
  | some r =>
    have free : r.ports.contains p = false := by simpa using out r running
    simp only [rescanLeave, running, free, Bool.false_eq_true, if_false]

/-- The last port a rescan waits for ends it. -/
theorem rescanLeave_last {synced : Bool} {r : Rescan} (running : h.rescan = some r) (waits : p ∈ r.ports)
    (last : ∀ q ∈ r.ports, q = p) :
    rescanLeave p synced h =
      opDone none r.op (word16Of (if synced then r.synced + 1 else r.synced)) { h with rescan := none } := by
  have none_left : (r.ports.filter fun q => decide (q ≠ p)).isEmpty = true := by simpa using last
  simp only [rescanLeave, running, List.contains_iff_mem.mpr waits, none_left, if_true]

/-- A rescan that waits for another port too goes on with that. -/
theorem rescanLeave_more {synced : Bool} {r : Rescan} (running : h.rescan = some r) (waits : p ∈ r.ports)
    (more : ¬ ∀ q ∈ r.ports, q = p) :
    rescanLeave p synced h = { h with rescan := some { r with
      ports := r.ports.filter fun q => decide (q ≠ p), synced := if synced then r.synced + 1 else r.synced } } := by
  have some_left : (r.ports.filter fun q => decide (q ≠ p)).isEmpty = false := by simpa using more
  simp only [rescanLeave, running, List.contains_iff_mem.mpr waits, some_left, if_true, Bool.false_eq_true, if_false]

theorem rescanLeave_ops {synced : Bool} {e : OpEntry} (mem : e ∈ (rescanLeave p synced h).ops.entries) : e ∈ h.ops.entries := by
  by_cases out : ∀ r, h.rescan = some r → p ∉ r.ports
  · rwa [rescanLeave_out out] at mem
  · push Not at out
    obtain ⟨r, running, waits⟩ := out
    by_cases last : ∀ q ∈ r.ports, q = p
    · obtain ⟨ev, entered, drain, done⟩ := opDone_shape none r.op (word16Of (if synced then r.synced + 1 else r.synced))
        { h with rescan := none }
      rw [rescanLeave_last running waits last, done] at mem
      exact (mem_release.mp mem).1
    · rwa [rescanLeave_more running waits last] at mem

/-- The operations that the first steps find, before the rescan is left. -/
theorem beforeLeave_ops (p : DPort) (h : Hap) : (endRemotesOf p (clearRefused p
    (remoteRemoveAll (portKeys p (loseForwards p h).roster.entries) .linkLost (loseForwards p h)))).ops =
      ((h.ops.entries.filter (OpEntry.onPort p)).map OpEntry.op).foldl OpTable.release h.ops := by
  obtain ⟨host, tx, k, lost⟩ := loseForwards_shape p h
  have removed := (moves_remoteRemoveAll (loseForwards p h) (fun _ => portKeys_remote (p := p)
    (es := (loseForwards p h).roster.entries)) .linkLost).frame .ops rfl
  have cleared := (moves_clearRefused (p := p) (remoteRemoveAll (portKeys p (loseForwards p h).roster.entries) .linkLost
    (loseForwards p h))).frame .ops rfl
  obtain ⟨e1, n1, d1, ended⟩ := endRemotesOf_shape p (clearRefused p
    (remoteRemoveAll (portKeys p (loseForwards p h).roster.entries) .linkLost (loseForwards p h)))
  rw [ended]
  exact Eq.trans cleared (Eq.trans removed (by rw [lost]))

/-- Operations end or stand; none is begun. -/
theorem lostPort_ops {e : OpEntry} (mem : e ∈ (lostPort p h).ops.entries) : e ∈ h.ops.entries := by
  have before := rescanLeave_ops mem
  rw [beforeLeave_ops] at before
  exact (mem_releases.mp before).1

/-! ### What a teardown leaves (R115) -/

section
variable {reason : LossReason} {reset : Bool}

theorem downTeardown_dl_self : ((downTeardown p reason reset h).dl p).state = .down ∧
    ((downTeardown p reason reset h).dl p).filter = (h.dl p).filter := by
  obtain ⟨ev, entered, drain, same⟩ := downTeardown_shape p reason reset h
  have dl : (downTeardown p reason reset h).dl p =
      if reset then ((lostPort p h).dl p).down.send .linkReset else ((lostPort p h).dl p).down := by
    rw [same]
    exact setD_dl_self _
  rw [dl, lostPort_dl]
  cases reset <;> exact ⟨rfl, rfl⟩

theorem downTeardown_dl_ne (ne : p ≠ q) : (downTeardown p reason reset h).dl q = h.dl q := by
  obtain ⟨ev, entered, drain, same⟩ := downTeardown_shape p reason reset h
  have dl : (downTeardown p reason reset h).dl q = (lostPort p h).dl q := by
    rw [same]
    exact setD_dl_ne _ ne
  rw [dl, lostPort_dl]

theorem downTeardown_keys : (downTeardown p reason reset h).roster.keys =
    h.roster.keys.filter fun k => decide (k ∉ portKeys p h.roster.entries) := by
  obtain ⟨ev, entered, drain, same⟩ := downTeardown_shape p reason reset h
  rw [← lostPort_keys, same]
  cases p <;> rfl

theorem downTeardown_ops {e : OpEntry} (mem : e ∈ (downTeardown p reason reset h).ops.entries) : e ∈ h.ops.entries := by
  obtain ⟨ev, entered, drain, same⟩ := downTeardown_shape p reason reset h
  rw [same] at mem
  exact lostPort_ops (p := p) (by cases p <;> exact mem)

theorem moves_lostChild : Moves (portParts p) (loseForwards p h) (downTeardown p reason reset h) := by
  unfold downTeardown
  simp only
  refine Moves.when ?_ fun _ => (moves_endCond _ _ _).evPort
  refine Moves.when ?_ fun _ => (moves_raiseLatched _ _ _ _).evPort
  refine Moves.when ?_ fun _ => moves_sendD (p := p) _ _
  exact (moves_lostPort.trans (moves_setD _ _)).trans (moves_due _)

/-- What moves with a D port leaves U alone. -/
theorem u_of_moves {g g' : Hap} (m : Moves (portParts p) g g') : g'.u = g.u := by
  have filter := m.frame .uFilter rfl
  have rx := m.frame .uRx rfl
  have loss := m.frame .uLoss rfl
  have tier := m.frame .uTier rfl
  have state := m.frame .uState rfl
  have out := m.frame .uOut rfl
  have dump := m.frame .uDump rfl
  have deltas := m.frame .uDeltas rfl
  simp only [Part.same, Prod.mk.injEq] at filter rx loss tier state out dump deltas
  have eta : ∀ u : ULink, u = ⟨u.state, u.filter, u.rx, u.tx, u.keepalive, u.loss, u.recTier, u.recPath, u.tierKnown, u.dumpPhase,
    u.dumpCause, u.dumpList, u.cursor, u.ackTimer, u.deltas, u.nextSeq, u.retransmit⟩ := fun _ => rfl
  rw [eta g'.u, filter, rx, loss, tier.1, tier.2.1, tier.2.2, state, out.1, out.2, dump.1, dump.2.1, dump.2.2.1, dump.2.2.2.1,
    dump.2.2.2.2, deltas.1, deltas.2.1, deltas.2.2]

theorem downTeardown_u (own : ∀ e ∈ h.ops.entries, e.upstreamForward = false) : (downTeardown p reason reset h).u = h.u :=
  (u_of_moves moves_lostChild).trans (loseForwards_u own)

theorem downTeardown_reset : (downTeardown p reason reset h).resetDue = h.resetDue := by
  obtain ⟨host, tx, k, lost⟩ := loseForwards_shape p h
  exact (moves_lostChild.frame .resetDue rfl).trans (by rw [lost])

end

end

end Sys2Proof.Machine
end

section
/-! PROOF. The loss of a branch's parent (O42), and a PROBE on a running link (O40). -/

namespace Sys2Proof.Machine

section
variable {h : Hap} {p q : DPort}

/-! ### The drain's notes (R151, R152) -/

/-- Nothing is in flight and nothing waits to be cleared. -/
def Hap.drained (h : Hap) : Prop := h.ev.inFlight = none ∧ h.ev.reported = [] ∧ h.ev.retransmit = none

theorem drained_congr {g : Hap} (ev : g.ev = h.ev) (d : h.drained) : g.drained := by
  unfold Hap.drained
  rwa [ev]

theorem raise_drained (o : Occ) (d : h.drained) : (raise o h).drained := by
  obtain ⟨q, c, l, same⟩ := raise_ev o h
  unfold Hap.drained
  rwa [same]

theorem withdrawClear_drained (k : EvKind) (l : Locus) (d : h.drained) : (withdrawClear k l h).drained := by
  obtain ⟨flight, reported, retransmit⟩ := d
  unfold withdrawClear
  split
  · exact ⟨flight, reported, retransmit⟩
  · exact ⟨flight, by simp [reported], retransmit⟩

theorem markEnded_drained (k : EvKind) (l : Locus) (d : h.drained) : (markEnded k l h).drained := by
  have absent : h.ev.reported.find? (Reported.is k l) = none := by rw [d.2.1]; rfl
  rwa [markEnded, absent]

theorem setCond_drained (k : EvKind) (l : Locus) (b : Bool) (d : h.drained) : (setCond k l b h).drained := by
  unfold setCond beginCond endCond
  split
  · split
    · exact d
    · simp only
      split
      · exact d
      · exact raise_drained _ (withdrawClear_drained _ _ d)
  · split
    · simp only
      split
      · exact d
      · exact markEnded_drained _ _ d
    · exact d

theorem grantLoop_ev : ∀ (n : Nat) (h : Hap), (grantLoop n h).ev = h.ev
  | 0, _ => rfl
  | n + 1, h => by
    unfold grantLoop
    split
    · split
      · exact grantLoop_ev n _
      · rfl
    · rfl

theorem settleIfDue_drained (d : h.drained) : (settleIfDue h).drained := by
  unfold settleIfDue
  split
  · exact setCond_drained (h := grantLoop h.budget.waiting.length h) .grantBlocked rackLocus
      (grantLoop h.budget.waiting.length h).blocked (drained_congr (grantLoop_ev _ h) d)
  · exact d

theorem clearRefused_drained (d : h.drained) : (clearRefused p h).drained := by
  unfold clearRefused reckonOverflow
  split
  · exact setCond_drained _ _ _ d
  · exact d

theorem askDump_ev (p : DPort) (h : Hap) : (askDump p h).ev = h.ev := by
  unfold askDump
  simp only
  split
  · cases p <;> rfl
  · rfl

theorem overflowRecovery_drained (d : h.drained) : (overflowRecovery h).drained := by
  have recovered : ∀ (p : DPort) (g : Hap), g.drained → (recoverPort p g).drained := fun p g d => by
    unfold recoverPort
    split
    · exact clearRefused_drained (drained_congr (askDump_ev p g) d)
    · exact d
  rw [overflowRecovery_eq]
  split
  · exact recovered _ _ (recovered _ _ d)
  · exact d

/-! ### The end of a happening that has taken U down -/

theorem overflowRecovery_u (h : Hap) : (overflowRecovery h).u = h.u := by
  rw [overflowRecovery_eq]
  split
  · exact (u_of_moves (moves_recoverPort (p := .d2) _)).trans (u_of_moves (moves_recoverPort (p := .d1) h))
  · rfl

theorem behindRecovery_down (down : h.u.state = .down) : behindRecovery h =
    attend (advanceGeneration (recomputeFlags h)) := by
  have u : (advanceGeneration (recomputeFlags h)).u = h.u := by rw [advanceGeneration_u, recomputeFlags_u]
  have handed : handUpward (advanceGeneration (recomputeFlags h)) = advanceGeneration (recomputeFlags h) := by
    simp [handUpward, u, down, LinkState.active]
  have sent : sendDeltasIfDue (advanceGeneration (recomputeFlags h)) = advanceGeneration (recomputeFlags h) := by
    simp [sendDeltasIfDue, u, down]
  have drained : drainIfDue (advanceGeneration (recomputeFlags h)) = advanceGeneration (recomputeFlags h) :=
    drainIfDue_held (.inr (.inr (by simp [u, down])))
  rw [behindRecovery, handed, sent, drained]

theorem closing_down (down : h.u.state = .down) (d : h.drained) : (closing h).u = h.u ∧ (closing h).drained := by
  have u : (overflowRecovery (settleIfDue h)).u = h.u := (overflowRecovery_u _).trans (settleIfDue_u h)
  have quiet : (overflowRecovery (settleIfDue h)).drained := overflowRecovery_drained (settleIfDue_drained d)
  rw [closing_behind, behindRecovery_down (u ▸ down)]
  generalize overflowRecovery (settleIfDue h) = g at u quiet
  have ev : (advanceGeneration (recomputeFlags g)).ev = g.ev := by
    unfold advanceGeneration recomputeFlags
    split <;> split <;> rfl
  refine ⟨by rw [attend_u, advanceGeneration_u, recomputeFlags_u, u], ?_⟩
  have kept : (advanceGeneration (recomputeFlags g)).drained := drained_congr ev quiet
  obtain ⟨a, same | ⟨x, same⟩⟩ := attend_shape (advanceGeneration (recomputeFlags g)) <;> rw [same] <;> exact kept

/-! ### The teardown of a port below (R116) -/

theorem tearBelow_cases (h : Hap) (p : DPort) :
    (h.dl p).state = .down ∧ tearBelow h p = h ∨
      (h.dl p).state ≠ .down ∧ ∃ reset, tearBelow h p = downTeardown p .upstream reset h := by
  unfold tearBelow
  split
  · next down => exact .inl ⟨down, rfl⟩
  all_goals
    next state => exact .inr ⟨by rw [state]; nofun, _, rfl⟩

/-- What the teardown of a port below leaves. -/
structure Below (p : DPort) (h g : Hap) : Prop where
  state : (g.dl p).state = .down
  filters : ∀ q, (g.dl q).filter = (h.dl q).filter
  other : ∀ q, q ≠ p → g.dl q = h.dl q
  keys : ∀ k ∈ g.roster.keys, k ∈ h.roster.keys ∧ ((h.dl p).state ≠ .down → k.path.head? ≠ some p)
  sub : g.roster.keys.Sublist h.roster.keys
  ops : ∀ e ∈ g.ops.entries, e ∈ h.ops.entries
  u : (∀ e ∈ h.ops.entries, e.upstreamForward = false) → g.u = h.u
  reset : g.resetDue = h.resetDue

theorem head_of_portKeys {k : Key} {es : List Entry} (held : k ∈ es.map Entry.key) (out : k ∉ portKeys p es) :
    k.path.head? ≠ some p := by
  obtain ⟨e, mem, rfl⟩ := List.mem_map.mp held
  exact fun via => out (List.mem_map_of_mem (List.mem_filter.mpr ⟨mem, decide_eq_true via⟩))

theorem tearBelow_below (h : Hap) (p : DPort) : Below p h (tearBelow h p) := by
  obtain ⟨down, same⟩ | ⟨up, reset, same⟩ := tearBelow_cases h p <;> rw [same]
  · exact ⟨down, fun _ => rfl, fun _ _ => rfl, fun k mem => ⟨mem, fun off => absurd down off⟩, .refl _, fun _ => id, fun _ => rfl, rfl⟩
  · have filters : ∀ q, ((downTeardown p .upstream reset h).dl q).filter = (h.dl q).filter := fun q => by
      by_cases own : p = q
      · exact own ▸ downTeardown_dl_self.2
      · rw [downTeardown_dl_ne own]
    refine ⟨downTeardown_dl_self.1, filters, fun q ne => downTeardown_dl_ne (Ne.symm ne), fun k mem => ?_,
      downTeardown_keys ▸ List.filter_sublist, fun _ => downTeardown_ops, downTeardown_u, downTeardown_reset⟩
    rw [downTeardown_keys] at mem
    obtain ⟨held, out⟩ := List.mem_filter.mp mem
    exact ⟨held, fun _ => head_of_portKeys held (of_decide_eq_true out)⟩

/-! ### The teardown of U (R116) -/

/-- What the teardown of U leaves for the end of its happening. -/
structure Severed (h g : Hap) : Prop where
  u : g.u = { h.u with tierKnown := false, recTier := none, recPath := none }.down
  ports : ∀ p, (g.dl p).state = .down ∧ (g.dl p).filter = (h.dl p).filter
  keys : ∀ k ∈ g.roster.keys, k ∈ h.roster.keys ∧ ∀ p, (h.dl p).state ≠ .down → k.path.head? ≠ some p
  sub : g.roster.keys.Sublist h.roster.keys
  ops : ∀ e ∈ g.ops.entries, e ∈ h.ops.entries ∧ e.upstreamForward = false
  drained : g.drained
  reset : g.resetDue = h.resetDue.or h.u.tx.waitingReset

theorem upTeardown_severed (h : Hap) : Severed h (upTeardown h) := by
  generalize freed : ({ h with
    ops := { h.ops with entries := h.ops.entries.filter fun e => !e.upstreamForward },
    u := { h.u with tierKnown := false, recTier := none, recPath := none } } : Hap) = a
  have same : upTeardown h = { dropDrain (tearBelow (tearBelow a .d1) .d2) with
      u := (dropDrain (tearBelow (tearBelow a .d1) .d2)).u.down,
      resetDue := (dropDrain (tearBelow (tearBelow a .d1) .d2)).resetDue.or
        (dropDrain (tearBelow (tearBelow a .d1) .d2)).u.tx.waitingReset } := by
    rw [← freed]
    rfl
  have one := tearBelow_below a .d1
  have two := tearBelow_below (tearBelow a .d1) .d2
  generalize tearBelow a .d1 = b at same one two
  generalize tearBelow b .d2 = c at same two
  have own : ∀ e ∈ a.ops.entries, e.upstreamForward = false := fun e mem => by
    rw [← freed] at mem
    simpa using (List.mem_filter.mp mem).2
  have u : c.u = a.u := (two.u fun e mem => own e (one.ops e mem)).trans (one.u own)
  have reset : c.resetDue = a.resetDue := two.reset.trans one.reset
  have dl : ∀ p, a.dl p = h.dl p := fun p => by
    rw [← freed]
    cases p <;> rfl
  have second : (c.dl .d1) = b.dl .d1 := two.other .d1 nofun
  have first : (b.dl .d2) = a.dl .d2 := one.other .d2 nofun
  rw [same]
  refine ⟨?_, fun p => ?_, fun k mem => ?_, ?_, fun e mem => ?_, ⟨rfl, rfl, rfl⟩, ?_⟩
  · show c.u.down = _
    rw [u, ← freed]
  · show (c.dl p).state = .down ∧ (c.dl p).filter = (h.dl p).filter
    refine ⟨?_, (two.filters p).trans ((one.filters p).trans (by rw [dl]))⟩
    cases p with
    | d1 => exact second ▸ one.state
    | d2 => exact two.state
  · obtain ⟨held, off2⟩ := two.keys k mem
    obtain ⟨held, off1⟩ := one.keys k held
    refine ⟨by rwa [← freed] at held, fun p up => ?_⟩
    cases p with
    | d1 => exact off1 (dl .d1 ▸ up)
    | d2 => exact off2 (first ▸ dl .d2 ▸ up)
  · have sub := two.sub.trans one.sub
    rwa [← freed] at sub
  · have held := one.ops e (two.ops e mem)
    have kept := held
    rw [← freed] at held
    exact ⟨(List.mem_filter.mp held).1, own e kept⟩
  · show c.resetDue.or c.u.tx.waitingReset = _
    rw [u, reset, ← freed]

/-- A port in no state that takes messages is not asked for a dump: the end of a happening leaves it alone. -/
theorem closing_dl_inactive (off : (h.dl p).state.active = false) : (closing h).dl p = h.dl p := by
  have asked : ∀ (q : DPort) (g : Hap), (g.dl p).state.active = false → (recoverPort q g).dl p = g.dl p := fun q g off => by
    by_cases own : p = q
    · subst own
      have same : askDump p g = g := by simp only [askDump, off, Bool.false_eq_true, if_false]
      unfold recoverPort
      split
      · exact ((moves_clearRefused _).frame (.port p) rfl).trans (by rw [same])
      · rfl
    · exact (moves_recoverPort (p := q) g).frame (.port p) (by simp [portParts, own])
  have settled : (settleIfDue h).dl p = h.dl p := (moves_settleIfDue h).frame (.port p) rfl
  have recovered : (overflowRecovery (settleIfDue h)).dl p = h.dl p := by
    rw [overflowRecovery_eq]
    split
    · have first := (asked .d1 (settleIfDue h) (settled.symm ▸ off)).trans settled
      exact (asked .d2 _ (first.symm ▸ off)).trans first
    · exact settled
  exact ((moves_behindRecovery _).frame (.port p) rfl).trans recovered

/-- What the links move leaves of the state, with the end of the happening. -/
theorem linkFrame_of {s : State} (m : Moves linkParts (Hap.start s) h) :
    (closing h).slots = s.slots ∧ (closing h).targets = s.targets ∧ (closing h).filters = s.filters ∧
      (closing h).desc = s.desc ∧ (closing h).rack = s.rack ∧ (closing h).role = s.role ∧ (closing h).pending = s.pending ∧
      (closing h).budget.units = s.budget.units := by
  have all := m.trans (moves_closing h).endLink
  have vec : ∀ {α : Type} {v w : Vector α 10}, (∀ j : SlotId, v[j] = w[j]) → v = w := fun e =>
    Vector.ext fun j hj => e ⟨j, hj⟩
  have copies := all.frame .copies rfl
  have commit := all.frame .commit rfl
  simp only [Part.same, Prod.mk.injEq] at copies commit
  have descEta : ∀ d : Desc, d = ⟨d.staging, d.bank0, d.bank1, d.live, d.commit⟩ := fun _ => rfl
  refine ⟨vec fun j => all.frame (.slot j) rfl, vec fun j => all.frame (.target j) rfl, vec fun j => all.frame (.filter j) rfl,
    ?_, all.frame .rack rfl, all.frame .role rfl, all.frame .pending rfl, all.frame .units rfl⟩
  rw [descEta (closing h).desc, copies.1, copies.2.1, copies.2.2.1, copies.2.2.2, commit]
  rfl

end

/-- The teardown of U, on a state in which its record alone may have moved before. -/
theorem severed_finish {s : State} {u : ULink} (tx : u.tx = s.u.tx) (waits : s.u.tx.waitingReset = none) :
    ∃ t, finish (upTeardown (Hap.start { s with u := u })) = t ∧ t.u.state = .down ∧
      t.u.tx = { cur := s.u.tx.cur, waiting := [] } ∧ t.u.loss = none ∧
      t.u.keepalive = none ∧ t.u.recTier = none ∧ t.u.recPath = none ∧ t.u.tierKnown = false ∧ t.u.dumpPhase = .none ∧
      t.u.deltas = [] ∧ (∀ e ∈ t.ops.entries, e.kind = .forward → ∃ tag, e.origin = .host tag) ∧
      (∀ p, (t.dl p).state = .down) ∧ (∀ p, (s.dl p).state ≠ .down → ∀ e ∈ t.roster.entries, e.via p = false) ∧
      t.ev.inFlight = none ∧ t.ev.reported = [] ∧ t.ev.retransmit = none ∧ t.slots = s.slots ∧ t.targets = s.targets ∧
      t.filters = s.filters ∧ t.desc = s.desc ∧ t.rack = s.rack ∧ t.role = s.role ∧ t.pending = s.pending ∧
      t.budget.units = s.budget.units := by
  have severed := upTeardown_severed (Hap.start { s with u := u })
  have moved := moves_upTeardown (Hap.start { s with u := u })
  generalize upTeardown (Hap.start { s with u := u }) = h at severed moved
  have none : h.resetDue = none := severed.reset.trans (show (Option.none).or u.tx.waitingReset = Option.none by rw [tx, waits]; rfl)
  have down : h.u.state = .down := by rw [severed.u]; rfl
  obtain ⟨link, flight, reported, retransmit⟩ := closing_down down severed.drained
  obtain ⟨slots, targets, filters, desc, rack, role, pending, units⟩ := linkFrame_of moved
  refine ⟨_, finish_eq none, ?_⟩
  rw [show (closing h).toState.u = _ from link.trans severed.u]
  refine ⟨rfl, congrArg (fun x : LinkTx => ({ cur := x.cur, waiting := [] } : LinkTx)) tx, rfl, rfl, rfl, rfl, rfl, rfl, rfl,
    fun e mem forward => ?_, fun p => ?_, fun p up e mem => ?_, flight, reported, retransmit, slots, targets, filters, desc, rack,
    role, pending, units⟩
  · obtain ⟨-, own⟩ := severed.ops e ((closing_ops h) ▸ mem)
    cases origin : e.origin with
    | host tag => exact ⟨tag, rfl⟩
    | upstream tag => simp [OpEntry.upstreamForward, forward, origin] at own
  · have port := (severed.ports p).1
    exact (congrArg DLink.state (closing_dl_inactive (h := h) (p := p) (by rw [port]; rfl))).trans port
  · have held : e.key ∈ h.roster.keys := (closing_keys h).1 ▸ List.mem_map_of_mem mem
    exact decide_eq_false ((severed.keys e.key held).2 p up)

theorem startUplink_keeps (tier : Byte) (path : Path) (h : Hap) :
    (startUplink tier path h).resetDue = h.resetDue ∧ (startUplink tier path h).u.filter = h.u.filter ∧
      ∀ p, (startUplink tier path h).dl p = h.dl p := by
  have dump : ∀ g : Hap, (beginDump .first g).resetDue = g.resetDue ∧ (beginDump .first g).u.filter = g.u.filter ∧
      ∀ p, (beginDump .first g).dl p = g.dl p := fun g =>
    have m := moves_beginDump g .first
    ⟨m.frame .resetDue rfl, m.frame .uFilter rfl, fun p => m.frame (.port p) rfl⟩
  exact dump _

/-- The commands by which U is lost tear it down, on a state in which its filter or its loss timer alone has moved. -/
theorem lostParent_tears {s : State} {c : Instr} (branch : s.role = .branch) (active : s.u.state.active = true)
    (lost : c = .linkReset .u ∨ c = .lossTimerExpiry .u ∧ s.u.loss ≠ none ∨
      c = .presenceInputChange (.carrier .u) false ∧ s.u.filter.state = .present) :
    ∃ u : ULink, exec c s = .next (finish (upTeardown (Hap.start { s with u := u }))) ∧ u.tx = s.u.tx ∧
      u.filter.raw = if c = .presenceInputChange (.carrier .u) false then false else s.u.filter.raw := by
  rcases lost with rfl | ⟨rfl, runs⟩ | ⟨rfl, present⟩
  · refine ⟨{ s.u with loss := some 60 }, linkRow_u ⟨branch, active⟩ .linkReset (if_pos active), rfl, ?_⟩
    rw [if_neg nofun]
  · obtain ⟨n, timer⟩ := Option.ne_none_iff_exists'.mp runs
    have expired : lossExpired .u (Hap.start s) = upTeardown (Hap.start s) := by
      have timer' : (Hap.start s).u.loss = some n := timer
      have active' : (Hap.start s).u.state.active = true := active
      simp only [lossExpired, lossExpiredU, timer', active', if_true]
    refine ⟨s.u, congrArg (fun h => Host.Outcome.next (finish h)) expired, rfl, ?_⟩
    rw [if_neg nofun]
  · have gone : lineLevel (.carrier .u) false (Hap.start s) =
        upTeardown (Hap.start { s with u := { s.u with filter := s.u.filter.level portSettle false } }) := by
      have departs : departed s.u.filter (s.u.filter.level portSettle false) = true := by
        simp [departed, Filter.carrier, Filter.level, present]
      refine if_pos ?_
      rw [Bool.and_eq_true, Bool.and_eq_true]
      exact ⟨⟨decide_eq_true branch, departs⟩, active⟩
    refine ⟨{ s.u with filter := s.u.filter.level portSettle false }, congrArg (fun h => Host.Outcome.next (finish h)) gone,
      rfl, ?_⟩
    rw [if_pos rfl]
    rfl

/-- What a soft reset restarts of the lines depends on their raw levels alone. -/
theorem resetFrom_congr {a b t : State} (filters : b.filters = a.filters) (u : b.u.filter.raw = a.u.filter.raw)
    (dl : ∀ p, (b.dl p).filter = (a.dl p).filter) (pending : b.pending = a.pending) (from_a : a.resetFrom t) : b.resetFrom t := by
  have line : ∀ i, b.filter i = a.filter i := fun i => congrArg (fun v : Vector Filter 10 => v[i]) filters
  simp only [State.resetFrom, line, dl, pending, Filter.restarted, u]
  exact from_a

/-- A happening that ends in a soft reset ends with the chapters' reset values (R170). -/
theorem reset_finish {s : State} {u : ULink} {h : Hap} {keep : Bool} {line : Filter} (due : h.resetDue = some keep)
    (m : Moves linkParts (Hap.start { s with u := u }) h) (raw : line.raw = h.u.filter.raw)
    (dl : ∀ p, (h.dl p).filter = (s.dl p).filter) :
    State.resetFrom { s with u := { s.u with filter := line } } (finish h) ∧ (finish h).role = s.role ∧
      (finish h).rate = s.rate ∧ (finish h).lineRate = s.lineRate ∧ (finish h).desc.commit = none ∧
      if keep then
        (finish h).desc.staging = s.desc.staging ∧ (finish h).desc.live = s.desc.live ∧
          (finish h).desc.liveBank = s.desc.liveBank ∧ ((finish h).desc.bank s.desc.live.other).blank
      else (finish h).desc.staging.blank ∧ (finish h).desc.bank0.blank ∧ (finish h).desc.bank1.blank ∧
        (finish h).desc.live = .bank0 := by
  have ends : finish h = softReset keep h.toState := by rw [finish, due]
  have filters : h.filters = s.filters := Vector.ext fun j hj => m.frame (.filter ⟨j, hj⟩) rfl
  have role : h.role = s.role := m.frame .role rfl
  have rate : h.rate = s.rate := m.frame .rate rfl
  have copies := m.frame .copies rfl
  have commit := m.frame .commit rfl
  simp only [Part.same, Prod.mk.injEq] at copies commit
  have descEta : ∀ d : Desc, d = ⟨d.staging, d.bank0, d.bank1, d.live, d.commit⟩ := fun _ => rfl
  have desc : h.toState.desc = s.desc := by
    rw [descEta h.toState.desc, copies.1, copies.2.1, copies.2.2.1, copies.2.2.2, commit]
    rfl
  have store := softReset_desc keep h.toState
  rw [desc] at store
  rw [ends]
  refine ⟨resetFrom_congr filters.symm raw (fun p => ?_) (m.frame .pending rfl).symm
    (resetFrom_resetTo _ _ _ h.toState), role, rate, congrArg Rate.baud rate, store.1, store.2⟩
  rw [dl]
  cases p <;> rfl

/-- A PROBE that passes on a running link takes the link down and starts it afresh (R113). -/
theorem probe_severs {s : State} {tier : Byte} {path : Path} (hears : s.hearsParent) (passes : probePasses s tier path = true) :
    takeActiveU (.probe tier path) (Hap.start (s.heard .u)) = startUplink tier path (upTeardown (Hap.start (s.heard .u))) := by
  have passes' : probePasses (Hap.start (s.heard .u)).toState tier path = true := passes
  have active : (Hap.start (s.heard .u)).u.state.active = true := hears.2
  simp only [takeActiveU, takeProbe, passes', active, if_true]

/-- Settles O42. -/
theorem lostParentTearsEverythingDown : Obligations.LostParentTearsEverythingDown := by
  unfold Obligations.LostParentTearsEverythingDown
  refine ⟨fun s c branch active waits lost => ?_, fun keep tier path line s c branch active waits lost => ?_⟩
  · obtain ⟨u, row, tx, -⟩ := lostParent_tears branch active lost
    obtain ⟨t, ends, facts⟩ := severed_finish tx waits
    exact ⟨t, row.trans (congrArg Host.Outcome.next ends), facts⟩
  · have torn : ∀ u : ULink, u.tx = s.u.tx → (upTeardown (Hap.start { s with u := u })).resetDue = some keep := fun u tx =>
      (upTeardown_severed _).reset.trans (show (none : Option Bool).or u.tx.waitingReset = some keep by rw [tx, waits]; rfl)
    have ports : ∀ u p, ((upTeardown (Hap.start { s with u := u })).dl p).filter = (s.dl p).filter := fun u p =>
      ((upTeardown_severed _).ports p).2.trans (by cases p <;> rfl)
    have link : ∀ u : ULink, (upTeardown (Hap.start { s with u := u })).u.filter = u.filter := fun u => by
      rw [(upTeardown_severed _).u]
      rfl
    have lostBy : (c = .linkReset .u ∨ c = .lossTimerExpiry .u ∧ s.u.loss ≠ none ∨
        c = .presenceInputChange (.carrier .u) false ∧ s.u.filter.state = .present) ∧
        line.raw = (if c = .presenceInputChange (.carrier .u) false then false else s.u.filter.raw) ∨
        c = .probe .u tier path ∧ probePasses s tier path = true ∧ line = s.u.filter := by
      rcases lost with ⟨rfl | ⟨rfl, runs⟩ | ⟨rfl, present, shallow, length⟩, rfl⟩ | ⟨rfl, present, rfl⟩
      · exact .inl ⟨.inl rfl, (if_neg nofun).symm⟩
      · exact .inl ⟨.inr (.inl ⟨rfl, runs⟩), (if_neg nofun).symm⟩
      · exact .inr ⟨rfl, by simp [probePasses, Filter.carrier, present, shallow, length], rfl⟩
      · exact .inl ⟨.inr (.inr ⟨rfl, present⟩), (if_pos rfl).symm⟩
    rcases lostBy with ⟨lost, raw⟩ | ⟨rfl, passes, rfl⟩
    · obtain ⟨u, row, tx, filter⟩ := lostParent_tears branch active lost
      refine ⟨_, row, reset_finish (torn u tx) (moves_upTeardown _) ?_ (ports u)⟩
      rw [link, raw, filter]
    · have taken := probe_severs (s := s) ⟨branch, active⟩ passes
      obtain ⟨due, filter, dl⟩ := startUplink_keeps tier path (upTeardown (Hap.start (s.heard .u)))
      refine ⟨_, linkRow_u ⟨branch, active⟩ (.probe tier path) taken, reset_finish (u := { s.u with loss := some 60 })
        (due.trans (torn { s.u with loss := some 60 } rfl)) ((moves_upTeardown _).trans (moves_startUplink _ _ _)) ?_ fun p => ?_⟩
      · exact congrArg Filter.raw ((filter.trans (link { s.u with loss := some 60 })).symm)
      · exact (congrArg DLink.filter (dl p)).trans (ports { s.u with loss := some 60 } p)

end Sys2Proof.Machine
end

section
/-! PROOF. A PROBE that starts a running link afresh, and the statement it belongs to (O40). -/

namespace Sys2Proof.Machine

section
variable {h : Hap}

/-! ### Entries that the settling of the waiting list can move (R96) -/

/-- Entries that differ from others at the slots' own keys alone. -/
def localDiffer (es es' : List Entry) : Prop := ∀ e ∈ es', e ∈ es ∨ e.key.path = []

theorem localDiffer.refl (es : List Entry) : localDiffer es es := fun _ mem => .inl mem

theorem localDiffer.trans {a b c : List Entry} (ab : localDiffer a b) (bc : localDiffer b c) : localDiffer a c := fun e mem =>
  (bc e mem).elim (ab e) .inr

theorem grantHead_differs (i : SlotId) (h : Hap) : localDiffer h.roster.entries (grantHead i h).roster.entries := by
  intro e mem
  obtain ⟨x, held, same⟩ := List.mem_map.mp (show e ∈ updateEntry (localKey i) _ h.roster.entries from mem)
  split at same
  · next own =>
    exact .inr (by rw [← same]; exact congrArg Key.path own)
  · exact .inl (same ▸ held)

theorem grantLoop_differs : ∀ (n : Nat) (h : Hap), localDiffer h.roster.entries (grantLoop n h).roster.entries
  | 0, h => .refl _
  | n + 1, h => by
    unfold grantLoop
    split
    · split
      · exact (grantHead_differs _ h).trans (grantLoop_differs n _)
      · exact .refl _
    · exact .refl _

theorem settleIfDue_differs (h : Hap) : localDiffer h.roster.entries (settleIfDue h).roster.entries ∧
    (settleIfDue h).base = h.base := by
  have base : ∀ (n : Nat) (g : Hap), (grantLoop n g).base = g.base := fun n => by
    induction n with
    | zero => exact fun _ => rfl
    | succ n ih =>
      intro g
      unfold grantLoop
      split
      · split
        · exact ih _
        · rfl
      · rfl
  unfold settleIfDue settle
  split
  · obtain ⟨ev, entered, drain, same⟩ := shape_of_offEv (setCond_offEv (grantLoop h.budget.waiting.length h) .grantBlocked
      rackLocus (grantLoop h.budget.waiting.length h).blocked)
    simp only [same]
    exact ⟨grantLoop_differs _ h, base _ h⟩
  · exact ⟨.refl _, rfl⟩

theorem recoverPort_base (p : DPort) (h : Hap) : (recoverPort p h).base = h.base := by
  have asked : (askDump p h).base = h.base := by
    unfold askDump
    simp only
    split
    · cases p <;> rfl
    · rfl
  have cleared : ∀ g : Hap, (clearRefused p g).base = g.base := fun g => by
    unfold clearRefused reckonOverflow
    split
    · obtain ⟨ev, entered, drain, same⟩ := shape_of_offEv (setCond_offEv ({ g with
        roster := g.roster.setMarker p false, flagsDue := true }) .rosterOverflow rackLocus
        ((g.roster.setMarker p false).marker1 || (g.roster.setMarker p false).marker2))
      rw [same]
    · rfl
  unfold recoverPort
  split
  · exact (cleared _).trans asked
  · rfl

theorem overflowRecovery_entries (h : Hap) : (overflowRecovery h).roster.entries = h.roster.entries ∧
    (overflowRecovery h).base = h.base := by
  rw [overflowRecovery_eq]
  split
  · exact ⟨(recoverPort_entries ..).trans (recoverPort_entries ..), (recoverPort_base ..).trans (recoverPort_base ..)⟩
  · exact ⟨rfl, rfl⟩

theorem length_filterMap_le_filter {α β : Type} {f : α → Option β} {p : α → Bool} : ∀ {l : List α},
    (∀ x ∈ l, p x = false → f x = none) → (l.filterMap f).length ≤ (l.filter p).length
  | [], _ => Nat.le_refl 0
  | x :: t, drops => by
    have rest := length_filterMap_le_filter fun y mem => drops y (List.mem_cons_of_mem x mem)
    cases here : p x with
    | false => simpa [drops x List.mem_cons_self here, here] using rest
    | true => cases made : f x <;> simp [made, here] <;> omega

/-- There are no more local entries than slots. -/
theorem local_entries_few {es : List Entry} (nodup : (es.map Entry.key).Nodup) :
    (es.filter fun e => decide (e.key.path = [])).length ≤ 10 := by
  have slots : ((es.filter fun e => decide (e.key.path = [])).map fun e => e.key.slot).Nodup := by
    refine List.Nodup.map_on (fun x mx y my same => ?_) ((nodup.of_map _).filter _)
    obtain ⟨mx, px⟩ := List.mem_filter.mp mx
    obtain ⟨my, py⟩ := List.mem_filter.mp my
    have key : x.key = y.key := by
      have px' : x.key.path = y.key.path := (of_decide_eq_true px).trans (of_decide_eq_true py).symm
      cases kx : x.key
      cases ky : y.key
      simp_all
    exact List.inj_on_of_nodup_map nodup mx my key
  simpa using slots.length_le_card

/-- A happening in which the slots' own entries alone have moved makes few deltas. -/
theorem happeningDeltas_local {es es' : List Entry} (nodup : (es.map Entry.key).Nodup)
    (keys : es'.map Entry.key = es.map Entry.key) (differ : localDiffer es es') (a b : Flags) :
    (happeningDeltas es es' a b).length ≤ 11 := by
  have gone : es.filterMap (entryGone es') = [] := List.filterMap_eq_nil_iff.mpr fun e mem => by
    have held : findEntry e.key es' ≠ none := fun none =>
      findEntry_none.mp none (keys ▸ List.mem_map_of_mem mem)
    obtain ⟨x, found⟩ := Option.ne_none_iff_exists'.mp held
    simp [entryGone, found]
  have changed : (es'.filterMap (entryDelta es)).length ≤ 10 := by
    refine (length_filterMap_le_filter fun e mem remote => ?_).trans (local_entries_few (es := es') (keys ▸ nodup))
    have same : e ∈ es := (differ e mem).resolve_right (of_decide_eq_false remote)
    simp [entryDelta, findEntry_of_mem nodup same]
  have flags : (if a = b then [] else [DeltaBody.flags b]).length ≤ 1 := by split <;> simp
  rw [happeningDeltas, gone, List.append_nil, List.length_append, List.length_map, (sortBy_perm _ _).length_eq]
  omega

/-! ### A dump that has just begun (R128) -/

theorem recomputeFlags_shape (h : Hap) : ∃ flags dirty, recomputeFlags h =
    { h with roster := { h.roster with flags := flags }, flagsDue := false, dirty := dirty } := by
  unfold recomputeFlags
  split
  · exact ⟨_, _, rfl⟩
  · next still =>
    refine ⟨h.roster.flags, h.dirty, ?_⟩
    rw [← Bool.eq_false_iff.mpr still]

/-- What a dump begun on a link in SYNCING leaves. -/
theorem beginDump_begun (cause : DumpCause) (syncing : h.u.state = .syncing) :
    ∃ phase ack tx k flags dirty, beginDump cause h = { h with
      roster := { h.roster with flags := flags }, flagsDue := false, dirty := dirty,
      u := { h.u with dumpPhase := phase, dumpCause := cause, dumpList := h.roster.keys, cursor := 1, ackTimer := ack,
                      deltas := [], retransmit := none, tx := tx, keepalive := k },
      base := h.roster.entries, baseFlags := flags } := by
  obtain ⟨flags, dirty, reckoned⟩ := recomputeFlags_shape h
  have state : decide (h.u.state = .up) = false := by rw [syncing]; rfl
  have opened : ∃ tx k, openDump cause h = { h with
      roster := { h.roster with flags := flags }, flagsDue := false, dirty := dirty,
      u := { h.u with dumpPhase := .sending, dumpCause := cause, dumpList := h.roster.keys, cursor := 1, ackTimer := none,
                      deltas := [], retransmit := none, tx := tx, keepalive := k },
      base := h.roster.entries, baseFlags := flags } := by
    simp only [openDump, reckoned, state, Bool.false_eq_true, if_false]
    exact ⟨_, _, rfl⟩
  obtain ⟨tx, k, opened⟩ := opened
  unfold beginDump
  split
  · rw [opened]
    exact ⟨_, _, _, _, _, _, rfl⟩
  · exact ⟨_, _, _, _, _, _, opened⟩

/-- Few deltas are queued behind a dump that has just begun. -/
theorem handUpward_dumping (deltas : h.u.deltas = []) (few : (happeningDeltas h.base h.roster.entries h.baseFlags
    h.roster.flags).length ≤ 11) : ∃ ds, (handUpward h).u = { h.u with deltas := ds } := by
  unfold handUpward
  simp only
  split
  · split
    · exact ⟨h.u.deltas, rfl⟩
    · have fits : ¬ deltaQueueSize < h.u.deltas.length + (happeningDeltas h.base h.roster.entries h.baseFlags
          h.roster.flags).length := by
        rw [deltas, deltaQueueSize, List.length_nil]
        omega
      rw [if_neg fits]
      exact ⟨_, rfl⟩
  · exact ⟨h.u.deltas, rfl⟩

/-- The end of a happening in which a dump has begun keeps the dump. -/
theorem closing_dumping (syncing : h.u.state = .syncing) (deltas : h.u.deltas = []) (base : h.base = h.roster.entries)
    (nodup : h.roster.keys.Nodup) : (∃ ds, (closing h).u = { h.u with deltas := ds }) ∧
      (h.drained → (closing h).ev.inFlight = none ∧ (closing h).ev.reported = []) := by
  obtain ⟨differ, base1⟩ := settleIfDue_differs h
  obtain ⟨entries2, base2⟩ := overflowRecovery_entries (settleIfDue h)
  have u : (overflowRecovery (settleIfDue h)).u = h.u := (overflowRecovery_u _).trans (settleIfDue_u h)
  have keys : (settleIfDue h).roster.keys = h.roster.keys := by
    have same := (moves_settleIfDue h).frame .keys rfl
    simp only [Part.same, Prod.mk.injEq] at same
    exact same.1
  have start : ∀ g : Hap, g = advanceGeneration (recomputeFlags (overflowRecovery (settleIfDue h))) →
      ∃ ds, (handUpward g).u = { h.u with deltas := ds } := fun g named => by
    have link : g.u = h.u := by rw [named, advanceGeneration_u, recomputeFlags_u, u]
    have same : g.roster.entries = (settleIfDue h).roster.entries ∧ g.base = h.roster.entries := by
      rw [← entries2, ← base, ← base1, ← base2, named]
      unfold advanceGeneration recomputeFlags
      split <;> split <;> exact ⟨rfl, rfl⟩
    rw [← link]
    refine handUpward_dumping (link ▸ deltas) ?_
    rw [same.1, same.2]
    exact happeningDeltas_local nodup keys differ _ _
  obtain ⟨ds, handed⟩ := start _ rfl
  have reckoned : (advanceGeneration (recomputeFlags (overflowRecovery (settleIfDue h)))).ev =
      (overflowRecovery (settleIfDue h)).ev := by
    unfold advanceGeneration recomputeFlags
    split <;> split <;> rfl
  obtain ⟨r, ev⟩ := handUpward_ev (advanceGeneration (recomputeFlags (overflowRecovery (settleIfDue h))))
  rw [reckoned] at ev
  rw [closing_behind, behindRecovery]
  generalize handUpward (advanceGeneration (recomputeFlags (overflowRecovery (settleIfDue h)))) = g at handed ev
  have state : g.u.state = .syncing := by rw [handed]; exact syncing
  have sent : sendDeltasIfDue g = g := by simp [sendDeltasIfDue, state]
  rw [sent, drainIfDue_held (.inr (.inr (by simp [state])))]
  refine ⟨⟨ds, (attend_u g).trans handed⟩, fun d => ?_⟩
  obtain ⟨flight, reported, -⟩ := overflowRecovery_drained (settleIfDue_drained d)
  have kept : g.ev.inFlight = none ∧ g.ev.reported = [] := by
    rw [ev]
    exact ⟨flight, reported⟩
  obtain ⟨a, same | ⟨x, same⟩⟩ := attend_shape g <;> rw [same] <;> exact kept

/-- What a link started afresh leaves for the end of its happening. -/
theorem startUplink_begun (tier : Byte) (path : Path) (h : Hap) :
    ((startUplink tier path h).u.state = .syncing ∧ (startUplink tier path h).u.recTier = some (tier.toNat + 1) ∧
      (startUplink tier path h).u.recPath = some path ∧ (startUplink tier path h).u.tierKnown = h.u.tierKnown ∧
      (startUplink tier path h).u.dumpCause = .first ∧ (startUplink tier path h).u.dumpList = h.roster.keys ∧
      (startUplink tier path h).u.deltas = []) ∧ (startUplink tier path h).roster.keys = h.roster.keys ∧
      (startUplink tier path h).base = (startUplink tier path h).roster.entries ∧ (startUplink tier path h).ev = h.ev := by
  have begun : ∀ c : Hap, c.u.state = .syncing → (beginDump .first c).u.state = .syncing ∧
      (beginDump .first c).u.recTier = c.u.recTier ∧ (beginDump .first c).u.recPath = c.u.recPath ∧
      (beginDump .first c).u.tierKnown = c.u.tierKnown ∧ (beginDump .first c).u.dumpCause = .first ∧
      (beginDump .first c).u.dumpList = c.roster.keys ∧ (beginDump .first c).u.deltas = [] ∧
      (beginDump .first c).roster.keys = c.roster.keys ∧ (beginDump .first c).base = (beginDump .first c).roster.entries ∧
      (beginDump .first c).ev = c.ev := fun c syncing => by
    obtain ⟨phase, ack, tx, k, flags, dirty, same⟩ := beginDump_begun .first syncing
    rw [same]
    exact ⟨syncing, rfl, rfl, rfl, rfl, rfl, rfl, rfl, rfl, rfl⟩
  unfold startUplink
  obtain ⟨state, tier', path', known, cause, list, deltas, roster, base, ev⟩ := begun { sendU
    (.probeReply (headerRackId h.desc.liveBank) (headerRackClass h.desc.liveBank) Config.hardwareRevision)
    { h with u := { h.u with recTier := some (tier.toNat + 1), recPath := some path } } with
    u := { (sendU (.probeReply (headerRackId h.desc.liveBank) (headerRackClass h.desc.liveBank) Config.hardwareRevision)
      { h with u := { h.u with recTier := some (tier.toNat + 1), recPath := some path } }).u with
      state := .syncing, keepalive := some keepaliveMs, loss := some lossMs } } rfl
  exact ⟨⟨state, tier', path', known, cause, list, deltas⟩, roster, base, ev⟩

end

/-- A PROBE that passes on a running link: the link goes down and starts afresh (R113, R116). -/
theorem probe_running {s : State} {tier : Byte} {path : Path} (hears : s.hearsParent)
    (pass : s.u.filter.state = .present ∧ tier.toNat ≤ 2 ∧ path.length = tier.toNat + 1) (waits : s.u.tx.waitingReset = none)
    (nodup : s.roster.keys.Nodup) :
    ∃ t, exec (.probe .u tier path) s = .next t ∧ t.u.state = .syncing ∧ t.u.recTier = some (tier.toNat + 1) ∧
      t.u.recPath = some path ∧ t.u.tierKnown = false ∧ t.u.dumpCause = .first ∧ t.u.dumpList = t.roster.keys ∧
      (∀ p, (t.dl p).state = .down) ∧ t.ev.inFlight = none ∧ t.ev.reported = [] ∧
      t.slots = s.slots ∧ t.targets = s.targets ∧ t.filters = s.filters ∧ t.desc = s.desc := by
  have passes : probePasses s tier path = true := by simpa [probePasses, Filter.carrier, and_assoc] using pass
  have taken := probe_severs hears passes
  have severed := upTeardown_severed (Hap.start (s.heard .u))
  have moved : Moves linkParts (Hap.start (s.heard .u)) (startUplink tier path (upTeardown (Hap.start (s.heard .u)))) :=
    (moves_upTeardown _).trans (moves_startUplink _ _ _)
  obtain ⟨due, -, dl⟩ := startUplink_keeps tier path (upTeardown (Hap.start (s.heard .u)))
  obtain ⟨started, roster, base, ev⟩ := startUplink_begun tier path (upTeardown (Hap.start (s.heard .u)))
  generalize startUplink tier path (upTeardown (Hap.start (s.heard .u))) = h at taken moved due dl started roster base ev
  have none : h.resetDue = none :=
    due.trans (severed.reset.trans (show (Option.none).or s.u.tx.waitingReset = Option.none by rw [waits]; rfl))
  obtain ⟨state, tier', path', known, cause, list, deltas⟩ := started
  have nodup' : h.roster.keys.Nodup := roster ▸ nodup.sublist severed.sub
  obtain ⟨⟨ds, link⟩, drained⟩ := closing_dumping state deltas base nodup'
  obtain ⟨flight, reported⟩ := drained (drained_congr ev severed.drained)
  obtain ⟨slots, targets, filters, desc, -⟩ := linkFrame_of moved
  refine ⟨_, linkRow_u hears (.probe tier path) taken, ?_⟩
  rw [finish_eq none]
  rw [show (closing h).toState.u = _ from link]
  refine ⟨state, tier', path', known.trans ?_, cause, list.trans (roster.symm.trans (closing_keys h).1.symm), fun p => ?_, flight,
    reported, slots, targets, filters, desc⟩
  · rw [severed.u]
    rfl
  · have port : (h.dl p).state = .down := (dl p).symm ▸ (severed.ports p).1
    exact (congrArg DLink.state (closing_dl_inactive (by rw [port]; rfl))).trans port

/-- Settles O40. -/
theorem probeAndItsReplyStartTheLink : Obligations.ProbeAndItsReplyStartTheLink := by
  unfold Obligations.ProbeAndItsReplyStartTheLink
  refine ⟨fun tier path s => ⟨fun root => ?_, fun branch down => ?_, fun hears => ?_⟩,
    fun p n s => ⟨fun settling runs => ?_, fun settling runs down => ⟨fun unknown => ?_, fun tier m1 m2 => ?_⟩⟩,
    fun p rackId rackClass revision s => ⟨fun probing child flags => ?_, fun active => ?_, fun off => ?_⟩⟩
  · refine happen_start (f := linkIn .u (.probe tier path)) ?_
    have role : (Hap.start s).role = .root := root
    simp only [linkIn, linkInU, role]
  · exact probe_down branch down
  · split
    · next pass => exact probe_running hears pass
    · next fails =>
      refine exec_heard_u hears (if_neg fun passes => fails ?_)
      simpa [probePasses, Filter.carrier, and_assoc] using (show probePasses s tier path = true from passes)
  · refine happen_start (f := lineSettled (.carrier .u)) ?_
    have moved : s.u.filter.expired = { s.u.filter with state := .present, timer := none } :=
      Filter.expired_settling settling runs
    have kept : departed s.u.filter { s.u.filter with state := .present, timer := none } = false := by
      simp [departed, Filter.carrier]
    have filter : (Hap.start s).u.filter = s.u.filter := rfl
    simp only [lineSettled, carrierChangeU, moved, filter, kept, Bool.and_false, Bool.false_and, Bool.false_eq_true, if_false]
    rfl
  · refine happen_start (f := lineSettled (.carrier (.d p))) ((carrier_arrives settling runs).trans ?_)
    unfold reexamine
    have tier : (Hap.start (s.withD p { s.dl p with
        filter := { (s.dl p).filter with state := .present, timer := none } })).tier = none := by
      cases p <;> exact unknown
    simp only [tier]
    split <;> rfl
  · exact carrier_examined settling runs down tier m1 m2
  · exact probeReply_probing probing child flags
  · exact exec_heard_d active rfl
  · exact linkIn_inactive (by rcases off with off | off <;> rw [off] <;> rfl) fun probing => by
      rcases off with off | off <;> rw [off] at probing <;> cases probing

end Sys2Proof.Machine
end

section
/-! PROOF. Events beside a given one: how far an operation can fill the queue, and what it spares (R143 to R146). -/

namespace Sys2Proof.Machine

/-- Going from one happening to another, at most `n` records enter the queue, none of them of kind `k` and locus `l`; those
of that kind and locus stand while the queue has room, and a local claim of them stays as it is. -/
structure Spares (k : EvKind) (l : Locus) (n : Nat) (h h' : Hap) : Prop where
  kinds : h'.ev.kinds = h.ev.kinds
  holds : h'.ev.localHolds k l = h.ev.localHolds k l
  length : h'.ev.queue.length ≤ h.ev.queue.length + n
  records : h.ev.queue.length + n ≤ 32 → ∀ r, r.kind = k → r.locus = l → (r ∈ h'.ev.queue ↔ r ∈ h.ev.queue)

section
variable {h h' h'' : Hap} {k : EvKind} {l : Locus} {n m : Nat} {i : SlotId} {p : DPort}

theorem Spares.refl (h : Hap) : Spares k l 0 h h := ⟨rfl, rfl, Nat.le_refl _, fun _ _ _ _ => Iff.rfl⟩

theorem Spares.trans (a : Spares k l n h h') (b : Spares k l m h' h'') : Spares k l (n + m) h h'' := by
  have la := a.length
  have lb := b.length
  exact ⟨b.kinds.trans a.kinds, b.holds.trans a.holds, by omega, fun room r rk rl =>
    (b.records (by omega) r rk rl).trans (a.records (by omega) r rk rl)⟩

theorem Spares.mono (a : Spares k l n h h') (more : n ≤ m) : Spares k l m h h' :=
  ⟨a.kinds, a.holds, a.length.trans (Nat.add_le_add_left more _), fun room => a.records (by omega)⟩

theorem Spares.ite {a b : Hap} {c : Prop} [Decidable c] (ha : c → Spares k l n h a) (hb : ¬ c → Spares k l n h b) :
    Spares k l n h (if c then a else b) := by
  split
  · next hc => exact ha hc
  · next hc => exact hb hc

/-- What leaves the queue, the settings and the local conditions adds nothing. -/
theorem spares_of_same (queue : h'.ev.queue = h.ev.queue) (kinds : h'.ev.kinds = h.ev.kinds)
    (conds : h'.ev.localConds = h.ev.localConds) : Spares k l 0 h h' :=
  ⟨kinds, by rw [EventUnit.localHolds, EventUnit.localHolds, conds], by simp [queue], fun _ _ _ _ => by rw [queue]⟩

theorem spares_of_ev (same : h'.ev = h.ev) : Spares k l 0 h h' :=
  spares_of_same (by rw [same]) (by rw [same]) (by rw [same])

/-! ### The event unit's operations -/

/-- An occurrence of another kind or locus. -/
theorem spares_raise {o : Occ} (apart : o.kind ≠ k ∨ o.locus ≠ l) (h : Hap) : Spares k l 1 h (raise o h) := by
  obtain ⟨q, c, lost, ev⟩ := raise_ev o h
  have other : ∀ r : EvRecord, r.kind = k → r.locus = l → r.stands o.kind o.locus = false := fun r rk rl => by
    rcases apart with a | a
    · simp [EvRecord.stands, rk, Ne.symm a]
    · simp [EvRecord.stands, rl, Ne.symm a]
  have queue : q.length ≤ h.ev.queue.length + 1 ∧ (h.ev.queue.length + 1 ≤ 32 → ∀ r : EvRecord, r.kind = k → r.locus = l →
      (r ∈ q ↔ r ∈ h.ev.queue)) := by
    have same : q = (raise o h).ev.queue := by rw [ev]
    subst same
    unfold raise
    split
    · exact ⟨Nat.le_succ _, fun _ _ _ _ => Iff.rfl⟩
    · next pr _ =>
      split
      · split
        · refine ⟨by simp, fun _ r rk rl => ?_⟩
          have gone : r.stands o.kind o.locus = false := other r rk rl
          simp only [List.mem_map]
          constructor
          · rintro ⟨x, mem, same⟩
            split at same
            · next stands =>
              have what : r.stands o.kind o.locus = true := by
                rw [← same]
                exact stands
              rw [gone] at what
              cases what
            · exact same ▸ mem
          · exact fun mem => ⟨r, mem, by simp [gone]⟩
        · exact ⟨Nat.le_succ _, fun _ _ _ _ => Iff.rfl⟩
      · unfold enter
        split
        · refine ⟨by simp [noteEntry, EventUnit.push], fun _ r rk rl => ?_⟩
          simp only [noteEntry, EventUnit.push, List.mem_append, List.mem_singleton]
          refine or_iff_left fun same => ?_
          subst same
          rcases apart with a | a
          · exact a rk
          · exact a rl
        · next full =>
          split
          · exact ⟨Nat.le_succ _, fun room => absurd (show h.ev.queue.length < 32 by omega) full⟩
          · next x _ =>
            split
            · refine ⟨?_, fun room => absurd (show h.ev.queue.length < 32 by omega) full⟩
              have shorter := List.length_filter_le (fun r : EvRecord => decide (r.seq ≠ x.seq)) h.ev.queue
              simpa [noteEntry, EventUnit.push] using shorter
            · exact ⟨Nat.le_succ _, fun room => absurd (show h.ev.queue.length < 32 by omega) full⟩
  rw [← show (raise o h).ev.queue = q by rw [ev]] at queue
  exact ⟨by rw [ev], by rw [ev]; rfl, queue.1, queue.2⟩

theorem spares_raiseLatched {k' : EvKind} {l' : Locus} (apart : k' ≠ k ∨ l' ≠ l) (d : Word16) (h : Hap) :
    Spares k l 1 h (raiseLatched k' l' d h) := spares_raise (o := latchedOcc k' l' d) apart h

theorem spares_withdrawClear (k' : EvKind) (l' : Locus) (h : Hap) : Spares k l 0 h (withdrawClear k' l' h) :=
  Spares.ite (fun _ => .refl h) fun _ => spares_of_same rfl rfl rfl

theorem spares_markEnded (k' : EvKind) (l' : Locus) (h : Hap) : Spares k l 0 h (markEnded k' l' h) := by
  unfold markEnded
  split
  · exact .refl h
  · exact Spares.ite (fun _ => .refl h) fun _ => spares_of_same rfl rfl rfl

/-- A change of the local conditions that spares one of them. -/
theorem spares_conds {cs : List CondId} (spared : { kind := k, locus := l } ∈ cs ↔ { kind := k, locus := l } ∈ h.ev.localConds) :
    Spares k l 0 h { h with ev := { h.ev with localConds := cs } } :=
  ⟨rfl, by simpa [EventUnit.localHolds] using spared, Nat.le_refl _, fun _ _ _ _ => Iff.rfl⟩

theorem spares_beginCond {k' : EvKind} {l' : Locus} (apart : k' ≠ k ∨ l' ≠ l) (h : Hap) :
    Spares k l 1 h (beginCond k' l' h) := by
  unfold beginCond
  refine Spares.ite (fun _ => (Spares.refl h).mono (Nat.zero_le _)) fun _ => ?_
  have noted : Spares k l 0 h { h with ev := { h.ev with localConds := h.ev.localConds ++ [{ kind := k', locus := l' }] } } := by
    refine spares_conds ?_
    rw [List.mem_append, List.mem_singleton, or_iff_left]
    rintro ⟨⟩
    exact apart.elim (· rfl) (· rfl)
  simp only
  refine Spares.ite (fun _ => noted.mono (Nat.zero_le _)) fun _ => ?_
  refine (noted.trans ((spares_withdrawClear k' l' _).trans (spares_raise ?_ _))).mono (by omega)
  exact apart

theorem spares_endCond {k' : EvKind} {l' : Locus} (apart : k' ≠ k ∨ l' ≠ l) (h : Hap) :
    Spares k l 0 h (endCond k' l' h) := by
  unfold endCond
  refine Spares.ite (fun _ => ?_) fun _ => .refl h
  have noted : Spares k l 0 h { h with ev := { h.ev with localConds := h.ev.localConds.filter fun c =>
      !(decide (c.kind = k') && decide (c.locus = l')) } } := by
    refine spares_conds ?_
    rw [List.mem_filter, and_iff_left]
    rcases apart with a | a
    · simp [Ne.symm a]
    · simp [Ne.symm a]
  simp only
  exact Spares.ite (fun _ => noted) fun _ => noted.trans (spares_markEnded k' l' _)

theorem spares_setCond {k' : EvKind} {l' : Locus} (apart : k' ≠ k ∨ l' ≠ l) (b : Bool) (h : Hap) :
    Spares k l (if b then 1 else 0) h (setCond k' l' b h) := by
  cases b
  · exact spares_endCond apart h
  · exact spares_beginCond apart h

/-! ### A record that an operation queues -/

/-- A kind and locus that would be queued anew still is, behind what spares it. -/
theorem Spares.takesNew (s : Spares k l n h h') {pr : Fin 4} (takes : h.ev.takesNew pr k l) (room : h.ev.queue.length + n < 32) :
    h'.ev.takesNew pr k l := by
  obtain ⟨on, fresh, -⟩ := takes
  have length := s.length
  refine ⟨by rw [EventUnit.setting, s.kinds]; exact on, ?_, show h'.ev.queue.length < 32 by omega⟩
  rw [EventUnit.isPending, List.any_eq_false] at fresh ⊢
  intro r mem stands
  have what := stands
  simp only [EvRecord.stands, Bool.and_eq_true, decide_eq_true_eq] at what
  obtain ⟨rk, rl⟩ := what
  exact fresh r ((s.records (by omega) r rk rl).mp mem) stands

/-- The record of an occurrence that the queue takes stands behind what spares it. -/
theorem raise_spared {o : Occ} {pr : Fin 4} (takes : h.ev.takesNew pr o.kind o.locus)
    (s : Spares o.kind o.locus n (raise o h) h') (room : h.ev.queue.length + 1 + n ≤ 32) :
    ∃ r ∈ h'.ev.queue, r.kind = o.kind ∧ r.locus = o.locus ∧ r.style = o.style ∧ r.priority = pr ∧ r.detail = o.detail := by
  have raised := raise_new takes
  have length : (raise o h).ev.queue.length = h.ev.queue.length + 1 := by rw [raised]; simp [noteEntry, EventUnit.push]
  let r : EvRecord := { seq := h.ev.counter, kind := o.kind, priority := pr, style := o.style, locus := o.locus,
                        detail := o.detail, count := o.count, origin := o.origin }
  have mem : r ∈ (raise o h).ev.queue := by
    rw [raised]
    exact List.mem_append_right _ List.mem_cons_self
  exact ⟨r, (s.records (by omega) r rfl rfl).mpr mem, rfl, rfl, rfl, rfl, rfl⟩

/-! ### The roster's operations -/

theorem budgetRelease_ev (i : SlotId) (h : Hap) : (budgetRelease i h).ev = h.ev := by
  unfold budgetRelease
  split
  · rfl
  · split <;> rfl

theorem budgetJoin_ev (i : SlotId) (h : Hap) : (budgetJoin i h).ev = h.ev := by
  unfold budgetJoin
  split <;> rfl

section
variable (notConflict : k ≠ .serialConflict)
include notConflict

theorem spares_promoteEntry (e : Entry) (h : Hap) : Spares k l 0 h (promoteEntry e h) := by
  have ended : ∀ g : Hap, g.ev = h.ev → Spares k l 0 h (endCond .serialConflict (keyLocus e.key) g) := fun g ev =>
    (spares_of_ev ev).trans (spares_endCond (.inl (Ne.symm notConflict)) g)
  unfold promoteEntry
  split
  · exact ended _ rfl
  · split
    · exact ended _ (budgetJoin_ev _ _)
    · exact ended _ rfl
    · exact ended _ rfl
    · exact ended _ rfl
    all_goals exact .refl h

theorem spares_promote (serial : Serial) (h : Hap) : Spares k l 0 h (promote serial h) := by
  unfold promote
  split
  · exact .refl h
  · exact spares_promoteEntry notConflict _ h

theorem spares_afterRemoval (e : Entry) (h : Hap) : Spares k l 0 h (afterRemoval e h) := by
  unfold afterRemoval
  have ended : Spares k l 0 h (if e.inConflict then endCond .serialConflict (keyLocus e.key) h else h) :=
    Spares.ite (fun _ => spares_endCond (.inl (Ne.symm notConflict)) h) fun _ => .refl h
  simp only
  exact Spares.ite (fun _ => ended.trans (spares_promote notConflict _ _)) fun _ => ended

theorem spares_localRemove (notLeft : k ≠ .moduleLeft) (i : SlotId) (cause : Cause) (h : Hap) :
    Spares k l 1 h (localRemove i cause h) := by
  unfold localRemove
  split
  · exact (Spares.refl h).mono (Nat.zero_le _)
  · next e _ =>
    have dropped : Spares k l 0 h (dropEntry e.key (budgetRelease i h)) := spares_of_ev (budgetRelease_ev i h)
    exact (dropped.trans ((spares_raiseLatched (.inl (Ne.symm notLeft)) _ _).trans (spares_afterRemoval notConflict e _))).mono
      (by omega)

theorem spares_remoteRemove (notLeft : k ≠ .moduleLeft) (key : Key) (cause : Cause) (h : Hap) :
    Spares k l 1 h (remoteRemove key cause h) := by
  unfold remoteRemove
  split
  · exact (Spares.refl h).mono (Nat.zero_le _)
  · next e _ =>
    have dropped : Spares k l 0 h (dropEntry key h) := spares_of_ev rfl
    have left : Spares k l 1 (dropEntry key h) (if cause = .linkLost then
        raiseLatched .moduleLeft (keyLocus key) (detailOf (causeCode cause)) (dropEntry key h) else dropEntry key h) :=
      Spares.ite (fun _ => spares_raiseLatched (.inl (Ne.symm notLeft)) _ _) fun _ => (Spares.refl _).mono (Nat.zero_le _)
    exact (dropped.trans (left.trans (spares_afterRemoval notConflict e _))).mono (by omega)

theorem spares_remoteRemoveAll (notLeft : k ≠ .moduleLeft) (cause : Cause) : ∀ (ks : List Key) (h : Hap),
    Spares k l ks.length h (remoteRemoveAll ks cause h)
  | [], h => .refl h
  | key :: t, h => by
    have rest := (spares_remoteRemove (l := l) notConflict notLeft key cause h).trans
      (spares_remoteRemoveAll notLeft cause t (remoteRemove key cause h))
    exact rest.mono (by rw [List.length_cons]; omega)

end

/-! ### The end of a happening -/

/-- Settling the waiting list. -/
theorem spares_settleIfDue (apart : k ≠ .grantBlocked) (h : Hap) : Spares k l 1 h (settleIfDue h) := by
  unfold settleIfDue
  refine Spares.ite (fun _ => ?_) fun _ => (Spares.refl h).mono (Nat.zero_le _)
  have granted : Spares k l 0 h (grantLoop h.budget.waiting.length h) := spares_of_ev (grantLoop_ev _ h)
  have set := spares_setCond (l := l) (.inl (Ne.symm apart)) (l' := rackLocus) (grantLoop h.budget.waiting.length h).blocked
    (grantLoop h.budget.waiting.length h)
  refine (granted.trans (set.trans (spares_of_ev (h' := settle h) rfl))).mono ?_
  split <;> omega

theorem spares_clearRefused (apart : k ≠ .rosterOverflow) (p : DPort) (h : Hap) :
    Spares k l (if h.roster.marker p then
      (if (h.roster.setMarker p false).marker1 || (h.roster.setMarker p false).marker2 then 1 else 0) else 0) h
      (clearRefused p h) := by
  unfold clearRefused reckonOverflow
  by_cases marked : h.roster.marker p
  · rw [if_pos marked, if_pos marked]
    have noted : Spares k l 0 h { h with roster := h.roster.setMarker p false, flagsDue := true } := spares_of_ev rfl
    exact (noted.trans (spares_setCond (.inl (Ne.symm apart)) _ _)).mono (by rw [Nat.zero_add])
  · rw [if_neg marked, if_neg marked]
    exact .refl h

theorem spares_askDump (p : DPort) (h : Hap) : Spares k l 0 h (askDump p h) := spares_of_ev (askDump_ev p h)

/-- Recovery queues a ROSTER_OVERFLOW at most, and that only where both ports are marked. -/
theorem spares_overflowRecovery (apart : k ≠ .rosterOverflow) (h : Hap) :
    Spares k l (if h.roster.marker1 && h.roster.marker2 then 1 else 0) h (overflowRecovery h) := by
  have first : Spares k l (if h.roster.marker1 && h.roster.marker2 then 1 else 0) h (recoverPort .d1 h) := by
    refine Spares.ite (fun _ => ?_) fun _ => (Spares.refl h).mono (Nat.zero_le _)
    refine ((spares_askDump .d1 h).trans (spares_clearRefused apart .d1 (askDump .d1 h))).mono ?_
    rw [askDump_roster]
    cases one : h.roster.marker1 <;> cases two : h.roster.marker2 <;> simp [Roster.marker, Roster.setMarker, one, two]
  have second : ∀ g : Hap, g.roster.marker1 = false → Spares k l 0 g (recoverPort .d2 g) := fun g one => by
    refine Spares.ite (fun _ => ?_) fun _ => .refl g
    refine ((spares_askDump .d2 g).trans (spares_clearRefused apart .d2 (askDump .d2 g))).mono ?_
    rw [askDump_roster]
    simp [Roster.setMarker, one]
  rw [overflowRecovery_eq]
  refine Spares.ite (fun _ => ?_) fun _ => (Spares.refl h).mono (Nat.zero_le _)
  exact first.trans (second _ (recoverPort_marker .d1 h).1)

theorem spares_behindRecovery (h : Hap) : Spares k l 0 h (behindRecovery h) := by
  obtain ⟨a, x, r, lost, ev⟩ := behindRecovery_ev h
  exact spares_of_same (behindRecovery_queue h) (by rw [ev]) (by rw [ev])

/-- The end of a happening queues GRANT_BLOCKED and ROSTER_OVERFLOW at most. -/
theorem spares_closing (notBlocked : k ≠ .grantBlocked) (notOverflow : k ≠ .rosterOverflow) (h : Hap) :
    Spares k l (if h.roster.marker1 && h.roster.marker2 then 2 else 1) h (closing h) := by
  rw [closing_behind]
  have settled := spares_settleIfDue (l := l) notBlocked h
  have recovered := spares_overflowRecovery (l := l) notOverflow (settleIfDue h)
  obtain ⟨m1, m2⟩ := settleIfDue_markers h
  rw [m1, m2] at recovered
  refine (settled.trans (recovered.trans (spares_behindRecovery _))).mono ?_
  split <;> omega

end

end Sys2Proof.Machine
end

section
/-! PROOF. The slot sequencer's steps on the slot itself (R33 to R45): what each leaves of the slot, its line and its target. -/

namespace Sys2Proof.Machine

section
variable {h : Hap} {i : SlotId} {k : EvKind} {l : Locus}

/-! ### The commit engine's share (R61, R80, R88) -/

theorem commitEnd_some {c : Commit} (d : Word16) (commit : h.desc.commit = some c) : ∃ ev entered drain, commitEnd d h =
    { h with desc := { h.desc with commit := none }, ops := h.ops.release c.op, ev := ev, entered := entered,
             drainDue := drain } := by
  obtain ⟨ev, entered, drain, same⟩ := opDone_shape none c.op d h
  refine ⟨ev, entered, drain, ?_⟩
  simp only [commitEnd, commit, same]

theorem commitEnd_shape (d : Word16) (h : Hap) : ∃ commit ops ev entered drain, commitEnd d h =
    { h with desc := { h.desc with commit := commit }, ops := ops, ev := ev, entered := entered, drainDue := drain } := by
  unfold commitEnd
  split
  · exact ⟨h.desc.commit, h.ops, h.ev, h.entered, h.drainDue, rfl⟩
  · next c _ =>
    obtain ⟨ev, entered, drain, same⟩ := opDone_shape none c.op d h
    rw [same]
    exact ⟨none, _, _, _, _, rfl⟩

theorem drainingCheck_shape (h : Hap) : ∃ commit ops ev entered drain, drainingCheck h =
    { h with desc := { h.desc with commit := commit }, ops := ops, ev := ev, entered := entered, drainDue := drain } := by
  have still : ∃ commit ops ev entered drain, h =
      { h with desc := { h.desc with commit := commit }, ops := ops, ev := ev, entered := entered, drainDue := drain } :=
    ⟨h.desc.commit, h.ops, h.ev, h.entered, h.drainDue, rfl⟩
  unfold drainingCheck enterCopying
  split
  · exact still
  · split
    · split
      · split
        · exact still
        · simp only
          split
          · exact commitEnd_shape 0 h
          · exact ⟨_, _, _, _, _, rfl⟩
      · exact still
    · exact still
    · exact still

/-- A slot that has left ANNOUNCING is no longer waited for (R88). -/
theorem slotLeft_shape (i : SlotId) (h : Hap) : ∃ commit ops ev entered drain, slotLeft i h =
    { h with desc := { h.desc with commit := commit }, ops := ops, ev := ev, entered := entered, drainDue := drain } ∧
      ∀ d, commit = some d → i ∉ d.selected := by
  unfold slotLeft
  cases commit : h.desc.commit with
  | none =>
    refine ⟨none, h.ops, h.ev, h.entered, h.drainDue, ?_, nofun⟩
    show h = { h with desc := { h.desc with commit := none } }
    rw [← commit]
  | some c =>
    by_cases selected : i ∈ c.selected
    · simp only [List.contains_iff_mem.mpr selected, if_true]
      split
      · obtain ⟨ev, entered, drain, same⟩ := commitEnd_some (h := { h with
          desc := { h.desc with commit := some { c with selected := c.selected.filter fun j => decide (j ≠ i) } } }) c.newGen rfl
        exact ⟨none, _, ev, entered, drain, same, nofun⟩
      · refine ⟨_, h.ops, h.ev, h.entered, h.drainDue, rfl, ?_⟩
        rintro _ ⟨⟩
        simp
    · have out : c.selected.contains i = false := by simpa using selected
      simp only [out, Bool.false_eq_true, if_false]
      refine ⟨some c, h.ops, h.ev, h.entered, h.drainDue, by rw [← commit], ?_⟩
      rintro _ ⟨⟩
      exact selected

theorem setTarget_self (h : Hap) (i : SlotId) : h.setTarget i (h.target i) = h := by simp [Hap.setTarget, State.target]

/-- The end of a burst frees the target, and may move the commit engine. -/
theorem endBurst_shape (i : SlotId) (h : Hap) : ∃ commit ops ev entered drain, endBurst i h =
    { h.setTarget i (h.target i).unburst with
      desc := { h.desc with commit := commit }, ops := ops, ev := ev, entered := entered, drainDue := drain } := by
  cases phase : (h.target i).phase with
  | burst b =>
    simp only [endBurst, phase, unburst_burst phase]
    exact drainingCheck_shape (h.setTarget i { h.target i with phase := .ready, stall := none })
  | ready | holding =>
    have same : (h.target i).unburst = h.target i := by simp [Target.unburst, phase]
    simp only [endBurst, phase, same, setTarget_self]
    exact ⟨h.desc.commit, h.ops, h.ev, h.entered, h.drainDue, rfl⟩

/-! ### EN drops and the entry goes (R30, R36 to R39) -/

theorem moves_localRemove_roster (i : SlotId) (cause : Cause) (h : Hap) : Moves rosterParts h (localRemove i cause h) := by
  unfold localRemove
  split
  · exact Moves.refl _ h
  · next e found =>
    simp only
    refine Moves.trans ?_ (((moves_raiseLatched _ _ _ _).calm.trans (moves_afterRemoval _ e)).atRoster)
    refine (moves_budgetRelease h).atRoster.trans (moves_dropEntry _ rfl rfl fun _ j hj => ?_)
    have own : j = i := localKey_inj.mp (hj.symm.trans (findEntry_some found).2)
    exact own ▸ grantIn_budgetRelease h

/-- What a slot that is shut keeps of itself. -/
theorem shutSlot_keeps (i : SlotId) (cause : Cause) (h : Hap) :
    (shutSlot i cause h).slot i = h.slot i ∧ (shutSlot i cause h).filter i = h.filter i ∧
      (shutSlot i cause h).target i = (h.target i).unburst ∧ (shutSlot i cause h).desc.generation = h.desc.generation := by
  obtain ⟨commit, ops, ev, entered, drain, burst⟩ := endBurst_shape i h
  have m : Moves rosterParts (endBurst i h) (shutSlot i cause h) :=
    (moves_budgetRelease _).atRoster.trans (moves_localRemove_roster i cause _)
  have slot := m.frame (.slot i) rfl
  have filter := m.frame (.filter i) rfl
  have target := m.frame (.target i) rfl
  have desc := m.desc_eq rfl rfl
  refine ⟨slot.trans (by rw [burst]; rfl), filter.trans (by rw [burst]; rfl), target.trans ?_, ?_⟩
  · rw [burst]
    exact setTarget_target_self ..
  · rw [desc, burst]
    rfl

theorem shutSlot_keys (i : SlotId) (cause : Cause) (h : Hap) :
    (shutSlot i cause h).roster.keys = h.roster.keys.filter fun k => decide (k ≠ localKey i) := by
  obtain ⟨commit, ops, ev, entered, drain, burst⟩ := endBurst_shape i h
  rw [shutSlot, keys_localRemove, enDrop, keys_of_calm (moves_budgetRelease _), burst]
  rfl

theorem endEject_shape (i : SlotId) (cause : Cause) (result : EjectResult) (h : Hap) :
    ∃ ev entered drain, endEject i cause result h = { shutSlot i cause h with
      ev := ev, entered := entered, drainDue := drain, ops := (shutSlot i cause h).ops.release (h.slot i).ejectOp } :=
  opDone_shape (some i) (h.slot i).ejectOp (detailOf (ejectResultCode result)) (shutSlot i cause h)

theorem enterParked_shape (i : SlotId) (reason : ParkReason) (h : Hap) :
    ∃ ev entered drain, enterParked i reason h = { h.setSlot i { h.slot i with
      state := .parked, parkReason := reason, timer := none, ejectRequested := false, ejectOp := 0 } with
        ev := ev, entered := entered, drainDue := drain } := by
  unfold enterParked
  simp only
  split
  · exact shape_of_offEv (beginCond_offEv ..)
  · exact shape_of_offEv (beginCond_offEv ..)
  · exact ⟨h.ev, h.entered, h.drainDue, rfl⟩
  · exact ⟨h.ev, h.entered, h.drainDue, rfl⟩

/-! ### The commands that park a slot (R38, R39) -/

/-- What a slot that is shut and parked keeps. -/
theorem parked_keeps (i : SlotId) (reason : ParkReason) (cause : Cause) (h : Hap) :
    (enterParked i reason (shutSlot i cause h)).slot i =
        { h.slot i with state := .parked, parkReason := reason, timer := none, ejectRequested := false, ejectOp := 0 } ∧
      (enterParked i reason (shutSlot i cause h)).filter i = h.filter i ∧
      (enterParked i reason (shutSlot i cause h)).target i = (h.target i).unburst ∧
      (enterParked i reason (shutSlot i cause h)).roster.keys = h.roster.keys.filter (fun k => decide (k ≠ localKey i)) := by
  obtain ⟨ev, entered, drain, same⟩ := enterParked_shape i reason (shutSlot i cause h)
  obtain ⟨slot, filter, target, -⟩ := shutSlot_keeps i cause h
  rw [same]
  refine ⟨?_, filter, target, shutSlot_keys i cause h⟩
  rw [← slot]
  exact setSlot_slot_self _

/-- The slot's entry is gone by the end of a happening that took its key out. -/
theorem entryGone_closing {s : State} (keys : h.roster.keys = s.roster.keys.filter fun k => decide (k ≠ localKey i)) :
    State.entryGone i s (closing h).toState := by
  have ends := (closing_keys h).1.trans keys
  exact ⟨localEntry_none_iff.mpr (by rw [ends]; simp), ends⟩

/-- What the end of a slot's happening leaves of the slot, and the frame of the rest. -/
theorem slot_finish {s : State} (m : Moves (slotParts i) (Hap.start s) h) :
    finish h = (closing h).toState ∧ (closing h).slot i = h.slot i ∧ (closing h).filter i = h.filter i ∧
      (closing h).target i = h.target i ∧ (closing h).host.memory = s.host.memory ∧
      State.slotFrame i s (closing h).toState :=
  ⟨finish_eq (m.frame .resetDue rfl), closing_slot h i, closing_filter h i, closing_target h i, slot_memory m, slotFrame_of m⟩

/-- A local claim apart from GRANT_BLOCKED and ROSTER_OVERFLOW stands at the end of a happening. -/
theorem closing_holds (notBlocked : k ≠ .grantBlocked) (notOverflow : k ≠ .rosterOverflow) (h : Hap) (l : Locus) :
    (closing h).ev.localHolds k l = h.ev.localHolds k l := (spares_closing notBlocked notOverflow h).holds

end

section
variable {h : Hap} {i : SlotId}

/-- A refused CHECK-IN is answered, its result recorded and its event raised; nothing else moves (R66). -/
theorem checkInResult_shape {r : SlotResult} (refused : r ≠ .accepted ∧ r ≠ .conflict) (gen : Word16) (h : Hap) :
    ∃ ev entered drain, checkInResult i r gen h = { h.setTarget i { h.target i with
      phase := .holding ([slotResultCode r, 0] ++ be16 gen) 0, lastResult := some r } with
        ev := ev, entered := entered, drainDue := drain } ∧
      ev = (raiseLatched .checkinRefused (slotLocus i) (detailOf (slotResultCode r)) h).ev := by
  obtain ⟨ev, entered, drain, same⟩ := shape_of_offEv
    (raiseLatched_offEv h .checkinRefused (slotLocus i) (detailOf (slotResultCode r)))
  refine ⟨ev, entered, drain, ?_, by rw [same]⟩
  unfold checkInResult
  simp only [refused.1, refused.2, decide_false, Bool.or_self, Bool.false_eq_true, if_false, same, holdResponse,
    setTarget_setTarget, setTarget_target_self]
  rfl

/-- A malformed CHECK-IN parks its slot and is answered (R39, R66). -/
theorem malformed_keeps (gen : Word16) (h : Hap) :
    (checkInResult i .malformed gen (rejectSlot i h)).slot i =
        { h.slot i with state := .parked, parkReason := .rejected, timer := none, ejectRequested := false, ejectOp := 0 } ∧
      (checkInResult i .malformed gen (rejectSlot i h)).filter i = h.filter i ∧
      (checkInResult i .malformed gen (rejectSlot i h)).roster.keys = h.roster.keys.filter (fun k => decide (k ≠ localKey i)) ∧
      ((checkInResult i .malformed gen (rejectSlot i h)).target i).lastResult = some .malformed ∧
      ((checkInResult i .malformed gen (rejectSlot i h)).target i).phase =
        .holding ([slotResultCode .malformed, 0] ++ be16 gen) 0 ∧
      (checkInResult i .malformed gen (rejectSlot i h)).ev.localHolds .slotParked (slotLocus i) = true := by
  have reject : rejectSlot i h = enterParked i .rejected (shutSlot i .gate h) := rfl
  have held : (rejectSlot i h).ev.localHolds .slotParked (slotLocus i) = true := beginCond_holds ..
  obtain ⟨slot, filter, -, keys⟩ := parked_keeps i .rejected .gate h
  rw [← reject] at slot filter keys
  obtain ⟨ev, entered, drain, answered, unit⟩ := checkInResult_shape (i := i) (r := .malformed) ⟨nofun, nofun⟩ gen (rejectSlot i h)
  have spared := (spares_raiseLatched (k := .slotParked) (k' := .checkinRefused) (l := slotLocus i) (l' := slotLocus i)
    (.inl nofun) (detailOf (slotResultCode .malformed)) (rejectSlot i h)).holds
  generalize rejectSlot i h = g at slot filter keys answered unit spared held
  rw [answered]
  refine ⟨slot, filter, keys, congrArg Target.lastResult (setTarget_target_self _),
    congrArg Target.phase (setTarget_target_self _), ?_⟩
  show ev.localHolds _ _ = true
  rw [unit]
  exact spared.trans held

end

/-- Settles O35. -/
theorem timeoutAndMalformedCheckInPark : Obligations.TimeoutAndMalformedCheckInPark := by
  unfold Obligations.TimeoutAndMalformedCheckInPark
  refine ⟨fun i n s enabled timer => ?_, fun i record s state malformed => ?_⟩
  · have expired : limitExpired i (Hap.start s) = enterParked i .checkinTimeout (shutSlot i .checkinTimeout (Hap.start s)) :=
      if_pos (by
        show (s.slot i).timed .enabled = true
        simp [Slot.timed, enabled, timer])
    have moved := moves_limitExpired (i := i) (Hap.start s)
    obtain ⟨slot, filter, -, keys⟩ := parked_keeps i .checkinTimeout .checkinTimeout (Hap.start s)
    rw [← expired] at slot filter keys
    have parked : (limitExpired i (Hap.start s)).ev.localHolds .slotParked (slotLocus i) = true := by
      rw [expired]
      exact beginCond_holds ..
    have row : exec (.checkinLimitExpiry i) s = .next (finish (limitExpired i (Hap.start s))) := rfl
    generalize limitExpired i (Hap.start s) = h at moved slot filter keys parked row
    obtain ⟨ends, slot', filter', -, memory, frame⟩ := slot_finish moved
    refine ⟨_, row.trans (congrArg Host.Outcome.next ends), slot'.trans slot, ?_, filter'.trans filter, entryGone_closing keys,
      (closing_holds (k := .slotParked) nofun nofun _ _).trans parked, memory, frame⟩
    exact congrArg (fun x : Slot => x.state.en) (slot'.trans slot)
  · have moved := moves_slotWrite (i := i) (Hap.start s) (3 :: record)
    obtain ⟨commit, ops, ev0, entered0, drain0, burst⟩ := endBurst_shape i (Hap.start s)
    have slot0 : (endBurst i (Hap.start s)).slot i = s.slot i := by rw [burst]; rfl
    have written : slotWrite i (3 :: record) (Hap.start s) =
        checkInResult i .malformed (endBurst i (Hap.start s)).desc.generation (rejectSlot i (endBurst i (Hap.start s))) := by
      show checkInCmd i record (endBurst i (Hap.start s)) = _
      rcases state with state | state <;> simp only [checkInCmd, slot0, state, malformed]
    obtain ⟨slot, filter, keys, result, phase, parked⟩ :=
      malformed_keeps (i := i) (endBurst i (Hap.start s)).desc.generation (endBurst i (Hap.start s))
    rw [← written] at slot filter keys result phase parked
    have filter0 : (endBurst i (Hap.start s)).filter i = s.filter i := by rw [burst]; rfl
    have keys0 : (endBurst i (Hap.start s)).roster.keys = s.roster.keys := by rw [burst]; rfl
    have generation0 : (endBurst i (Hap.start s)).desc.generation = s.desc.generation := by rw [burst]; rfl
    rw [slot0] at slot
    rw [filter0] at filter
    rw [keys0] at keys
    rw [generation0] at phase
    have row : exec (.checkIn i record) s = .next (finish (slotWrite i (3 :: record) (Hap.start s))) := rfl
    generalize slotWrite i (3 :: record) (Hap.start s) = h at moved slot filter keys result phase parked row
    obtain ⟨ends, slot', filter', target', memory, frame⟩ := slot_finish moved
    refine ⟨_, row.trans (congrArg Host.Outcome.next ends), slot'.trans slot, ?_, filter'.trans filter, entryGone_closing keys,
      (closing_holds (k := .slotParked) nofun nofun _ _).trans parked, (congrArg Target.lastResult target').trans result,
      (congrArg Target.phase target').trans phase, memory, frame⟩
    exact congrArg (fun x : Slot => x.state.en) (slot'.trans slot)

end Sys2Proof.Machine
end

section
/-! PROOF. The end of a re-announce pulse (O8), the ends of an eject (O7), SLOT RESUME (O22). -/

namespace Sys2Proof.Machine

section
variable {h : Hap} {i : SlotId}

/-- The removal of a slot's entry leaves the slot, its line, its target and the descriptor store. -/
theorem localRemove_keeps (i : SlotId) (cause : Cause) (h : Hap) :
    (localRemove i cause h).slot i = h.slot i ∧ (localRemove i cause h).filter i = h.filter i ∧
      (localRemove i cause h).target i = h.target i ∧ (localRemove i cause h).desc = h.desc ∧
      (localRemove i cause h).ops = h.ops :=
  have m := moves_localRemove_roster i cause h
  ⟨m.frame (.slot i) rfl, m.frame (.filter i) rfl, m.frame (.target i) rfl, m.desc_eq rfl rfl, m.frame .ops rfl⟩

/-- What a slot told off to the commit engine keeps, and that the commit no longer waits for it. -/
theorem slotLeft_keeps (i : SlotId) (h : Hap) :
    (slotLeft i h).slot i = h.slot i ∧ (slotLeft i h).filter i = h.filter i ∧ (slotLeft i h).target i = h.target i ∧
      (slotLeft i h).roster = h.roster ∧
      (slotLeft i h).idleCond i = h.idleCond i ∧ (slotLeft i h).gateOpen i = h.gateOpen i ∧
      (∀ d, (slotLeft i h).desc.commit = some d → i ∉ d.selected) ∧
      ((slotLeft i h).settleDue = h.settleDue ∧ (slotLeft i h).dirty = h.dirty ∧ (slotLeft i h).flagsDue = h.flagsDue) := by
  obtain ⟨commit, ops, ev, entered, drain, same, selected⟩ := slotLeft_shape i h
  rw [same]
  exact ⟨rfl, rfl, rfl, rfl, rfl, rfl, selected, rfl, rfl, rfl⟩

theorem enterIdle_slot (i : SlotId) (h : Hap) : (enterIdle i h).slot i =
    { h.slot i with state := .idle, parkReason := .none, timer := none, lastRead := 0, ejectRequested := false, ejectOp := 0 } :=
  setSlot_slot_self (h := h) _

theorem enterHeld_slot (i : SlotId) (h : Hap) : (enterHeld i h).slot i =
    { h.slot i with state := .held, parkReason := .none, timer := none, ejectRequested := false, ejectOp := 0 } :=
  setSlot_slot_self (h := h) _

theorem enterEnabled_slot (i : SlotId) (h : Hap) : (enterEnabled i h).slot i =
    { h.slot i with state := .enabled, parkReason := .none,
                    timer := if (h.slot i).checkinLimit = 0 then none else some (100 * (h.slot i).checkinLimit.toNat) } :=
  setSlot_slot_self (h := h) _

/-- With nothing due and the roster as it was, the roster stands at the end of a happening. -/
theorem closing_roster_still (settled : h.settleDue = false) (clean : h.dirty = false) (flags : h.flagsDue = false) :
    (closing h).roster = h.roster := by
  rw [closing_clean settled clean, behindRecovery_roster, recomputeFlags_still flags, advanceGeneration_still clean]

theorem Slot.timed_iff {sl : Slot} {st : SlotState} : sl.timed st = true ↔ sl.state = st ∧ sl.timer ≠ none := by
  cases timer : sl.timer <;> simp [Slot.timed, timer]

/-- The end of a pulse, by the gate (R45): the slot is told off to the commit before the gate is evaluated. -/
theorem pulse_ends (i : SlotId) (h : Hap) (timed : (h.slot i).timed .announcing = true) :
    (if h.idleCond i = true then
       (pulseExpired i h).roster.keys = h.roster.keys.filter (fun k => decide (k ≠ localKey i)) ∧
         (pulseExpired i h).slot i = { h.slot i with
           state := .idle, parkReason := .none, timer := none, lastRead := 0, ejectRequested := false, ejectOp := 0 }
     else if h.gateOpen i = true then
       ((pulseExpired i h).roster = h.roster ∧ (pulseExpired i h).settleDue = h.settleDue ∧
         (pulseExpired i h).dirty = h.dirty ∧ (pulseExpired i h).flagsDue = h.flagsDue) ∧
         (pulseExpired i h).slot i = { h.slot i with
           state := .enabled, parkReason := .none,
           timer := if (h.slot i).checkinLimit = 0 then none else some (100 * (h.slot i).checkinLimit.toNat) }
     else
       (pulseExpired i h).roster.keys = h.roster.keys.filter (fun k => decide (k ≠ localKey i)) ∧
         (pulseExpired i h).slot i = { h.slot i with
           state := .held, parkReason := .none, timer := none, ejectRequested := false, ejectOp := 0 }) ∧
    (pulseExpired i h).filter i = h.filter i ∧ ∀ d, (pulseExpired i h).desc.commit = some d → i ∉ d.selected := by
  obtain ⟨slot, filter, -, roster, idle, gate, selected, due⟩ := slotLeft_keeps i h
  have announcing := (Slot.timed_iff.mp timed).1
  simp only [pulseExpired, if_pos timed]
  rw [← idle, ← gate]
  generalize slotLeft i h = g at slot filter roster idle gate selected due
  rw [← slot, ← filter, ← roster, ← due.1, ← due.2.1, ← due.2.2]
  rw [← slot] at announcing
  by_cases idleNow : g.idleCond i = true
  · obtain ⟨cause, rule⟩ : ∃ cause, idleRule i g = enterIdle i (slotLeft i (localRemove i cause g)) :=
      ⟨_, by simp only [idleRule, announcing]; rfl⟩
    obtain ⟨slot1, filter1, -, -, -⟩ := localRemove_keeps i cause g
    obtain ⟨slot2, filter2, -, roster2, -, -, selected2, -⟩ := slotLeft_keeps i (localRemove i cause g)
    simp only [if_pos idleNow, rule, enterIdle_slot, slot2, slot1]
    exact ⟨⟨(congrArg Roster.keys roster2).trans (keys_localRemove ..), trivial⟩, filter2.trans filter1, selected2⟩
  · by_cases opens : g.gateOpen i = true
    · simp only [if_neg idleNow, if_pos opens, enterEnabled_slot]
      exact ⟨⟨⟨rfl, rfl, rfl, rfl⟩, trivial⟩, rfl, selected⟩
    · obtain ⟨slot1, filter1, -, desc1, -⟩ := localRemove_keeps i .gate g
      simp only [if_neg idleNow, if_neg opens, enterHeld_slot, slot1]
      refine ⟨⟨keys_localRemove .., trivial⟩, filter1, fun d commit => selected d ?_⟩
      rw [← desc1]
      exact commit

end

/-- Settles O8. -/
theorem pulseEndAppliesTheGate : Obligations.PulseEndAppliesTheGate := by
  unfold Obligations.PulseEndAppliesTheGate
  intro i n s announcing timer
  obtain ⟨outcome, filter, selected⟩ := pulse_ends i (Hap.start s) (Slot.timed_iff.mpr ⟨announcing, timer ▸ nofun⟩)
  have moved := moves_pulseExpired (i := i) (Hap.start s)
  have row : exec (.pulseTimerExpiry i) s = .next (finish (pulseExpired i (Hap.start s))) := rfl
  generalize pulseExpired i (Hap.start s) = h at moved outcome filter selected row
  obtain ⟨ends, slot', filter', -, memory, frame⟩ := slot_finish moved
  refine ⟨_, row.trans (congrArg Host.Outcome.next ends), ?_, fun d commit => selected d ?_, filter'.trans filter, memory, frame⟩
  · rw [show (closing h).toState.slot i = h.slot i from slot']
    split at outcome
    · next idle =>
      rw [if_pos (show s.idleCond i = true from idle)]
      exact ⟨entryGone_closing outcome.1, outcome.2⟩
    · next busy =>
      rw [if_neg (show ¬ s.idleCond i = true from busy)]
      split at outcome
      · next opens =>
        obtain ⟨⟨roster, settled, clean, flags⟩, slot⟩ := outcome
        rw [if_pos (show s.gateOpen i = true from opens)]
        exact ⟨(closing_roster_still settled clean flags).trans roster, slot⟩
      · next shut =>
        rw [if_neg (show ¬ s.gateOpen i = true from shut)]
        exact ⟨entryGone_closing outcome.1, outcome.2⟩
  · rw [← closing_desc h]
    exact commit

section
variable {h : Hap} {i : SlotId}

/-! ### The ends of an eject (R43, R68) -/

theorem endBurst_unpinned (unpinned : (h.target i).pin = none) : endBurst i h = h := by
  cases phase : (h.target i).phase with
  | burst b => simp [Target.pin, phase] at unpinned
  | ready | holding => simp only [endBurst, phase]

theorem unburst_unpinned {t : Target} (unpinned : t.pin = none) : t.unburst = t := by
  cases phase : t.phase with
  | burst b => simp [Target.pin, phase] at unpinned
  | ready | holding => simp only [Target.unburst, phase]

/-- With no burst, a slot is shut by the removal of its entry. -/
theorem shutSlot_unpinned (cause : Cause) (unpinned : (h.target i).pin = none) :
    (shutSlot i cause h).desc = h.desc ∧ (shutSlot i cause h).ops = h.ops := by
  rw [shutSlot, enDrop, endBurst_unpinned unpinned]
  have released := (moves_budgetRelease (i := i) h).atRoster
  have removed := released.trans (moves_localRemove_roster i cause (budgetRelease i h))
  exact ⟨removed.desc_eq rfl rfl, removed.frame .ops rfl⟩

/-- At most one record, MODULE_LEFT, is queued where a slot without a burst is shut. -/
theorem spares_shutSlot {k : EvKind} {l : Locus} (notConflict : k ≠ .serialConflict) (notLeft : k ≠ .moduleLeft) (cause : Cause)
    (unpinned : (h.target i).pin = none) : Spares k l 1 h (shutSlot i cause h) := by
  rw [shutSlot, enDrop, endBurst_unpinned unpinned]
  exact ((spares_of_ev (budgetRelease_ev i h)).trans (spares_localRemove notConflict notLeft i cause _)).mono (by omega)

/-- What the end of an eject leaves, told by the slot, its line, its target and the rest. -/
theorem ejected_keeps (result : EjectResult) (unpinned : (h.target i).pin = none) :
    (enterParked i .ejected (endEject i .ejected result h)).slot i =
        { h.slot i with state := .parked, parkReason := .ejected, timer := none, ejectRequested := false, ejectOp := 0 } ∧
      (enterParked i .ejected (endEject i .ejected result h)).filter i = h.filter i ∧
      (enterParked i .ejected (endEject i .ejected result h)).target i = h.target i ∧
      (enterParked i .ejected (endEject i .ejected result h)).roster.keys =
        h.roster.keys.filter (fun k => decide (k ≠ localKey i)) ∧
      (enterParked i .ejected (endEject i .ejected result h)).ops = h.ops.release (h.slot i).ejectOp ∧
      (enterParked i .ejected (endEject i .ejected result h)).desc = h.desc := by
  obtain ⟨slot, filter, target, -⟩ := shutSlot_keeps i .ejected h
  have keys := shutSlot_keys i .ejected h
  obtain ⟨desc, ops⟩ := shutSlot_unpinned (i := i) .ejected unpinned
  obtain ⟨ev, entered, drain, same⟩ := endEject_shape i .ejected result h
  rw [same]
  generalize shutSlot i .ejected h = g at slot filter target keys desc ops
  rw [← unburst_unpinned unpinned, ← slot, ← filter, ← target, ← keys, ← desc, ← ops]
  exact ⟨setSlot_slot_self (h := { g with ev := ev, entered := entered, drainDue := drain, ops := _ }) _, rfl, rfl, rfl, rfl, rfl⟩

theorem ejected_ev (result : EjectResult) (h : Hap) : (enterParked i .ejected (endEject i .ejected result h)).ev =
    (raise (latchedOcc .opDone (opLocus (some i) (h.slot i).ejectOp) (detailOf (ejectResultCode result)))
      (shutSlot i .ejected h)).ev := by
  unfold endEject
  generalize shutSlot i .ejected h = g
  rfl

/-- OP_DONE stands in the queue once the happening that ends an eject has closed. -/
theorem ejected_record {pr : Fin 4} {s : State} {h' : Hap} (result : EjectResult) (unpinned : (s.target i).pin = none)
    (takes : s.ev.takesNew pr .opDone (opLocus (some i) (s.slot i).ejectOp)) (room : s.ev.queue.length + 5 ≤ 32)
    (same : h'.ev = (enterParked i .ejected (endEject i .ejected result (Hap.start s))).ev) :
    ∃ r ∈ (closing h').ev.queue, r.kind = .opDone ∧ r.locus = opLocus (some i) (s.slot i).ejectOp ∧ r.style = .latched ∧
      r.priority = pr ∧ r.detail = detailOf (ejectResultCode result) := by
  have shut := spares_shutSlot (k := .opDone) (l := opLocus (some i) (s.slot i).ejectOp) (h := Hap.start s) (i := i) nofun nofun
    .ejected unpinned
  have event := same.trans (ejected_ev (i := i) result (Hap.start s))
  generalize shutSlot i .ejected (Hap.start s) = g at shut event
  have length : g.ev.queue.length ≤ s.ev.queue.length + 1 := shut.length
  have taken := shut.takesNew (pr := pr) takes (show s.ev.queue.length + 1 < 32 by omega)
  have closed := spares_closing (k := .opDone) (l := opLocus (some i) (s.slot i).ejectOp) nofun nofun h'
  have ends : Spares .opDone (opLocus (some i) (s.slot i).ejectOp) 2 (raise (latchedOcc .opDone (opLocus (some i) (s.slot i).ejectOp)
      (detailOf (ejectResultCode result))) g) (closing h') := by
    refine ((spares_of_ev event).trans closed).mono ?_
    split <;> omega
  exact raise_spared (o := latchedOcc .opDone (opLocus (some i) (s.slot i).ejectOp) (detailOf (ejectResultCode result)))
    taken ends (by omega)

end

/-- Settles O7. -/
theorem ejectEndsByTimerOrRelease : Obligations.EjectEndsByTimerOrRelease := by
  unfold Obligations.EjectEndsByTimerOrRelease
  intro i pr s c result leaving which unpinned takes room
  obtain ⟨slot, filter, target, keys, ops, desc⟩ := ejected_keeps (h := Hap.start s) (i := i) result unpinned
  rcases which with ⟨rfl, timer, rfl⟩ | ⟨rfl, rfl⟩
  · have expired : ejectExpired i (Hap.start s) = enterParked i .ejected (endEject i .ejected .forced (Hap.start s)) :=
      if_pos (Slot.timed_iff.mpr ⟨leaving, timer⟩)
    have moved := moves_ejectExpired (i := i) (Hap.start s)
    have row : exec (.ejectTimerExpiry i) s = .next (finish (ejectExpired i (Hap.start s))) := rfl
    have record := ejected_record (h' := ejectExpired i (Hap.start s)) .forced unpinned takes room (by rw [expired])
    rw [← expired] at slot filter target keys ops desc
    generalize ejectExpired i (Hap.start s) = h at moved slot filter target keys ops desc row record
    obtain ⟨ends, slot', filter', target', memory, frame⟩ := slot_finish moved
    refine ⟨_, row.trans (congrArg Host.Outcome.next ends), slot'.trans slot, congrArg (fun x : Slot => x.state.en) (slot'.trans slot),
      filter'.trans filter, entryGone_closing keys, (closing_ops h).trans ops, record, ?_, (closing_desc h).trans desc, memory, frame⟩
    rw [if_neg nofun]
    exact target'.trans target
  · have written : slotWrite i [4] (Hap.start s) =
        holdResponse i [slotResultCode .ok] (enterParked i .ejected (endEject i .ejected .released (Hap.start s))) := by
      have started : ((Hap.start s).slot i).state = .leaving := leaving
      show releaseCmd i (endBurst i (Hap.start s)) = _
      rw [endBurst_unpinned (h := Hap.start s) unpinned, releaseCmd, started]
      rfl
    have moved := moves_slotWrite (i := i) (Hap.start s) [4]
    have row : exec (.release i) s = .next (finish (slotWrite i [4] (Hap.start s))) := rfl
    have record := ejected_record (h' := slotWrite i [4] (Hap.start s)) .released unpinned takes room (by rw [written]; rfl)
    generalize enterParked i .ejected (endEject i .ejected .released (Hap.start s)) = g at slot filter target keys ops desc written
    have answer : (holdResponse i [slotResultCode .ok] g).target i = { g.target i with phase := .holding [slotResultCode .ok] 0 } :=
      setTarget_target_self _
    rw [target] at answer
    rw [show g.slot i = (holdResponse i [slotResultCode .ok] g).slot i from rfl] at slot
    rw [show g.filter i = (holdResponse i [slotResultCode .ok] g).filter i from rfl] at filter
    rw [show g.roster = (holdResponse i [slotResultCode .ok] g).roster from rfl] at keys
    rw [show g.ops = (holdResponse i [slotResultCode .ok] g).ops from rfl] at ops
    rw [show g.desc = (holdResponse i [slotResultCode .ok] g).desc from rfl] at desc
    rw [← written] at slot filter answer keys ops desc
    generalize slotWrite i [4] (Hap.start s) = h at moved slot filter answer keys ops desc row record
    obtain ⟨ends, slot', filter', target', memory, frame⟩ := slot_finish moved
    refine ⟨_, row.trans (congrArg Host.Outcome.next ends), slot'.trans slot, congrArg (fun x : Slot => x.state.en) (slot'.trans slot),
      filter'.trans filter, entryGone_closing keys, (closing_ops h).trans ops, record, ?_, (closing_desc h).trans desc, memory, frame⟩
    rw [if_pos rfl]
    exact target'.trans answer

end Sys2Proof.Machine
end

section
/-! PROOF. The gate's rules on a slot (R32 to R37, R47, R48), SLOT RESUME (O22) and the slot settings (O21). -/

namespace Sys2Proof.Machine

section
variable {h : Hap} {i : SlotId} {k : EvKind} {l : Locus}

/-! ### Where the rules take a slot -/

theorem enterIdle_keeps (i : SlotId) (h : Hap) :
    (enterIdle i h).filter i = h.filter i ∧ (enterIdle i h).roster = h.roster ∧ (enterIdle i h).ev = h.ev ∧
      (enterIdle i h).target i = { h.target i with lastResult := none } :=
  ⟨rfl, rfl, rfl, setTarget_target_self _⟩

theorem endEject_keeps (i : SlotId) (cause : Cause) (result : EjectResult) (h : Hap) :
    (endEject i cause result h).slot i = h.slot i ∧ (endEject i cause result h).filter i = h.filter i ∧
      (endEject i cause result h).target i = (h.target i).unburst ∧
      (endEject i cause result h).roster.keys = h.roster.keys.filter fun k => decide (k ≠ localKey i) := by
  obtain ⟨slot, filter, target, -⟩ := shutSlot_keeps i cause h
  have keys := shutSlot_keys i cause h
  obtain ⟨ev, entered, drain, same⟩ := endEject_shape i cause result h
  rw [same]
  exact ⟨slot, filter, target, keys⟩

theorem endCond_not_holds (k : EvKind) (l : Locus) (h : Hap) : (endCond k l h).ev.localHolds k l = false := by
  unfold endCond
  split
  · have out : ∀ cs : List CondId, cs = (h.ev.localConds.filter fun c => !(decide (c.kind = k) && decide (c.locus = l))) →
        ({ h.ev with localConds := cs } : EventUnit).localHolds k l = false := fun cs conds => by
      simp [EventUnit.localHolds, conds]
    simp only
    split
    · exact out _ rfl
    · rw [(spares_markEnded k l _).holds]
      exact out _ rfl
  · next held => simpa using held

/-- What a slot's entry leaves behind has the roster advance (R20). -/
theorem afterRemoval_dirty (e : Entry) (dirty : h.dirty = true) : (afterRemoval e h).dirty = true := by
  have ended : ∀ (k : EvKind) (l : Locus) (g : Hap), g.dirty = true → (endCond k l g).dirty = true := fun k l g dirty => by
    obtain ⟨ev, entered, drain, same⟩ := shape_of_offEv (endCond_offEv (h := g) k l)
    rw [same]
    exact dirty
  have promoted : ∀ g : Hap, g.dirty = true → (promote e.serial g).dirty = true := fun g dirty => by
    unfold promote
    split
    · exact dirty
    · unfold promoteEntry
      split
      · exact ended _ _ _ rfl
      · split
        · unfold budgetJoin
          split
          · exact ended _ _ _ rfl
          · exact ended _ _ _ rfl
        · exact ended _ _ _ rfl
        · exact ended _ _ _ rfl
        · exact ended _ _ _ rfl
        · exact dirty
        · exact dirty
        · exact dirty
        · exact dirty
  unfold afterRemoval
  simp only
  split
  · split
    · exact promoted _ (ended _ _ _ dirty)
    · exact promoted _ dirty
  · split
    · exact ended _ _ _ dirty
    · exact dirty

theorem localRemove_dirty (cause : Cause) (held : h.localEntry i ≠ none) : (localRemove i cause h).dirty = true := by
  unfold localRemove
  split
  · next none => exact absurd none held
  · next e _ =>
    obtain ⟨ev, entered, drain, same⟩ := shape_of_offEv (raiseLatched_offEv (dropEntry e.key (budgetRelease i h)) .moduleLeft
      (keyLocus e.key) (detailOf (causeCode cause)))
    simp only
    rw [same]
    exact afterRemoval_dirty e rfl

theorem shutSlot_dirty (cause : Cause) (held : h.localEntry i ≠ none) : (shutSlot i cause h).dirty = true := by
  obtain ⟨commit, ops, ev, entered, drain, burst⟩ := endBurst_shape i h
  have keys : (enDrop i h).roster.keys = h.roster.keys := by
    rw [enDrop, keys_of_calm (moves_budgetRelease _), burst]
    rfl
  refine localRemove_dirty cause fun none => held ?_
  rw [localEntry_none_iff] at none ⊢
  rwa [keys] at none

/-- Where the idle rule takes a slot that is not in IDLE: its EN drops, and with it, or with the pulse, its entry goes; the
commit no longer waits for it, and SLOT_PARKED ends (R30, R36, R88). -/
theorem idleRule_enters (i : SlotId) (h : Hap) (busy : (h.slot i).state ≠ .idle) :
    ∃ x, idleRule i h = enterIdle i x ∧ x.slot i = h.slot i ∧ x.filter i = h.filter i ∧
      x.target i = (if (h.slot i).state.en = true then (h.target i).unburst else h.target i) ∧
      (if (h.slot i).state = .held ∨ (h.slot i).state = .delaying ∨ (h.slot i).state = .parked then
         x.roster = h.roster ∧ x.settleDue = h.settleDue ∧ x.dirty = h.dirty ∧ x.flagsDue = h.flagsDue
       else (x.roster.keys = h.roster.keys.filter fun k => decide (k ≠ localKey i)) ∧
         (h.localEntry i ≠ none → x.dirty = true)) ∧
      ((h.slot i).state = .parked → x.ev.localHolds .slotParked (slotLocus i) = false) ∧
      ((h.slot i).state = .announcing → ∀ d, x.desc.commit = some d → i ∉ d.selected) := by
  unfold idleRule
  cases state : (h.slot i).state with
  | idle => exact absurd state busy
  | held | delaying => exact ⟨h, rfl, rfl, rfl, rfl, ⟨rfl, rfl, rfl, rfl⟩, nofun, nofun⟩
  | enabled | online =>
    obtain ⟨slot, filter, target, -⟩ := shutSlot_keeps i (if (h.slot i).policy = .manual then .gate else .vacated) h
    exact ⟨_, by simp only [decide_eq_true_eq], slot, filter, target,
      ⟨shutSlot_keys .., shutSlot_dirty _⟩, nofun, nofun⟩
  | leaving =>
    obtain ⟨slot, filter, target, keys⟩ := endEject_keeps i (if (h.slot i).policy = .manual then .gate else .vacated)
      (if (h.slot i).policy = .manual then .gate else .vacated) h
    refine ⟨_, by simp only [decide_eq_true_eq], slot, filter, target, ⟨keys, fun held => ?_⟩, nofun, nofun⟩
    obtain ⟨ev, entered, drain, same⟩ := endEject_shape i (if (h.slot i).policy = .manual then .gate else .vacated)
      (if (h.slot i).policy = .manual then .gate else .vacated) h
    rw [same]
    exact shutSlot_dirty _ held
  | announcing =>
    obtain ⟨slot, filter, target, -, -⟩ := localRemove_keeps i (if (h.slot i).policy = .manual then .gate else .vacated) h
    have keys := keys_localRemove (i := i) h (if (h.slot i).policy = .manual then .gate else .vacated)
    obtain ⟨slot', filter', target', roster', -, -, selected, -, dirty', -⟩ := slotLeft_keeps i
      (localRemove i (if (h.slot i).policy = .manual then .gate else .vacated) h)
    exact ⟨_, by simp only [decide_eq_true_eq], slot'.trans slot, filter'.trans filter, target'.trans target,
      ⟨(congrArg Roster.keys roster').trans keys, fun held => dirty'.trans (localRemove_dirty _ held)⟩, nofun,
      fun _ => selected⟩
  | parked =>
    obtain ⟨ev, entered, drain, same⟩ := shape_of_offEv (endCond_offEv (h := h) .slotParked (slotLocus i))
    refine ⟨_, rfl, ?_, ?_, ?_, ?_, fun _ => endCond_not_holds .., nofun⟩ <;> rw [same]
    · rfl
    · rfl
    · rfl
    · exact ⟨rfl, rfl, rfl, rfl⟩

/-- The settings of a slot (R47, R48). -/
def Slot.settings (sl : Slot) : Policy × Byte × Byte × Byte × Bool :=
  (sl.policy, sl.settle, sl.enableDelay, sl.checkinLimit, sl.permit)

/-- What every rule on a slot keeps: its settings and its line. -/
structure SlotKeeps (i : SlotId) (h h' : Hap) : Prop where
  settings : (h'.slot i).settings = (h.slot i).settings
  filter : h'.filter i = h.filter i

/-- A step that changes slots and targets alone. -/
def Hap.reslotted (h h' : Hap) : Prop := ∃ slots targets, h' = { h with slots := slots, targets := targets }

theorem enterIdle_spec (i : SlotId) (h : Hap) : ((enterIdle i h).slot i).state = .idle ∧ SlotKeeps i h (enterIdle i h) ∧
    h.reslotted (enterIdle i h) ∧ ((enterIdle i h).slot i).parkReason = .none :=
  ⟨congrArg Slot.state (enterIdle_slot i h), ⟨(congrArg Slot.settings (enterIdle_slot i h)).trans rfl, rfl⟩, ⟨_, _, rfl⟩,
    congrArg Slot.parkReason (enterIdle_slot i h)⟩

theorem enterHeld_spec (i : SlotId) (h : Hap) : ((enterHeld i h).slot i).state = .held ∧ SlotKeeps i h (enterHeld i h) ∧
    h.reslotted (enterHeld i h) ∧ ((enterHeld i h).slot i).parkReason = .none :=
  ⟨congrArg Slot.state (enterHeld_slot i h), ⟨(congrArg Slot.settings (enterHeld_slot i h)).trans rfl, rfl⟩, ⟨_, h.targets, rfl⟩,
    congrArg Slot.parkReason (enterHeld_slot i h)⟩

theorem enterEnabled_spec (i : SlotId) (h : Hap) : ((enterEnabled i h).slot i).state = .enabled ∧
    SlotKeeps i h (enterEnabled i h) ∧ h.reslotted (enterEnabled i h) ∧ ((enterEnabled i h).slot i).parkReason = .none :=
  ⟨congrArg Slot.state (enterEnabled_slot i h), ⟨(congrArg Slot.settings (enterEnabled_slot i h)).trans rfl, rfl⟩, ⟨_, h.targets, rfl⟩,
    congrArg Slot.parkReason (enterEnabled_slot i h)⟩

theorem enterDelaying_spec (i : SlotId) (h : Hap) :
    ((enterDelaying i h).slot i).state = (if (h.slot i).enableDelay = 0 then .enabled else .delaying) ∧
      SlotKeeps i h (enterDelaying i h) ∧ h.reslotted (enterDelaying i h) ∧ ((enterDelaying i h).slot i).parkReason = .none := by
  by_cases zero : (h.slot i).enableDelay = 0
  · have enters : enterDelaying i h = enterEnabled i h := if_pos zero
    rw [enters, if_pos zero]
    exact enterEnabled_spec i h
  · have enters : enterDelaying i h = h.setSlot i { h.slot i with
        state := .delaying, parkReason := .none, timer := some (10 * (h.slot i).enableDelay.toNat) } := if_neg zero
    rw [enters, if_neg zero]
    have slot := setSlot_slot_self (h := h) (i := i) { h.slot i with
      state := .delaying, parkReason := .none, timer := some (10 * (h.slot i).enableDelay.toNat) }
    exact ⟨congrArg Slot.state slot, ⟨(congrArg Slot.settings slot).trans rfl, rfl⟩, ⟨_, h.targets, rfl⟩,
      congrArg Slot.parkReason slot⟩

theorem idleRule_idle (idle : (h.slot i).state = .idle) : idleRule i h = h := by simp only [idleRule, idle]

/-- A slot that loses EN by the closing rule loses its entry (R35). -/
theorem closingRule_enters (i : SlotId) (h : Hap) :
    ((closingRule i h).slot i).state = (h.slot i).state.evaluated false false
        (decide ((h.slot i).policy = .manual)) (decide ((h.slot i).enableDelay = 0)) ∧
      SlotKeeps i h (closingRule i h) ∧
      ((h.slot i).state.en = true → (closingRule i h).roster.keys = h.roster.keys.filter fun k => decide (k ≠ localKey i)) := by
  have held : ∀ g : Hap, g.slot i = h.slot i → g.filter i = h.filter i →
      ((enterHeld i g).slot i).state = .held ∧ SlotKeeps i h (enterHeld i g) ∧ (enterHeld i g).roster = g.roster :=
    fun g slot filter => by
      obtain ⟨state, keeps, -⟩ := enterHeld_spec i g
      exact ⟨state, ⟨keeps.settings.trans (by rw [slot]), keeps.filter.trans filter⟩, rfl⟩
  unfold closingRule
  cases state : (h.slot i).state with
  | idle | delaying =>
    obtain ⟨enters, keeps, -⟩ := held h rfl rfl
    exact ⟨enters, keeps, nofun⟩
  | enabled | online =>
    obtain ⟨slot, filter, -, -⟩ := shutSlot_keeps i .gate h
    obtain ⟨enters, keeps, -⟩ := held _ slot filter
    exact ⟨enters, keeps, fun _ => shutSlot_keys i .gate h⟩
  | leaving =>
    obtain ⟨slot, filter, -, keys⟩ := endEject_keeps i .gate .gate h
    obtain ⟨enters, keeps, -⟩ := held _ slot filter
    exact ⟨enters, keeps, fun _ => keys⟩
  | held | parked | announcing => exact ⟨state, ⟨rfl, rfl⟩, nofun⟩

/-- Where the opening rule takes a slot (R32 to R34). -/
theorem openingRule_enters (i : SlotId) (h : Hap) :
    ((openingRule i h).slot i).state = (h.slot i).state.evaluated false true
        (decide ((h.slot i).policy = .manual)) (decide ((h.slot i).enableDelay = 0)) ∧
      SlotKeeps i h (openingRule i h) ∧ h.reslotted (openingRule i h) ∧
      ((h.slot i).state.en = true → openingRule i h = h) := by
  obtain ⟨delaying, keepsDelaying, shapeDelaying, -⟩ := enterDelaying_spec i h
  obtain ⟨enabled, keepsEnabled, shapeEnabled, -⟩ := enterEnabled_spec i h
  unfold openingRule
  cases state : (h.slot i).state with
  | idle =>
    simp only
    split
    · next manual => exact ⟨by simp [enabled, SlotState.evaluated, manual], keepsEnabled, shapeEnabled, nofun⟩
    · next other =>
      exact ⟨by simp [delaying, SlotState.evaluated, other], keepsDelaying, shapeDelaying, nofun⟩
  | held => exact ⟨by simp [delaying, SlotState.evaluated], keepsDelaying, shapeDelaying, nofun⟩
  | delaying | enabled | online | leaving | announcing | parked =>
    exact ⟨state, ⟨rfl, rfl⟩, ⟨h.slots, h.targets, rfl⟩, fun _ => rfl⟩

/-- Where the gate takes a slot, what it keeps, and that with EN its entry goes (R32 to R37). -/
theorem evaluate_spec (i : SlotId) (h : Hap) :
    ((evaluate i h).slot i).state = (h.slot i).state.evaluated (h.idleCond i) (h.gateOpen i)
        (decide ((h.slot i).policy = .manual)) (decide ((h.slot i).enableDelay = 0)) ∧
      SlotKeeps i h (evaluate i h) ∧
      ((h.slot i).state.en = true → ((evaluate i h).slot i).state.en = false →
        (evaluate i h).roster.keys = h.roster.keys.filter fun k => decide (k ≠ localKey i)) := by
  unfold evaluate
  by_cases idle : h.idleCond i = true
  · rw [if_pos idle, idle]
    by_cases busy : (h.slot i).state = .idle
    · rw [idleRule_idle busy]
      exact ⟨busy, ⟨rfl, rfl⟩, by rw [busy]; nofun⟩
    · obtain ⟨x, rule, slot, filter, -, roster, -, -⟩ := idleRule_enters i h busy
      obtain ⟨state, keeps, -⟩ := enterIdle_spec i x
      rw [rule]
      refine ⟨state, ⟨keeps.settings.trans (by rw [slot]), keeps.filter.trans filter⟩, fun en _ => ?_⟩
      rw [if_neg (by rintro (s | s | s) <;> simp [s, SlotState.en] at en)] at roster
      exact roster.1
  · rw [if_neg idle, Bool.eq_false_of_not_eq_true idle]
    by_cases opens : h.gateOpen i = true
    · obtain ⟨state, keeps, -, still⟩ := openingRule_enters i h
      rw [if_pos opens, opens]
      exact ⟨state, keeps, fun en lost => by rw [still en, en] at lost; cases lost⟩
    · obtain ⟨state, keeps, keys⟩ := closingRule_enters i h
      rw [if_neg opens, Bool.eq_false_of_not_eq_true opens]
      exact ⟨state, keeps, fun en _ => keys en⟩

/-! ### Requests of a root's host that a happening follows -/

/-- The happening with the reply remembered and handed on. -/
def Hap.answered (h : Hap) (f : HostFrame) (kind : ReplyKind) (payload : List Byte) : Hap :=
  { h with host := h.host.replied f kind payload }

end

section
variable {s : State} {h : Hap} {i : SlotId} {f : HostFrame} {c : Instr} {a : Answer} {kind : ReplyKind} {payload : List Byte}

/-- A request executed by its owning rule is answered behind it, and the happening closes. -/
theorem exec_answered (frame : hostFrameOf c = some f) (short : f.payload.length ≤ 200) (ready : s.ready f = true)
    (judged : judge (.host f.tag) f.kind f.payload (Hap.start s) = (h, a)) (reply : a.reply = some (kind, payload))
    (mark : a.mark = none) : exec c s = .next (finish (h.answered f kind payload)) := by
  rw [exec_eq_hostRow frame short, hostRow_ready ready, judged]
  have answered : answerHost f a h = h.answered f kind payload := by
    simp only [answerHost, reply, mark]
    rfl
  rw [answered]

theorem answered_memory (h : Hap) (f : HostFrame) (kind : ReplyKind) (payload : List Byte) :
    (closing (h.answered f kind payload)).toState.remembers f kind payload :=
  (closing_memory _).trans (HostLink.replied_memory ..)

theorem replied_rx (l : HostLink) (f : HostFrame) (kind : ReplyKind) (payload : List Byte) :
    (l.replied f kind payload).rx = l.rx ∧ (l.replied f kind payload).buffer = l.buffer := by
  unfold HostLink.replied HostLink.hand
  split
  · exact ⟨rfl, rfl⟩
  · split <;> exact ⟨rfl, rfl⟩

/-- A slot's request that is answered has, with its end, the statements' frame. -/
theorem answered_frame (m : Moves (slotParts i) (Hap.start s) h) :
    finish (h.answered f kind payload) = (closing (h.answered f kind payload)).toState ∧
      State.slotFrame i s (closing (h.answered f kind payload)).toState := by
  refine ⟨finish_eq (m.frame .resetDue rfl), slotFrame_of_same fun x own memory out => ?_⟩
  have same := m.frame x own
  cases x
  case hostMemory => exact absurd rfl memory
  case hostOut => exact absurd rfl out
  case hostRx => exact (replied_rx h.host f kind payload).1.trans same
  case hostBuffer => exact (replied_rx h.host f kind payload).2.trans same
  all_goals exact same

end

section
variable {h : Hap} {i : SlotId}

/-! ### SLOT RESUME (R41) -/

/-- A slot whose SLOT_PARKED has ended, before it goes on. -/
def Hap.unparked (h : Hap) (i : SlotId) (ev : EventUnit) (entered : List (Fin 4)) (drain : Bool) : Hap :=
  { h with ev := ev, entered := entered, drainDue := drain }.setSlot i { h.slot i with parkReason := .none }

theorem unparked_keeps (i : SlotId) (h : Hap) (ev : EventUnit) (entered : List (Fin 4)) (drain : Bool) :
    (h.unparked i ev entered drain).slot i = { h.slot i with parkReason := .none } ∧
      (h.unparked i ev entered drain).filter i = h.filter i ∧
      (h.unparked i ev entered drain).idleCond i = h.idleCond i ∧
      (h.unparked i ev entered drain).gateOpen i = h.gateOpen i := by
  have slot : (h.unparked i ev entered drain).slot i = { h.slot i with parkReason := .none } := setSlot_slot_self _
  refine ⟨slot, rfl, ?_, ?_⟩
  · simp only [State.idleCond, slot]
    rfl
  · simp only [State.gateOpen, slot]
    rfl

/-- A resumed slot goes where its gate takes it, and SLOT_PARKED ends. -/
theorem resumeSlot_spec (i : SlotId) (h : Hap) :
    ((resumeSlot i h).slot i).state =
        (if h.idleCond i = true then .idle
         else if (h.slot i).policy = .manual then .enabled
         else if h.gateOpen i = true then (if (h.slot i).enableDelay = 0 then .enabled else .delaying)
         else .held) ∧
      ((resumeSlot i h).slot i).parkReason = .none ∧ SlotKeeps i h (resumeSlot i h) ∧
      (resumeSlot i h).roster = h.roster ∧ (resumeSlot i h).ops = h.ops ∧ (resumeSlot i h).settleDue = h.settleDue ∧
      (resumeSlot i h).dirty = h.dirty ∧ (resumeSlot i h).flagsDue = h.flagsDue ∧
      (resumeSlot i h).ev.localHolds .slotParked (slotLocus i) = false := by
  have ended := endCond_not_holds .slotParked (slotLocus i) h
  obtain ⟨ev, entered, drain, same⟩ := shape_of_offEv (endCond_offEv (h := h) .slotParked (slotLocus i))
  rw [same] at ended
  have unparked : resumeSlot i h = if (h.unparked i ev entered drain).idleCond i = true then
        enterIdle i (h.unparked i ev entered drain)
      else if ((h.unparked i ev entered drain).slot i).policy = .manual then enterEnabled i (h.unparked i ev entered drain)
      else if (h.unparked i ev entered drain).gateOpen i = true then enterDelaying i (h.unparked i ev entered drain)
      else enterHeld i (h.unparked i ev entered drain) := by
    unfold resumeSlot
    rw [same]
    rfl
  obtain ⟨slot, filter, idle, gate⟩ := unparked_keeps i h ev entered drain
  have policy : ((h.unparked i ev entered drain).slot i).policy = (h.slot i).policy := (congrArg Slot.policy slot).trans rfl
  have delay : ((h.unparked i ev entered drain).slot i).enableDelay = (h.slot i).enableDelay :=
    (congrArg Slot.enableDelay slot).trans rfl
  have enters : ∀ (st : SlotState) (x : Hap), (x.slot i).state = st → SlotKeeps i (h.unparked i ev entered drain) x →
      (h.unparked i ev entered drain).reslotted x → (x.slot i).parkReason = .none →
      (x.slot i).state = st ∧ (x.slot i).parkReason = .none ∧ SlotKeeps i h x ∧ x.roster = h.roster ∧ x.ops = h.ops ∧
        x.settleDue = h.settleDue ∧ x.dirty = h.dirty ∧ x.flagsDue = h.flagsDue ∧
        x.ev.localHolds .slotParked (slotLocus i) = false := by
    intro st x state keeps shape reason
    obtain ⟨slots, targets, rfl⟩ := shape
    exact ⟨state, reason, ⟨keeps.settings.trans ((congrArg Slot.settings slot).trans rfl), keeps.filter.trans filter⟩,
      rfl, rfl, rfl, rfl, rfl, ended⟩
  rw [unparked, idle, policy, gate]
  split
  · obtain ⟨state, keeps, shape, reason⟩ := enterIdle_spec i (h.unparked i ev entered drain)
    exact enters _ _ state keeps shape reason
  · split
    · obtain ⟨state, keeps, shape, reason⟩ := enterEnabled_spec i (h.unparked i ev entered drain)
      exact enters _ _ state keeps shape reason
    · split
      · obtain ⟨state, keeps, shape, reason⟩ := enterDelaying_spec i (h.unparked i ev entered drain)
        exact enters _ _ (state.trans (by rw [delay])) keeps shape reason
      · obtain ⟨state, keeps, shape, reason⟩ := enterHeld_spec i (h.unparked i ev entered drain)
        exact enters _ _ state keeps shape reason

end

/-- Settles O22. -/
theorem slotResumeLeavesParked : Obligations.SlotResumeLeavesParked := by
  unfold Obligations.SlotResumeLeavesParked
  intro tag i s ready
  have judged : judge (.host tag) 0x12 [slotByte i] (Hap.start s) = reqSlotResume i (Hap.start s) := by
    rw [judge_of_req (r := .slotResume (slotByte i)) rfl rfl]
    simp only [execute, onSlot, slotOf_slotByte]
  refine ⟨fun elsewhere => ?_, fun parked => ?_⟩
  · refine exec_refused rfl (by simp) ready (judged.trans ?_)
    exact if_neg elsewhere
  · have answer : reqSlotResume i (Hap.start s) = slotStateAnswer i (resumeSlot i (Hap.start s)) := if_pos parked
    have row := exec_answered (c := .slotResume tag (slotByte i)) (f := ⟨0x12, tag, [slotByte i]⟩) rfl (by simp) ready
      (judged.trans answer) rfl rfl
    obtain ⟨state, reason, keeps, roster, ops, settled, clean, flags, ended⟩ := resumeSlot_spec i (Hap.start s)
    have moved := moves_resumeSlot (i := i) (Hap.start s)
    generalize resumeSlot i (Hap.start s) = h at row state reason keeps roster ops settled clean flags ended moved
    obtain ⟨ends, frame⟩ := answered_frame (f := ⟨0x12, tag, [slotByte i]⟩) (kind := .ok)
      (payload := [slotStateCode (h.slot i).state]) moved
    have slot := closing_slot (h.answered ⟨0x12, tag, [slotByte i]⟩ .ok [slotStateCode (h.slot i).state]) i
    refine ⟨_, row.trans (congrArg Host.Outcome.next ends), (congrArg Slot.state slot).trans state,
      (congrArg Slot.parkReason slot).trans reason, (congrArg Slot.policy slot).trans (congrArg Prod.fst keeps.settings),
      (congrArg Slot.permit slot).trans (congrArg (fun x => x.2.2.2.2) keeps.settings),
      (closing_holds (k := .slotParked) nofun nofun _ _).trans ended, (closing_filter _ i).trans keeps.filter,
      (closing_roster_still (h := h.answered _ _ _) settled clean flags).trans roster, (closing_ops _).trans ops, ?_, frame⟩
    rw [slot]
    exact answered_memory h _ .ok [slotStateCode (h.slot i).state]

end Sys2Proof.Machine
end

section
/-! PROOF. The slot settings (O21) and presence loss (O5). -/

namespace Sys2Proof.Machine

section
variable {s : State} {h : Hap} {i : SlotId} {slot : Byte} {f : SlotId → Hap → Hap × Answer}

/-! ### The slot settings (R47, R48) -/

/-- A slot request that names no slot, or that every slot refuses so, is refused BAD_ARGUMENT. -/
theorem onSlot_refused (bad : slotOf slot = none ∨ ∀ i, f i h = (h, .refuse .badArgument 0)) :
    onSlot slot f h = (h, .refuse .badArgument 0) := by
  unfold onSlot
  split
  · next i named => exact bad.elim (fun none => by rw [none] at named; cases named) fun all => all i
  · rfl

theorem reqSlotConfigure_refused {policy settle delay limit : Byte} (bad : 3 < policy.toNat ∨ settle = 0) (i : SlotId) (h : Hap) :
    reqSlotConfigure policy settle delay limit i h = (h, .refuse .badArgument 0) := by
  unfold reqSlotConfigure
  split
  · rfl
  · next p named =>
    rcases bad with bad | bad
    · rw [policyOf_none bad] at named
      cases named
    · exact if_pos bad

theorem reqSlotPermit_refused {value : Byte} (bad : 1 < value.toNat) (i : SlotId) (h : Hap) :
    reqSlotPermit value i h = (h, .refuse .badArgument 0) := by
  simp only [reqSlotPermit, boolOf_none bad]

theorem withSlot_own (s : State) (i : SlotId) (x : Slot) : (s.withSlot i x).slot i = x := setSlot_slot_self (h := Hap.start s) x

/-- A slot whose settings are stored goes where the evaluation, or the change to MANUAL, takes it. -/
theorem stored_evaluates (i : SlotId) (s : State) (x : Slot) (enters : Prop) [Decidable enters] (same : x.state = (s.slot i).state)
    (delaying : enters → (s.slot i).state = .delaying) {h : Hap} (goes : h = if enters then enterEnabled i (Hap.start (s.withSlot i x)) else evaluate i (Hap.start (s.withSlot i x))) :
    (h.slot i).state = (if enters then .enabled else (s.slot i).state.evaluated ((s.withSlot i x).idleCond i)
        ((s.withSlot i x).gateOpen i) (decide (((s.withSlot i x).slot i).policy = .manual))
        (decide (((s.withSlot i x).slot i).enableDelay = 0))) ∧
      (h.slot i).settings = ((s.withSlot i x).slot i).settings ∧ h.filter i = s.filter i ∧
      (s.enLine i = true → (h.slot i).state.en = false →
        h.roster.keys = s.roster.keys.filter fun k => decide (k ≠ localKey i)) := by
  have slot : (Hap.start (s.withSlot i x)).slot i = x := setSlot_slot_self (h := Hap.start s) x
  rw [withSlot_own]
  by_cases manual : enters
  · obtain ⟨state, keeps, -, -⟩ := enterEnabled_spec i (Hap.start (s.withSlot i x))
    rw [if_pos manual] at goes ⊢
    subst goes
    exact ⟨state, keeps.settings.trans (congrArg Slot.settings slot), keeps.filter, fun en _ =>
      absurd ((congrArg SlotState.en (delaying manual)).symm.trans en) Bool.false_ne_true⟩
  · obtain ⟨state, keeps, lost⟩ := evaluate_spec i (Hap.start (s.withSlot i x))
    rw [slot, same] at state lost
    rw [if_neg manual] at goes ⊢
    subst goes
    exact ⟨state, keeps.settings.trans (congrArg Slot.settings slot), keeps.filter, lost⟩

/-- What a stored setting leaves at the end of its request. -/
theorem settings_end {c : Instr} {f : HostFrame} {x : Slot} {st : SlotState}
    (row : exec c s = .next (finish (h.answered f .ok [slotStateCode (h.slot i).state])))
    (moved : Moves (slotParts i) (Hap.start s) h)
    (keeps : (h.slot i).state = st ∧ (h.slot i).settings = ((s.withSlot i x).slot i).settings ∧ h.filter i = s.filter i ∧
      (s.enLine i = true → (h.slot i).state.en = false →
        h.roster.keys = s.roster.keys.filter fun k => decide (k ≠ localKey i))) :
    ∃ t, exec c s = .next t ∧ (t.slot i).state = st ∧
      (t.slot i).policy = ((s.withSlot i x).slot i).policy ∧ (t.slot i).settle = ((s.withSlot i x).slot i).settle ∧
      (t.slot i).enableDelay = ((s.withSlot i x).slot i).enableDelay ∧
      (t.slot i).checkinLimit = ((s.withSlot i x).slot i).checkinLimit ∧
      (t.slot i).permit = ((s.withSlot i x).slot i).permit ∧ t.filter i = s.filter i ∧
      (s.enLine i = true → t.enLine i = false → State.entryGone i s t) ∧
      t.remembers f .ok [slotStateCode (t.slot i).state] ∧ State.slotFrame i s t := by
  obtain ⟨state, settings, filter, lost⟩ := keeps
  obtain ⟨ends, frame⟩ := answered_frame (f := f) (kind := .ok) (payload := [slotStateCode (h.slot i).state]) moved
  have slot := closing_slot (h.answered f .ok [slotStateCode (h.slot i).state]) i
  have kept : ((closing (h.answered f .ok [slotStateCode (h.slot i).state])).slot i).settings =
      ((s.withSlot i x).slot i).settings :=
    (congrArg Slot.settings slot).trans settings
  simp only [Slot.settings, Prod.mk.injEq] at kept
  obtain ⟨policy, settle, delay, limit, permit⟩ := kept
  refine ⟨_, row.trans (congrArg Host.Outcome.next ends), (congrArg Slot.state slot).trans state, policy, settle, delay, limit,
    permit, (closing_filter _ i).trans filter, fun en low => ?_, ?_, frame⟩
  · exact entryGone_closing (h := h.answered _ _ _)
      (lost en ((congrArg (fun y : Slot => y.state.en) slot).symm.trans low))
  · rw [slot]
    exact answered_memory h f .ok [slotStateCode (h.slot i).state]

end

/-- Settles O21. -/
theorem slotSettingsAreStoredAndEvaluated : Obligations.SlotSettingsAreStoredAndEvaluated := by
  unfold Obligations.SlotSettingsAreStoredAndEvaluated
  refine ⟨fun tag slot policy settle delay limit value s => ⟨fun bad ready => ?_, fun bad ready => ?_, fun bad =>
    ⟨fun ready => ?_, fun ready => ?_, fun ready => ?_⟩⟩, fun tag i policy settle delay limit v s stored c f ready which => ?_⟩
  · refine exec_refused rfl (by simp) ready ((judge_of_req (r := .slotConfigure slot policy settle delay limit) rfl rfl).trans ?_)
    exact onSlot_refused (bad.imp slotOf_none fun bad i => reqSlotConfigure_refused bad i _)
  · refine exec_refused rfl (by simp) ready ((judge_of_req (r := .slotPermit slot value) rfl rfl).trans ?_)
    exact onSlot_refused (bad.imp slotOf_none fun bad i => reqSlotPermit_refused bad i _)
  · refine exec_refused rfl (by simp) ready ((judge_of_req (r := .slotResume slot) rfl rfl).trans ?_)
    exact onSlot_refused (.inl (slotOf_none bad))
  · refine exec_refused rfl (by simp) ready ((judge_of_req (r := .slotEject slot) rfl rfl).trans ?_)
    exact onSlot_refused (.inl (slotOf_none bad))
  · refine exec_refused rfl (by simp) ready ((judge_of_req (r := .slotStatus slot) rfl rfl).trans ?_)
    exact onSlot_refused (f := fun i h => (h, .ok (slotStatusData h.toState i))) (.inl (slotOf_none bad))
  · rcases which with ⟨rfl, width, rfl, rfl⟩ | ⟨rfl, rfl, rfl⟩
    · have judged : judge (.host tag) 0x10 [slotByte i, policyCode policy, settle, delay, limit] (Hap.start s) =
          slotStateAnswer i (configureSlot i policy settle delay limit (Hap.start s)) := by
        rw [judge_of_req (r := .slotConfigure (slotByte i) (policyCode policy) settle delay limit) rfl rfl]
        simp only [execute, onSlot, slotOf_slotByte, reqSlotConfigure, policyOf_policyCode, if_neg width]
      have row := exec_answered (c := .slotConfigure tag (slotByte i) (policyCode policy) settle delay limit)
        (f := ⟨0x10, tag, [slotByte i, policyCode policy, settle, delay, limit]⟩) rfl (by simp) ready judged rfl rfl
      refine settings_end row (moves_configureSlot ..) (stored_evaluates i s _ _ ?_ ?_ ?_)
      · rfl
      · exact fun enters => enters.1
      · refine if_congr ?_ rfl rfl
        rw [withSlot_own]
        simp only [Bool.and_eq_true, decide_eq_true_eq]
        exact ⟨fun ⟨⟨⟨state, other⟩, manual⟩, permit⟩ => ⟨state, other, manual, permit, permit⟩,
          fun ⟨state, other, manual, permit, _⟩ => ⟨⟨⟨state, other⟩, manual⟩, permit⟩⟩
    · have judged : judge (.host tag) 0x11 [slotByte i, boolCode v] (Hap.start s) =
          slotStateAnswer i (permitSlot i v (Hap.start s)) := by
        rw [judge_of_req (r := .slotPermit (slotByte i) (boolCode v)) rfl rfl]
        simp only [execute, onSlot, slotOf_slotByte, reqSlotPermit, boolOf_boolCode]
      have row := exec_answered (c := .slotPermit tag (slotByte i) (boolCode v)) (f := ⟨0x11, tag, [slotByte i, boolCode v]⟩)
        rfl (by simp) ready judged rfl rfl
      refine settings_end row (moves_permitSlot ..) (stored_evaluates i s _ _ ?_ ?_ ?_)
      · rfl
      · exact fun enters => enters.1
      · refine (if_neg fun enters => ?_).symm
        obtain ⟨-, other, manual, -⟩ := enters
        rw [withSlot_own] at manual
        exact other manual

end Sys2Proof.Machine
end

section
/-! PROOF. Room in a full roster lets the marked ports recover (R137), and presence loss (O5). -/

namespace Sys2Proof.Machine

section
variable {h : Hap} {p : DPort} {k : EvKind} {l : Locus}

/-! ### Overflow recovery (R137) -/

theorem setCond_holds (k : EvKind) (l : Locus) (b : Bool) (h : Hap) : (setCond k l b h).ev.localHolds k l = b := by
  cases b
  · exact endCond_not_holds k l h
  · exact beginCond_holds k l h

/-- A marked port that recovers: it is asked for a dump where its link is up, and ROSTER_OVERFLOW follows the other marker. -/
def DLink.recovered (d : DLink) (marked : Bool) : DLink := if marked = true ∧ d.state.active = true then d.asked else d

theorem recoverPort_shape (p : DPort) (h : Hap) (marked : h.roster.marker p = true) :
    ∃ ev entered drain, recoverPort p h = { h.setD p ((h.dl p).recovered true) with
        roster := h.roster.setMarker p false, flagsDue := true, ev := ev, entered := entered, drainDue := drain } ∧
      ev.localHolds .rosterOverflow rackLocus =
        ((h.roster.setMarker p false).marker1 || (h.roster.setMarker p false).marker2) := by
  have asked : askDump p h = h.setD p ((h.dl p).recovered true) ∨
      askDump p h = { h.setD p ((h.dl p).recovered true) with flagsDue := true } := by
    by_cases active : (h.dl p).state.active = true
    · have recovered : (h.dl p).recovered true = (h.dl p).asked := if_pos ⟨rfl, active⟩
      rw [recovered]
      exact .inr (askDump_active active)
    · have recovered : (h.dl p).recovered true = h.dl p := if_neg fun c => active c.2
      rw [recovered]
      refine .inl ((if_neg active).trans ?_)
      cases p <;> rfl
  have roster : (h.setD p ((h.dl p).recovered true)).roster = h.roster := setD_roster ..
  generalize h.setD p ((h.dl p).recovered true) = d at asked roster
  have cleared : recoverPort p h = setCond .rosterOverflow rackLocus
      ((h.roster.setMarker p false).marker1 || (h.roster.setMarker p false).marker2)
      { d with roster := h.roster.setMarker p false, flagsDue := true } := by
    rw [recoverPort, if_pos marked, ← roster]
    rcases asked with asked | asked
    · rw [asked]
      exact if_pos (roster ▸ marked)
    · rw [asked]
      exact if_pos (roster ▸ marked)
  have held := setCond_holds .rosterOverflow rackLocus
      ((h.roster.setMarker p false).marker1 || (h.roster.setMarker p false).marker2)
      { d with roster := h.roster.setMarker p false, flagsDue := true }
  rw [← cleared] at held
  obtain ⟨ev, entered, drain, same⟩ := shape_of_offEv (setCond_offEv { d with
    roster := h.roster.setMarker p false, flagsDue := true } .rosterOverflow rackLocus
      ((h.roster.setMarker p false).marker1 || (h.roster.setMarker p false).marker2))
  rw [cleared.trans same] at held
  exact ⟨ev, entered, drain, cleared.trans same, held⟩

/-- The step for one port, marked or not. -/
theorem recoverPort_dl (p q : DPort) (h : Hap) :
    (recoverPort p h).dl q = if q = p then (h.dl p).recovered (h.roster.marker p) else h.dl q := by
  by_cases marked : h.roster.marker p = true
  · obtain ⟨ev, entered, drain, same, -⟩ := recoverPort_shape p h marked
    rw [same, marked]
    by_cases own : q = p
    · subst own
      rw [if_pos rfl]
      exact setD_dl_self ..
    · rw [if_neg own]
      exact setD_dl_ne _ (Ne.symm own)
  · have still : recoverPort p h = h := if_neg marked
    have unmarked : (h.dl p).recovered (h.roster.marker p) = h.dl p := if_neg fun c => marked c.1
    rw [still, unmarked]
    split
    · next own => rw [own]
    · rfl

/-- Room behind a change of the roster clears both markers, and asks the ports they stood for. -/
theorem overflowRecovery_room (dirty : h.dirty = true) (room : h.roster.entries.length < rosterCapacity)
    (marked : h.roster.marker1 = true ∨ h.roster.marker2 = true) :
    (overflowRecovery h).roster.marker1 = false ∧ (overflowRecovery h).roster.marker2 = false ∧
      (overflowRecovery h).flagsDue = true ∧ (overflowRecovery h).ev.localHolds .rosterOverflow rackLocus = false ∧
      ∀ p, (overflowRecovery h).dl p = (h.dl p).recovered (h.roster.marker p) := by
  have goes : overflowRecovery h = recoverPort .d2 (recoverPort .d1 h) := by
    rw [overflowRecovery_eq, if_pos]
    simpa [dirty, Roster.full] using room
  have dl : ∀ p, (recoverPort .d2 (recoverPort .d1 h)).dl p = (h.dl p).recovered (h.roster.marker p) := fun p => by
    have second : (recoverPort .d1 h).roster.marker2 = h.roster.marker2 := by
      by_cases first : h.roster.marker1 = true
      · obtain ⟨ev, entered, drain, same, -⟩ := recoverPort_shape .d1 h first
        rw [same]
        rfl
      · rw [show recoverPort .d1 h = h from if_neg first]
    rw [recoverPort_dl, recoverPort_dl, recoverPort_dl]
    cases p
    · rfl
    · show (h.dl .d2).recovered (recoverPort .d1 h).roster.marker2 = _
      rw [second]
      rfl
  rw [goes]
  by_cases second : (recoverPort .d1 h).roster.marker .d2 = true
  · have first : (recoverPort .d1 h).roster.marker1 = false := (recoverPort_marker .d1 h).1
    obtain ⟨ev, entered, drain, same, held⟩ := recoverPort_shape .d2 (recoverPort .d1 h) second
    refine ⟨?_, ?_, ?_, ?_, dl⟩ <;> rw [same]
    · exact first
    · rfl
    · exact held.trans (by simp [Roster.setMarker, first])
  · have still : recoverPort .d2 (recoverPort .d1 h) = recoverPort .d1 h := if_neg second
    have unmarked : h.roster.marker2 = false := by
      by_contra other
      by_cases first : h.roster.marker1 = true
      · obtain ⟨ev, entered, drain, same, -⟩ := recoverPort_shape .d1 h first
        rw [same] at second
        exact second (by simpa [Roster.marker, Roster.setMarker] using other)
      · rw [show recoverPort .d1 h = h from if_neg first] at second
        exact second (by simpa [Roster.marker] using other)
    have first : h.roster.marker .d1 = true := marked.resolve_right (by simp [unmarked])
    obtain ⟨ev, entered, drain, same, held⟩ := recoverPort_shape .d1 h first
    refine ⟨?_, ?_, ?_, ?_, dl⟩ <;> rw [still, same]
    · rfl
    · exact unmarked
    · exact held.trans (by simp [Roster.setMarker, unmarked])

theorem grantLoop_dirty : ∀ (n : Nat) (h : Hap), h.dirty = true → (grantLoop n h).dirty = true
  | 0, _, dirty => dirty
  | n + 1, h, dirty => by
    unfold grantLoop
    split
    · split
      · exact grantLoop_dirty n _ rfl
      · exact dirty
    · exact dirty

theorem settleIfDue_dirty (dirty : h.dirty = true) : (settleIfDue h).dirty = true := by
  unfold settleIfDue
  split
  · obtain ⟨unit, entered, drain, same⟩ := shape_of_offEv (setCond_offEv (grantLoop h.budget.waiting.length h) .grantBlocked
      rackLocus (grantLoop h.budget.waiting.length h).blocked)
    simp only [settle, same]
    exact grantLoop_dirty _ h dirty
  · exact dirty

/-- The end of a happening that made room in a full roster. -/
theorem closing_recovers (dirty : h.dirty = true) (room : h.roster.entries.length < rosterCapacity)
    (marked : h.roster.marker1 = true ∨ h.roster.marker2 = true) :
    (closing h).roster.marker1 = false ∧ (closing h).roster.marker2 = false ∧
      (closing h).ev.localHolds .rosterOverflow rackLocus = false ∧ (closing h).roster.flags = (closing h).causedFlags ∧
      ∀ p, (closing h).dl p = (h.dl p).recovered (h.roster.marker p) := by
  have keys : (settleIfDue h).roster.entries.length = h.roster.entries.length := by
    have := congrArg List.length (keys_of_calm (moves_settleIfDue h))
    simpa [Roster.keys] using this
  obtain ⟨m1, m2⟩ := settleIfDue_markers h
  obtain ⟨one, two, due, held, ports⟩ := overflowRecovery_room (h := settleIfDue h) (settleIfDue_dirty dirty) (keys ▸ room)
    (by rwa [m1, m2])
  have behind := (moves_behindRecovery (overflowRecovery (settleIfDue h))).frame .markers rfl
  simp only [Part.same, Prod.mk.injEq] at behind
  rw [closing_behind]
  refine ⟨behind.1.trans one, behind.2.trans two, (spares_behindRecovery _).holds.trans held, behindRecovery_flags due,
    fun p => ?_⟩
  refine Eq.trans ((moves_behindRecovery _).frame (.port p) rfl) ((ports p).trans ?_)
  have port : (settleIfDue h).dl p = h.dl p := (moves_settleIfDue h).frame (.port p) rfl
  rw [port]
  cases p
  · exact congrArg _ m1
  · exact congrArg _ m2

end

end Sys2Proof.Machine
end

section
/-! PROOF. Presence loss (O5). -/

namespace Sys2Proof.Machine

section
variable {h : Hap} {i : SlotId} {k : EvKind} {l : Locus}

/-! ### How far the idle rule fills the queue -/

section
variable (notDone : k ≠ .opDone) (notLeft : k ≠ .moduleLeft) (notConflict : k ≠ .serialConflict) (notParked : k ≠ .slotParked)
include notDone

theorem spares_opDone (slot : Option SlotId) (op : Byte) (d : Word16) (h : Hap) : Spares k l 1 h (opDone slot op d h) :=
  (spares_raiseLatched (.inl (Ne.symm notDone)) d h).trans (spares_of_ev (h' := opDone slot op d h) rfl)

theorem spares_commitEnd (d : Word16) (h : Hap) : Spares k l 1 h (commitEnd d h) := by
  unfold commitEnd
  split
  · exact (Spares.refl h).mono (Nat.zero_le _)
  · next c _ =>
    refine (spares_opDone notDone none c.op d h).trans (m := 0) ?_
    exact spares_of_ev rfl

theorem spares_endBurst (i : SlotId) (h : Hap) : Spares k l 1 h (endBurst i h) := by
  have still : Spares k l 1 h h := (Spares.refl h).mono (Nat.zero_le _)
  have copying : ∀ g : Hap, Spares k l 1 g (enterCopying g) := fun g => by
    unfold enterCopying
    split
    · exact (Spares.refl g).mono (Nat.zero_le _)
    · simp only
      refine Spares.ite (fun _ => spares_commitEnd notDone 0 g) fun _ => ?_
      refine Spares.mono (n := 0) ?_ (Nat.zero_le _)
      exact spares_of_ev rfl
  unfold endBurst
  split
  · next b _ =>
    have set : Spares k l 0 h (h.setTarget i { h.target i with phase := .ready, stall := none }) := spares_of_ev rfl
    generalize h.setTarget i { h.target i with phase := .ready, stall := none } = g at set
    have stop : Spares k l 1 h g := set.mono (Nat.zero_le _)
    unfold drainingCheck
    split
    · exact stop
    · split
      · exact Spares.ite (fun _ => set.trans (copying g)) fun _ => stop
      · exact stop
      · exact stop
  · exact still
  · exact still

theorem spares_slotLeft (i : SlotId) (h : Hap) : Spares k l 1 h (slotLeft i h) := by
  have still : Spares k l 1 h h := (Spares.refl h).mono (Nat.zero_le _)
  unfold slotLeft
  split
  · exact still
  · simp only
    refine Spares.ite (fun _ => Spares.ite (fun _ => ?_) fun _ => ?_) fun _ => still
    · refine Spares.trans (n := 0) ?_ (spares_commitEnd notDone _ _)
      exact spares_of_ev rfl
    · refine Spares.mono (n := 0) ?_ (Nat.zero_le _)
      exact spares_of_ev rfl

include notLeft notConflict

theorem spares_shut (i : SlotId) (cause : Cause) (h : Hap) : Spares k l 2 h (shutSlot i cause h) :=
  ((spares_endBurst notDone i h).trans (spares_of_ev (budgetRelease_ev i _))).trans (spares_localRemove notConflict notLeft i cause _)

include notParked

/-- The idle rule queues at most three records: MODULE_LEFT and the ends of two operations. -/
theorem spares_idleRule (i : SlotId) (h : Hap) : Spares k l 3 h (idleRule i h) := by
  have idle : ∀ g, Spares k l 3 h g → Spares k l 3 h (enterIdle i g) := fun g s => s.trans (spares_of_ev (enterIdle_keeps i g).2.2.1)
  have still : Spares k l 3 h h := (Spares.refl h).mono (Nat.zero_le _)
  unfold idleRule
  simp only
  split
  · exact still
  · exact idle _ still
  · exact idle _ still
  · exact idle _ ((spares_shut notDone notLeft notConflict i _ h).mono (by omega))
  · exact idle _ ((spares_shut notDone notLeft notConflict i _ h).mono (by omega))
  · exact idle _ ((spares_shut notDone notLeft notConflict i _ h).trans (spares_opDone notDone _ _ _ _))
  · exact idle _ (((spares_localRemove notConflict notLeft i _ h).trans (spares_slotLeft notDone i _)).mono (by omega))
  · exact idle _ ((spares_endCond (.inl (Ne.symm notParked)) h).mono (Nat.zero_le _))

end

/-! ### Presence loss (R28, R30, R36) -/

theorem unburst_pin (t : Target) : t.unburst.pin = none := by cases phase : t.phase <;> simp [Target.unburst, Target.pin, phase]

/-- The state with a slot's line found inactive. -/
def State.vacated (s : State) (i : SlotId) : State := s.withFilter i { raw := false, state := .empty, timer := none }

/-- Presence loss raises SLOT_VACATED, and but for MANUAL the idle rule applies. -/
theorem lineLost {s : State} (present : (s.filter i).state = .present) :
    lineLevel (.slot i) false (Hap.start s) =
      if (s.slot i).policy = .manual then raiseLatched .slotVacated (slotLocus i) 0 (Hap.start (s.vacated i))
      else idleRule i (raiseLatched .slotVacated (slotLocus i) 0 (Hap.start (s.vacated i))) := by
  have lost : arrived (s.filter i) ((s.filter i).level (s.slot i).settle.toNat false) = false ∧
      departed (s.filter i) ((s.filter i).level (s.slot i).settle.toNat false) = true := by
    simp [arrived, departed, Filter.level, Filter.carrier, present]
  have stored : (Hap.start s).setFilter i ((s.filter i).level (s.slot i).settle.toNat false) = Hap.start (s.vacated i) := rfl
  have filter : ((s.vacated i).filter i).state = .empty := by simp [State.vacated, State.filter, State.withFilter]
  show slotFilterChange i ((s.filter i).level (s.slot i).settle.toNat false) (Hap.start s) = _
  unfold slotFilterChange
  simp only
  rw [show (Hap.start s).filter i = s.filter i from rfl, lost.1, lost.2, stored, if_neg Bool.false_ne_true, if_pos rfl]
  obtain ⟨ev, entered, drain, same⟩ := shape_of_offEv (raiseLatched_offEv (Hap.start (s.vacated i)) .slotVacated (slotLocus i) 0)
  rw [same]
  by_cases manual : (s.slot i).policy = .manual
  · rw [if_pos manual]
    exact if_pos manual
  · rw [if_neg manual]
    refine (if_neg manual).trans (if_pos ?_)
    show (s.vacated i).idleCond i = true
    have policy : ((s.vacated i).slot i).policy ≠ .manual := manual
    unfold State.idleCond
    split
    · simp [filter]
    · simp [filter]
    · simp [filter]
    · next named => exact absurd named policy

/-- What presence loss leaves of a slot that is not in IDLE, but for MANUAL. -/
theorem lineLost_enters {s : State} (present : (s.filter i).state = .present) (policy : (s.slot i).policy ≠ .manual)
    (busy : (s.slot i).state ≠ .idle) : ∃ x, lineLevel (.slot i) false (Hap.start s) = enterIdle i x ∧
      x.slot i = s.slot i ∧ x.filter i = { raw := false, state := .empty, timer := none } ∧
      x.target i = (if s.enLine i = true then (s.target i).unburst else s.target i) ∧
      (if (s.slot i).state = .held ∨ (s.slot i).state = .delaying ∨ (s.slot i).state = .parked then
         x.roster = s.roster ∧ x.settleDue = false ∧ x.dirty = false ∧ x.flagsDue = false
       else (x.roster.keys = s.roster.keys.filter fun k => decide (k ≠ localKey i)) ∧
         (s.localEntry i ≠ none → x.dirty = true)) ∧
      ((s.slot i).state = .parked → x.ev.localHolds .slotParked (slotLocus i) = false) ∧
      ((s.slot i).state = .announcing → ∀ d, x.desc.commit = some d → i ∉ d.selected) := by
  obtain ⟨ev, entered, drain, same⟩ := shape_of_offEv (raiseLatched_offEv (Hap.start (s.vacated i)) .slotVacated (slotLocus i) 0)
  have filter : (raiseLatched .slotVacated (slotLocus i) 0 (Hap.start (s.vacated i))).filter i =
      { raw := false, state := .empty, timer := none } := by
    rw [same]
    exact setFilter_filter_self (h := Hap.start s) _
  have loses := lineLost present
  rw [if_neg policy, same] at loses
  rw [same] at filter
  obtain ⟨x, enters, slot, filter', target, roster, parked, selected⟩ := idleRule_enters i { Hap.start (s.vacated i) with
    ev := ev, entered := entered, drainDue := drain } busy
  exact ⟨x, loses.trans enters, slot, filter'.trans filter, target, roster, parked, selected⟩

/-- A slot that stays in IDLE, and what it leaves in the queue. -/
theorem lineLost_record {s : State} {pr : Fin 4} (present : (s.filter i).state = .present)
    (takes : s.ev.takesNew pr .slotVacated (slotLocus i)) (room : s.ev.queue.length + 8 ≤ 32) :
    ∃ r ∈ (closing (lineLevel (.slot i) false (Hap.start s))).ev.queue,
      r.kind = .slotVacated ∧ r.locus = slotLocus i ∧ r.detail = 0 ∧ r.priority = pr := by
  have spared : Spares .slotVacated (slotLocus i) 3
      (raise (latchedOcc .slotVacated (slotLocus i) 0) (Hap.start (s.vacated i))) (lineLevel (.slot i) false (Hap.start s)) := by
    rw [lineLost present]
    exact Spares.ite (fun _ => (Spares.refl _).mono (Nat.zero_le _)) fun _ =>
      spares_idleRule (k := .slotVacated) nofun nofun nofun nofun i _
  have closed := spares_closing (k := .slotVacated) (l := slotLocus i) nofun nofun (lineLevel (.slot i) false (Hap.start s))
  have ends : Spares .slotVacated (slotLocus i) 5
      (raise (latchedOcc .slotVacated (slotLocus i) 0) (Hap.start (s.vacated i)))
      (closing (lineLevel (.slot i) false (Hap.start s))) := by
    refine (spared.trans closed).mono ?_
    split <;> omega
  obtain ⟨r, mem, kind, locus, -, priority, detail⟩ := raise_spared (h := Hap.start (s.vacated i))
    (o := latchedOcc .slotVacated (slotLocus i) 0) takes ends (by show s.ev.queue.length + 1 + 5 ≤ 32; omega)
  exact ⟨r, mem, kind, locus, detail, priority⟩

end

/-- Settles O5. -/
theorem presenceLossClosesTheSlot : Obligations.PresenceLossClosesTheSlot := by
  unfold Obligations.PresenceLossClosesTheSlot
  refine ⟨fun i s present policy busy => ?_, fun i s present policy state held size marked => ?_,
    fun i pr s present takes => ⟨fun manual => ?_, fun room => ?_⟩⟩
  · obtain ⟨x, enters, slot, filter, target, roster, parked, selected⟩ := lineLost_enters present policy busy
    have moved : Moves (slotParts i) (Hap.start s) (lineLevel (.slot i) false (Hap.start s)) := moves_slotFilterChange ..
    have row : exec (.presenceInputChange (.slot i) false) s = .next (finish (lineLevel (.slot i) false (Hap.start s))) := rfl
    generalize lineLevel (.slot i) false (Hap.start s) = h at enters moved row
    subst enters
    obtain ⟨ends, slot', filter', target', memory, frame⟩ := slot_finish moved
    have idles := slot'.trans (enterIdle_slot i x)
    rw [slot] at idles
    have target'' := target'.trans (enterIdle_keeps i x).2.2.2
    rw [target] at target''
    refine ⟨_, row.trans (congrArg Host.Outcome.next ends), filter'.trans filter, idles,
      congrArg (fun y : Slot => y.state.en) idles, ?_, congrArg Target.lastResult target'', ?_,
      fun c => (closing_holds (k := .slotParked) nofun nofun _ _).trans (parked c), fun c d commit => selected c d ?_, memory, frame⟩
    · rw [target'']
      split
      · exact unburst_pin _
      · rfl
    · split at roster
      · next quiet =>
        obtain ⟨roster, settled, clean, flags⟩ := roster
        rw [if_pos quiet]
        exact (closing_roster_still (h := enterIdle i x) settled clean flags).trans roster
      · next other =>
        rw [if_neg other]
        exact entryGone_closing (h := enterIdle i x) roster.1
    · rw [← commit]
      exact (congrArg Desc.commit (closing_desc (enterIdle i x))).symm
  · have busy : (s.slot i).state ≠ .idle := by rcases state with c | c | c | c <;> rw [c] <;> nofun
    have loses : ¬ ((s.slot i).state = .held ∨ (s.slot i).state = .delaying ∨ (s.slot i).state = .parked) := by
      rcases state with c | c | c | c <;> rw [c] <;> nofun
    obtain ⟨x, enters, -, -, -, roster, -, -⟩ := lineLost_enters present policy busy
    rw [if_neg loses] at roster
    have keys : (lineLevel (.slot i) false (Hap.start s)).roster.keys = s.roster.keys.filter fun k => decide (k ≠ localKey i) := by
      rw [enters]
      exact roster.1
    have dirty : (lineLevel (.slot i) false (Hap.start s)).dirty = true := by
      rw [enters]
      exact roster.2 held
    have moved : Moves (slotParts i) (Hap.start s) (lineLevel (.slot i) false (Hap.start s)) := moves_slotFilterChange ..
    have row : exec (.presenceInputChange (.slot i) false) s = .next (finish (lineLevel (.slot i) false (Hap.start s))) := rfl
    generalize lineLevel (.slot i) false (Hap.start s) = h at keys dirty moved row
    have room : h.roster.entries.length < rosterCapacity := by
      have present : localKey i ∈ s.roster.keys := by
        by_contra absent
        exact held (localEntry_none_iff.mpr absent)
      have fewer : (s.roster.keys.filter fun k => decide (k ≠ localKey i)).length < s.roster.keys.length :=
        List.length_filter_lt_length_iff_exists.mpr ⟨_, present, by simp⟩
      rw [← keys] at fewer
      simp only [Roster.keys, List.length_map] at fewer
      exact Nat.lt_of_lt_of_le fewer size
    have markers := moved.frame .markers rfl
    simp only [Part.same, Prod.mk.injEq] at markers
    obtain ⟨one, two, ended, flags, ports⟩ := closing_recovers dirty room (markers.1.symm ▸ markers.2.symm ▸ marked)
    refine ⟨_, row.trans (congrArg Host.Outcome.next (finish_eq (moved.frame .resetDue rfl))), one, two, ended, flags, fun p => ?_⟩
    have port : h.dl p = s.dl p := moved.frame (.port p) rfl
    have mark : h.roster.marker p = s.roster.marker p := by
      cases p
      · exact markers.1
      · exact markers.2
    have asked := ports p
    rw [port, mark] at asked
    exact asked
  · have loses := lineLost present
    rw [if_pos manual, raiseLatched, raise_start (s := s.vacated i) (o := latchedOcc .slotVacated (slotLocus i) 0) (pr := pr) takes] at loses
    exact ⟨_, congrArg (fun h => Host.Outcome.next (finish h)) loses, finish_raised.1, finish_raised.2⟩
  · have moved : Moves (slotParts i) (Hap.start s) (lineLevel (.slot i) false (Hap.start s)) := moves_slotFilterChange ..
    refine ⟨_, rfl, ?_⟩
    rw [show finish (lineLevel (.slot i) false (Hap.start s)) = _ from finish_eq (moved.frame .resetDue rfl)]
    exact lineLost_record present takes room

end Sys2Proof.Machine
end

section
/-! PROOF. SLOT EJECT (O23) and BUDGET SET (O24). -/

namespace Sys2Proof.Machine

section
variable {s : State} {h : Hap} {i : SlotId} {f : HostFrame} {c : Instr} {a : Answer} {kind : ReplyKind} {payload : List Byte}

/-! ### SLOT EJECT (R42) -/

/-- A root's happening that changed the roster and nothing else that is due: its generation advances. -/
theorem finish_dirty_root (root : h.role = .root) (noReset : h.resetDue = none) (settled : h.settleDue = false)
    (flags : h.flagsDue = false) (deltas : h.deltaDue = false) (entered : h.entered = []) (dirty : h.dirty = true)
    (m1 : h.roster.marker1 = false) (m2 : h.roster.marker2 = false) :
    finish h = { h.toState with roster := { h.roster with generation := h.roster.generation + 1 } } := by
  have advanced : advanceGeneration h = { h with roster := { h.roster with generation := h.roster.generation + 1 } } := if_pos dirty
  rw [finish_eq noReset, closing_unmarked m1 m2, settleIfDue_still settled, behindRecovery, recomputeFlags_still flags, advanced]
  generalize next : ({ h with roster := { h.roster with generation := h.roster.generation + 1 } } : Hap) = g
  have root' : g.role = .root := next ▸ root
  have deltas' : g.deltaDue = false := next ▸ deltas
  have entered' : g.entered = [] := next ▸ entered
  rw [handUpward_root root', sendDeltasIfDue_still deltas', drainIfDue_root root', attend_still entered', ← next]

/-- The roster once a slot's entry is told that an eject begins. -/
def Roster.ejecting (r : Roster) (i : SlotId) : List Entry :=
  r.entries.map fun e => if e.key = localKey i then { e with state := .leaving } else e

/-- What an eject does to the slot's entry, where a RETURNING one has no grant. -/
theorem ejectEntry_eq {s : State} (keys : s.roster.keys.Nodup)
    (returning : ∀ e, s.localEntry i = some e → e.state = .returning → e.grant = .none) :
    ejectEntry i (Hap.start s) =
      if ((s.localEntry i).any fun e => decide (e.state = .online ∨ e.state = .returning)) = true then
        { Hap.start s with roster := { s.roster with entries := s.roster.ejecting i }, dirty := true }
      else Hap.start s := by
  unfold ejectEntry
  have entry : (Hap.start s).localEntry i = s.localEntry i := rfl
  rw [entry]
  cases found : s.localEntry i with
  | none => rfl
  | some e =>
    obtain ⟨mem, key⟩ := findEntry_some found
    have only : ∀ x ∈ s.roster.entries, x.key = localKey i → x = e := fun x m k => by
      have := findEntry_of_mem keys m
      rw [k] at this
      exact Option.some.inj (this.symm.trans found)
    cases state : e.state with
    | online =>
      simp only [state, key, Option.any_some]
      rw [if_pos (by simp)]
      rfl
    | returning =>
      have grant := returning e found state
      have released : budgetRelease i (Hap.start s) = Hap.start s := by
        unfold budgetRelease
        rw [entry, found]
        simp only [grant]
      have same : updateEntry e.key (fun x => { x with state := .leaving, grant := .none }) s.roster.entries = s.roster.ejecting i := by
        refine List.map_congr_left fun x m => ?_
        by_cases own : x.key = localKey i
        · have : x.grant = .none := only x m own ▸ grant
          simp only [key, own, if_true, this]
        · simp only [key, own, if_false]
      simp only [state, released, Option.any_some]
      rw [if_pos (by simp)]
      exact congrArg (fun es => ({ Hap.start s with roster := { s.roster with entries := es }, dirty := true } : Hap)) same
    | leaving => simp [state]
    | conflict => simp [state]

/-- The slot once its eject has begun. -/
def Hap.stamped (i : SlotId) (op : Byte) (h : Hap) : Hap :=
  h.setSlot i { h.slot i with
    state := .leaving, timer := some (100 * h.rack.ejectTimeout.toNat), ejectRequested := true, ejectOp := op }

/-- SLOT EJECT where EN is high. -/
theorem reqSlotEject_high (o : Origin) (high : (h.slot i).state = .enabled ∨ (h.slot i).state = .online) :
    reqSlotEject o i h = if h.ops.free = true then
      (ejectSlot i h.ops.nextOp { h with ops := h.ops.take .eject o none none }, .accepted h.ops.nextOp)
    else (h, .refuse .busy 0) := by
  rcases high with state | state <;> simp only [reqSlotEject, state]

theorem reqSlotEject_elsewhere (o : Origin) (elsewhere : (h.slot i).state ≠ .enabled ∧ (h.slot i).state ≠ .online) :
    reqSlotEject o i h = (h, .refuse .notPermittedInState 0) := by
  unfold reqSlotEject
  split
  · next state => exact absurd state elsewhere.1
  · next state => exact absurd state elsewhere.2
  all_goals rfl

end

/-- Settles O23. -/
theorem slotEjectBeginsAnEject : Obligations.SlotEjectBeginsAnEject := by
  unfold Obligations.SlotEjectBeginsAnEject
  intro tag i s ready m1 m2 keys returning
  have judged : judge (.host tag) 0x13 [slotByte i] (Hap.start s) = reqSlotEject (.host tag) i (Hap.start s) := by
    rw [judge_of_req (r := .slotEject (slotByte i)) rfl rfl]
    simp only [execute, onSlot, slotOf_slotByte]
  by_cases elsewhere : (s.slot i).state ≠ .enabled ∧ (s.slot i).state ≠ .online
  · rw [if_pos elsewhere]
    exact exec_refused rfl (by simp) ready (judged.trans (reqSlotEject_elsewhere (h := Hap.start s) _ elsewhere))
  have high : (s.slot i).state = .enabled ∨ (s.slot i).state = .online := by
    by_cases enabled : (s.slot i).state = .enabled
    · exact .inl enabled
    · exact .inr (by_contra fun other => elsewhere ⟨enabled, other⟩)
  rw [if_neg elsewhere]
  have taken := judged.trans (reqSlotEject_high (h := Hap.start s) _ high)
  by_cases full : 4 ≤ s.ops.entries.length
  · rw [if_pos full]
    refine exec_refused rfl (by simp) ready (taken.trans (if_neg ?_))
    have busy : (!(Hap.start s).ops.free) = true := not_free.mpr full
    simpa using busy
  · rw [if_neg full]
    have free : s.ops.free = true := by
      by_contra busy
      exact full (not_free.mp (by simpa using busy))
    have began := taken.trans (if_pos free)
    have entry := ejectEntry_eq (s := { s with ops := s.ops.take .eject (.host tag) none none }) (i := i) keys returning
    by_cases moves : ((s.localEntry i).any fun e => decide (e.state = .online ∨ e.state = .returning)) = true
    · have stamped := congrArg (Hap.stamped i s.ops.nextOp) (entry.trans (if_pos moves))
      rw [if_pos moves]
      refine (exec_answered (c := .slotEject tag (slotByte i)) (f := ⟨0x13, tag, [slotByte i]⟩) rfl (by simp) ready
        (began.trans (congrArg (·, Answer.accepted s.ops.nextOp) stamped)) rfl rfl).trans (congrArg Host.Outcome.next ?_)
      exact finish_dirty_root (show s.role = .root from ready_root ready) rfl rfl rfl rfl rfl rfl m1 m2
    · have stamped := congrArg (Hap.stamped i s.ops.nextOp) (entry.trans (if_neg moves))
      rw [if_neg moves]
      exact exec_replied (c := .slotEject tag (slotByte i)) (f := ⟨0x13, tag, [slotByte i]⟩) rfl (by simp) ready
        (began.trans (congrArg (·, Answer.accepted s.ops.nextOp) stamped)) rfl rfl

/-! ### Requests of a root's host about the budget and the events -/

section
variable {s : State} {h : Hap} {i : SlotId}

theorem recoverPort_at (p : DPort) (h : Hap) : (recoverPort p h).budget = h.budget ∧ (recoverPort p h).deltaDue = h.deltaDue ∧
    (recoverPort p h).role = h.role ∧ (recoverPort p h).roster.entries = h.roster.entries := by
  by_cases marked : h.roster.marker p = true
  · obtain ⟨ev, entered, drain, same, -⟩ := recoverPort_shape p h marked
    rw [same]
    cases p <;> exact ⟨rfl, rfl, rfl, rfl⟩
  · rw [show recoverPort p h = h from if_neg marked]
    exact ⟨rfl, rfl, rfl, rfl⟩

theorem overflowRecovery_at (h : Hap) : (overflowRecovery h).budget = h.budget ∧ (overflowRecovery h).deltaDue = h.deltaDue ∧
    (overflowRecovery h).role = h.role ∧ (overflowRecovery h).roster.entries = h.roster.entries := by
  obtain ⟨budget, delta, role, entries⟩ := recoverPort_at .d1 h
  obtain ⟨budget', delta', role', entries'⟩ := recoverPort_at .d2 (recoverPort .d1 h)
  rw [overflowRecovery_eq]
  split
  · exact ⟨budget'.trans budget, delta'.trans delta, role'.trans role, entries'.trans entries⟩
  · exact ⟨rfl, rfl, rfl, rfl⟩

/-- With the waiting list settled, the end of a happening leaves the budget unit and the roster's entries alone. -/
theorem closing_settled (settled : h.settleDue = false) :
    (closing h).budget = h.budget ∧ (closing h).roster.entries = h.roster.entries := by
  obtain ⟨budget, -, -, entries⟩ := overflowRecovery_at h
  have behind := moves_behindRecovery (overflowRecovery h)
  have units := behind.frame .units rfl
  have waiting := behind.frame .waiting rfl
  have list := behind.frame .entries rfl
  simp only [Part.same, Prod.mk.injEq] at units waiting list
  rw [closing_behind, settleIfDue_still settled]
  have eta : ∀ b : Budget, b = ⟨b.units, b.waiting, b.pwr⟩ := fun _ => rfl
  refine ⟨?_, list.1.trans entries⟩
  rw [← budget]
  generalize overflowRecovery h = g at units waiting
  change (behindRecovery g).budget.units = _ at units
  change (behindRecovery g).budget.waiting = _ ∧ (behindRecovery g).budget.pwr = _ at waiting
  rw [eta (behindRecovery g).budget, units, waiting.1, waiting.2]

theorem blocked_congr {s t : State} (budget : t.budget = s.budget) (entries : t.roster.entries = s.roster.entries) :
    t.blocked = s.blocked := by
  have head : t.waitingHead = s.waitingHead := by
    unfold State.waitingHead State.localEntry
    rw [budget, entries]
  have room : t.available = s.available := by rw [State.available, State.available, budget, entries]
  rw [State.blocked, State.blocked, head, room]

theorem closing_blocked (settled : h.settleDue = false) :
    (closing h).ev.localHolds .grantBlocked rackLocus = h.ev.localHolds .grantBlocked rackLocus := by
  rw [closing_behind, settleIfDue_still settled, (spares_behindRecovery _).holds]
  exact (spares_overflowRecovery (k := .grantBlocked) nofun h).holds

/-- What a root's request about the budget or the events leaves alone. -/
theorem answered_desk {f : HostFrame} {kind : ReplyKind} {payload : List Byte} (root : s.role = .root)
    (base : h.offEnd = (Hap.start s).offEnd) (u : h.u = s.u) (host : h.host = s.host) (deltas : h.deltaDue = false)
    (settled : h.settleDue = false) :
    finish (h.answered f kind payload) = (closing (h.answered f kind payload)).toState ∧
      State.deskFrame s (closing (h.answered f kind payload)).toState := by
  have offEnd : (h.answered f kind payload).offEnd = (Hap.start s).offEnd := base
  have noReset : (h.answered f kind payload).resetDue = none := congrArg (fun x : Hap => x.resetDue) base
  have ends := finish_eq noReset
  have own : (h.answered f kind payload).role = .root := (congrArg (fun x : Hap => x.role) base).trans root
  obtain ⟨rx, buffer⟩ := replied_rx h.host f kind payload
  obtain ⟨-, delta, role, -⟩ := overflowRecovery_at (h.answered f kind payload)
  obtain ⟨role', rate, filters, slots, rack, targets, desc, ops, rescan, pending⟩ := finish_offEnd noReset
  have closed := moves_closing (h.answered f kind payload)
  have port : (closing (h.answered f kind payload)).u = s.u := by
    rw [closing_behind, settleIfDue_still (h := h.answered _ _ _) settled, behindRecovery_root_u (role.trans own) (delta.trans deltas), overflowRecovery_u]
    exact u
  rw [ends] at role' rate filters slots rack targets desc ops rescan pending
  refine ⟨ends, role'.trans (congrArg (fun x : Hap => x.role) base), rate.trans (congrArg (fun x : Hap => x.rate) base),
    filters.trans (congrArg (fun x : Hap => x.filters) base), slots.trans (congrArg (fun x : Hap => x.slots) base),
    rack.trans (congrArg (fun x : Hap => x.rack) base), targets.trans (congrArg (fun x : Hap => x.targets) base),
    desc.trans (congrArg (fun x : Hap => x.desc) base), ops.trans (congrArg (fun x : Hap => x.ops) base),
    rescan.trans (congrArg (fun x : Hap => x.rescan) base), pending.trans (congrArg (fun x : Hap => x.pending) base), port, ?_, ?_⟩
  · exact Eq.trans (closed.frame .hostRx rfl) (rx.trans (congrArg HostLink.rx host))
  · exact Eq.trans (closed.frame .hostBuffer rfl) (buffer.trans (congrArg HostLink.buffer host))

/-! ### The settling of the waiting list (R95, R98) -/

/-- A grant to the slot at the head of the waiting list. -/
theorem grantHead_spec {e : Entry} (keys : h.roster.keys.Nodup) (found : h.localEntry i = some e)
    (fits : drawUnits e.draw ≤ h.available) (within : grantedSum h.roster.entries ≤ h.budget.units) :
    (grantHead i h).roster.keys = h.roster.keys ∧
      (∀ j, (grantHead i h).slotGrant j = if j = i then .granted else h.slotGrant j) ∧
      (∀ j, (grantHead i h).pwrLine j = if j = i then true else h.pwrLine j) ∧
      grantedSum (grantHead i h).roster.entries ≤ h.budget.units := by
  have entries : (grantHead i h).roster.entries =
      updateEntry (localKey i) (fun e => { e with grant := .granted }) h.roster.entries := rfl
  have keep : ∀ x ∈ h.roster.entries, x.key = localKey i → ({ x with grant := .granted } : Entry).key = localKey i :=
    fun _ _ key => key
  refine ⟨keys_updateEntry keep, fun j => ?_, fun j => pwrLine_set .., ?_⟩
  · rw [slotGrant_eq, slotGrant_eq, entries, grantIn, grantIn, findEntry_updateEntry keep]
    by_cases own : j = i
    · rw [if_pos own, if_pos (localKey_inj.mpr own), show findEntry (localKey i) h.roster.entries = some e from found]
      rfl
    · rw [if_neg own, if_neg fun same => own (localKey_inj.mp same)]
  · have sum := grantedSum_updateEntry (f := fun e => { e with grant := .granted }) keys found
    have least : ({ e with grant := .granted } : Entry).grantedUnits ≤ drawUnits e.draw := by
      unfold Entry.grantedUnits
      split
      · exact Nat.le_refl _
      · exact Nat.zero_le _
    rw [State.available] at fits
    rw [entries]
    omega

/-- What the settling of the waiting list does: it grants from the head until the head does not fit. -/
theorem grantLoop_spec : ∀ (n : Nat) (h : Hap), h.roster.keys.Nodup → grantedSum h.roster.entries ≤ h.budget.units →
    (∀ i ∈ h.budget.waiting, h.localEntry i ≠ none) → h.budget.waiting.length ≤ n →
    ∃ k, (grantLoop n h).budget.waiting = h.budget.waiting.drop k ∧
      (∀ i ∈ h.budget.waiting.take k, (grantLoop n h).slotGrant i = .granted ∧ (grantLoop n h).pwrLine i = true) ∧
      (∀ i, i ∉ h.budget.waiting.take k →
        (grantLoop n h).slotGrant i = h.slotGrant i ∧ (grantLoop n h).pwrLine i = h.pwrLine i) ∧
      ((grantLoop n h).budget.waiting = [] ∨ (grantLoop n h).blocked = true) ∧
      grantedSum (grantLoop n h).roster.entries ≤ h.budget.units ∧ (grantLoop n h).budget.units = h.budget.units ∧
      (grantLoop n h).roster.keys = h.roster.keys
  | n, h, keys, within, held, short => by
    cases list : h.budget.waiting with
    | nil =>
      have still : grantLoop n h = h := by
        cases n with
        | zero => rfl
        | succ n => simp only [grantLoop, State.waitingHead, list]
      rw [still]
      exact ⟨0, list, by simp, fun i _ => ⟨rfl, rfl⟩, .inl list, within, rfl, rfl⟩
    | cons i w =>
      rw [list] at held short
      obtain ⟨n, rfl⟩ : ∃ m, n = m + 1 := ⟨n - 1, by simp only [List.length_cons] at short; omega⟩
      obtain ⟨e, found⟩ := Option.ne_none_iff_exists'.mp (held i (List.mem_cons_self ..))
      have head : h.waitingHead = some (i, drawUnits e.draw) := by simp only [State.waitingHead, list, found, Option.map_some]
      by_cases fits : drawUnits e.draw ≤ h.available
      · have goes : grantLoop (n + 1) h = grantLoop n (grantHead i h) := by simp only [grantLoop, head, if_pos fits]
        obtain ⟨keys', grant, line, sum⟩ := grantHead_spec keys found fits within
        have waiting : (grantHead i h).budget.waiting = w := congrArg List.tail list
        have held' : ∀ j ∈ (grantHead i h).budget.waiting, (grantHead i h).localEntry j ≠ none := fun j mem none => by
          rw [waiting] at mem
          refine held j (List.mem_cons_of_mem _ mem) ?_
          rw [localEntry_none_iff] at none ⊢
          rwa [keys'] at none
        obtain ⟨k, left, granted, others, stop, sum', units, keys''⟩ := grantLoop_spec n (grantHead i h) (keys'.symm ▸ keys) sum held'
          (by rw [waiting]; simpa using short)
        rw [waiting] at left granted others
        rw [goes]
        refine ⟨k + 1, left, fun j mem => ?_, fun j out => ?_, stop, sum', units, keys''.trans keys'⟩
        · by_cases later : j ∈ w.take k
          · exact granted j later
          · have own : j = i := by simpa [later] using mem
            have here := others j later
            rw [grant, line, if_pos own, if_pos own] at here
            exact here
        · have apart : j ≠ i ∧ j ∉ w.take k := by simpa using out
          have here := others j apart.2
          rw [grant, line, if_neg apart.1, if_neg apart.1] at here
          exact here
      · have still : grantLoop (n + 1) h = h := by simp only [grantLoop, head, if_neg fits]
        rw [still]
        refine ⟨0, list, by simp, fun i _ => ⟨rfl, rfl⟩, .inr ?_, within, rfl, rfl⟩
        simp only [State.blocked, head]
        simpa using fits

theorem grantLoop_shape : ∀ (n : Nat) (h : Hap), ∃ entries budget dirty, grantLoop n h =
    { h with roster := { h.roster with entries := entries }, budget := budget, dirty := dirty }
  | 0, h => ⟨h.roster.entries, h.budget, h.dirty, rfl⟩
  | n + 1, h => by
    unfold grantLoop
    split
    · next i u _ =>
      split
      · obtain ⟨entries, budget, dirty, same⟩ := grantLoop_shape n (grantHead i h)
        exact ⟨entries, budget, dirty, same⟩
      · exact ⟨h.roster.entries, h.budget, h.dirty, rfl⟩
    · exact ⟨h.roster.entries, h.budget, h.dirty, rfl⟩

/-- Settling the list grants, and tells GRANT_BLOCKED by the head. -/
theorem settle_shape (h : Hap) : ∃ ev entered drain, settle h = { grantLoop h.budget.waiting.length h with
      ev := ev, entered := entered, drainDue := drain, settleDue := false } ∧
    ev.localHolds .grantBlocked rackLocus = (grantLoop h.budget.waiting.length h).blocked := by
  have held := setCond_holds .grantBlocked rackLocus (grantLoop h.budget.waiting.length h).blocked
    (grantLoop h.budget.waiting.length h)
  obtain ⟨ev, entered, drain, same⟩ := shape_of_offEv (setCond_offEv (grantLoop h.budget.waiting.length h) .grantBlocked
    rackLocus (grantLoop h.budget.waiting.length h).blocked)
  rw [same] at held
  exact ⟨ev, entered, drain, by simp only [settle, same], held⟩

end

/-- Settles O24. -/
theorem budgetSetSettlesTheList : Obligations.BudgetSetSettlesTheList := by
  unfold Obligations.BudgetSetSettlesTheList
  intro tag n s ready
  have judged : judge (.host tag) 0x38 [n] (Hap.start s) = reqBudgetSet n.toNat (Hap.start s) :=
    judge_of_req (r := .budgetSet n) rfl rfl
  refine ⟨fun large => ?_, fun small below => ?_, fun small enough keys held => ?_⟩
  · exact exec_refused rfl (by simp) ready (judged.trans (if_pos large))
  · exact exec_refused rfl (by simp) ready (judged.trans ((if_neg (Nat.not_lt.mpr small)).trans (if_pos below)))
  · have taken := judged.trans ((if_neg (Nat.not_lt.mpr small)).trans (if_neg (Nat.not_lt.mpr enough)))
    have row := exec_answered (c := .budgetSet tag n) (f := ⟨0x38, tag, [n]⟩) rfl (by simp) ready taken rfl rfl
    obtain ⟨k, waiting, granted, others, stop, sum, units, keys'⟩ := grantLoop_spec s.budget.waiting.length
      { Hap.start s with budget := { s.budget with units := n.toNat } } keys enough held (Nat.le_refl _)
    obtain ⟨entries, budget, dirty, loop⟩ := grantLoop_shape s.budget.waiting.length
      { Hap.start s with budget := { s.budget with units := n.toNat } }
    obtain ⟨ev, entered, drain, settled, blocked⟩ := settle_shape { Hap.start s with budget := { s.budget with units := n.toNat } }
    have base := settle_offEnd (h := { Hap.start s with budget := { s.budget with units := n.toNat } })
    have set : budgetSet n.toNat (Hap.start s) = settle { Hap.start s with budget := { s.budget with units := n.toNat } } := rfl
    rw [← set] at settled base
    have size : (({ Hap.start s with budget := { s.budget with units := n.toNat } } : Hap)).budget.waiting.length =
      s.budget.waiting.length := rfl
    rw [size] at settled blocked
    generalize budgetSet n.toNat (Hap.start s) = h at row settled base
    generalize grantLoop s.budget.waiting.length
      { Hap.start s with budget := { s.budget with units := n.toNat } } = g at waiting granted others stop sum units keys' loop settled blocked
    have due : h.settleDue = false := by rw [settled]
    obtain ⟨bytes, reply⟩ : ∃ bytes, bytes = [byteOf n.toNat, byteOf (grantedSum h.roster.entries)] := ⟨_, rfl⟩
    rw [← reply] at row
    obtain ⟨ends, desk⟩ := answered_desk (f := ⟨0x38, tag, [n]⟩) (kind := .ok) (payload := bytes) (ready_root ready) base
      (by rw [settled, loop]; rfl) (by rw [settled, loop]; rfl) (by rw [settled, loop]; rfl) due
    obtain ⟨budget', entries'⟩ := closing_settled (h := h.answered ⟨0x38, tag, [n]⟩ .ok bytes) due
    have condition := closing_blocked (h := h.answered ⟨0x38, tag, [n]⟩ .ok bytes) due
    have answer := answered_memory h ⟨0x38, tag, [n]⟩ .ok bytes
    have same : h.budget = g.budget ∧ h.roster.entries = g.roster.entries ∧ h.ev.localHolds .grantBlocked rackLocus = g.blocked := by
      rw [settled]
      exact ⟨rfl, rfl, blocked⟩
    have budget'' := budget'.trans same.1
    have entries'' := entries'.trans same.2.1
    have number : byteOf n.toNat = n := BitVec.eq_of_toNat_eq (by simp [byteOf])
    rw [same.2.1, number] at reply
    have condition' := condition.trans same.2.2
    generalize closing (h.answered ⟨0x38, tag, [n]⟩ .ok bytes) = t at *
    have grants : ∀ j, t.slotGrant j = g.slotGrant j := fun j => by rw [slotGrant_eq, slotGrant_eq, entries'']
    have lines : ∀ j, t.pwrLine j = g.pwrLine j := fun j => by rw [State.pwrLine, State.pwrLine, budget'']
    have stands : t.blocked = g.blocked := blocked_congr budget'' entries''
    refine ⟨_, k, row.trans (congrArg Host.Outcome.next ends), by rw [budget'']; exact units, by rw [budget'']; exact waiting,
      fun i mem => by rw [grants, lines]; exact granted i mem, fun i out => by rw [grants, lines]; exact others i out,
      by rw [budget'', stands]; exact stop, condition'.trans stands.symm, by rw [entries'']; exact sum,
      by rw [Roster.keys, entries'']; exact keys', ?_, desk⟩
    rw [entries'', ← reply]
    exact answer

end Sys2Proof.Machine
end

section
/-! PROOF. EVENT SETUP (O29) and EVENT ACK (O28). -/

namespace Sys2Proof.Machine

section
variable {s : State} {h : Hap} {k : EvKind} {l : Locus}

/-! ### Records of the instances that hold (R148, R149) -/

theorem settingOf_byteOf (pr : Fin 4) : settingOf (byteOf pr.val) = some (some pr) := by
  revert pr
  decide

theorem settingOf_none {b : Byte} (out : 3 < b.toNat ∧ b ≠ 0xFF) : settingOf b = none := by
  rw [settingOf, if_neg out.2, dif_neg (by omega)]

theorem evKindOf_none {b : Byte} (out : b = 0 ∨ 17 < b.toNat) : evKindOf b = none := by
  unfold evKindOf
  split
  all_goals first | rfl | skip
  all_goals
    rcases out with rfl | out
    · next code => exact absurd code (by decide)
    · omega

theorem instanceOcc_what (s : State) (k : EvKind) (l : Locus) :
    (instanceOcc s k l).kind = k ∧ (instanceOcc s k l).locus = l ∧ (instanceOcc s k l).style = .condition ∧
      (instanceOcc s k l).count = 1 := by
  unfold instanceOcc
  split
  · exact ⟨rfl, rfl, rfl, rfl⟩
  · split <;> exact ⟨rfl, rfl, rfl, rfl⟩

/-- The end of a root's happening that leaves nothing due but the drain. -/
theorem finish_drained_root (root : h.role = .root) (noReset : h.resetDue = none) (settled : h.settleDue = false)
    (clean : h.dirty = false) (flags : h.flagsDue = false) (deltas : h.deltaDue = false) (entered : h.entered = []) :
    finish h = h.toState := by
  rw [finish_eq noReset, closing_clean settled clean, behindRecovery_root root deltas, recomputeFlags_still flags,
    advanceGeneration_still clean, attend_still entered]

/-- A record of a condition, where the queue has room: one is pending, and those that were still are. -/
theorem requeue_room {pr : Fin 4} (on : h.ev.setting k = some pr) (room : h.ev.queue.length < 32) :
    (requeue k l h).ev.isPending k l = true ∧
      (∀ k' l', h.ev.isPending k' l' = true → (requeue k l h).ev.isPending k' l' = true) ∧
      (requeue k l h).ev.queue.length ≤ h.ev.queue.length + 1 := by
  obtain ⟨kind, locus, style, -⟩ := instanceOcc_what h.toState k l
  unfold requeue
  by_cases pending : h.ev.isPending k l = true
  · have still : raise (instanceOcc h.toState k l) h = h := by
      simp only [raise, kind, locus, style, on, pending, if_true]
    rw [still]
    exact ⟨pending, fun _ _ => id, Nat.le_succ _⟩
  · have takes : h.ev.takesNew pr (instanceOcc h.toState k l).kind (instanceOcc h.toState k l).locus := by
      rw [kind, locus]
      exact ⟨on, by simpa using pending, room⟩
    rw [raise_new takes]
    refine ⟨?_, fun k' l' was => ?_, ?_⟩
    · simp [noteEntry, EventUnit.push, EventUnit.isPending, EvRecord.stands, kind, locus]
    · simp only [EventUnit.isPending, noteEntry, EventUnit.push, List.any_append, Bool.or_eq_true] at was ⊢
      exact .inl was
    · simp [noteEntry, EventUnit.push]

theorem requeue_kinds (k : EvKind) (l : Locus) (h : Hap) : (requeue k l h).ev.kinds = h.ev.kinds := by
  obtain ⟨q, c, lost, ev⟩ := raise_ev (instanceOcc h.toState k l) h
  rw [requeue, ev]

theorem requeue_role (k : EvKind) (l : Locus) (h : Hap) : (requeue k l h).role = h.role := by
  obtain ⟨ev, entered, drain, same⟩ := shape_of_offEv (requeue_offEv (h := h) k l)
  rw [same]

/-- A kind's priority stored, and given to its pending records. -/
def Hap.resetTo (h : Hap) (k : EvKind) (pr : Fin 4) : Hap :=
  { h with ev := { h.ev with
      kinds := h.ev.kinds.set (kindIndex k) (some pr),
      queue := h.ev.queue.map fun r => if r.kind = k then { r with priority := pr } else r } }

/-- EVENT SETUP's records for a CONDITION kind that was OFF, one after the other (R149). -/
def requeueEach (k : EvKind) (cs : List CondId) (h : Hap) : Hap :=
  cs.foldl (fun h c => if decide (h.role = .branch) && h.ev.isReported k c.locus then h else requeue k c.locus h) h

theorem requeueEach_pending {pr : Fin 4} : ∀ (cs : List CondId) (h : Hap), h.role = .root → h.ev.setting k = some pr →
    h.ev.queue.length + cs.length ≤ 32 →
    (∀ c ∈ cs, (requeueEach k cs h).ev.isPending k c.locus = true) ∧
      (∀ l, h.ev.isPending k l = true → (requeueEach k cs h).ev.isPending k l = true) ∧
      (requeueEach k cs h).ev.kinds = h.ev.kinds
  | [], h, _, _, _ => ⟨nofun, fun _ => id, rfl⟩
  | c :: cs, h, root, on, room => by
    simp only [List.length_cons] at room
    obtain ⟨entered, kept, length⟩ := requeue_room (l := c.locus) on (by omega)
    have role := (requeue_role k c.locus h).trans root
    have kinds := requeue_kinds k c.locus h
    have step : requeueEach k (c :: cs) h = requeueEach k cs (requeue k c.locus h) := by
      simp [requeueEach, root]
    obtain ⟨later, keeps, kinds'⟩ := requeueEach_pending cs (requeue k c.locus h) role
      (by rw [EventUnit.setting, kinds]; exact on) (by omega)
    rw [step]
    refine ⟨fun d mem => ?_, fun l was => keeps l (kept k l was), kinds'.trans kinds⟩
    rcases List.mem_cons.mp mem with rfl | mem
    · exact keeps _ entered
    · exact later d mem

/-- The instances that hold are in the holding set. -/
theorem instancesOf_spec (ev : EventUnit) (k : EvKind) :
    (ev.instancesOf k).length ≤ ev.localConds.length + ev.remoteConds.length ∧
      ∀ l, ev.holds k l = true → ∃ c ∈ ev.instancesOf k, c.locus = l := by
  have perm := sortBy_perm (fun a b : CondId => locusLt a.locus b.locus) (ev.holdingSet.filter fun c => decide (c.kind = k))
  refine ⟨?_, fun l held => ⟨⟨k, l⟩, perm.mem_iff.mpr ?_, rfl⟩⟩
  · rw [EventUnit.instancesOf, perm.length_eq]
    refine (List.length_filter_le _ _).trans ?_
    rw [EventUnit.holdingSet, List.length_append, List.length_map]
    exact Nat.add_le_add_left (List.length_filter_le _ _) _
  · simp only [List.mem_filter, decide_true, and_true, EventUnit.holdingSet, List.mem_append, List.mem_map]
    by_cases here : ev.localHolds k l = true
    · exact .inl (by simpa [EventUnit.localHolds] using here)
    · rw [EventUnit.holds, Bool.or_eq_true] at held
      obtain ⟨c, mem, same⟩ := List.any_eq_true.mp (held.resolve_left here)
      simp only [Bool.and_eq_true, decide_eq_true_eq] at same
      obtain ⟨kind, locus⟩ := same
      refine .inr ⟨c, ⟨mem, ?_⟩, by rw [kind, locus]⟩
      simpa [kind, locus] using here

end

/-- Settles O29. -/
theorem eventSetupStoresTheSetting : Obligations.EventSetupStoresTheSetting := by
  unfold Obligations.EventSetupStoresTheSetting
  intro tag k kind setting pr s
  have judged : ∀ kind setting : Byte, judge (.host tag) 0x52 [kind, setting] (Hap.start s) =
      reqEventSetup kind setting (Hap.start s) := fun kind setting => judge_of_req (r := .eventSetup kind setting) rfl rfl
  have taken : ∀ v b, settingOf b = some v → reqEventSetup (evKindCode k) b (Hap.start s) =
      (setupEffect k v (Hap.start s), .ok [evKindCode k, b]) := fun v b code => by
    simp only [reqEventSetup, evKindOf_evKindCode, code]
  refine ⟨fun bad ready => ?_, fun ready idle => ?_, fun ready on => ?_, fun ready off style room => ?_⟩
  · refine exec_refused rfl (by simp) ready ((judged kind setting).trans ?_)
    rcases bad with bad | bad
    · simp only [reqEventSetup, evKindOf_none bad]
    · simp only [reqEventSetup, settingOf_none bad]
      cases evKindOf kind <;> rfl
  · have row := exec_answered (c := .eventSetup tag (evKindCode k) 0xFF) (f := ⟨0x52, tag, [evKindCode k, 0xFF]⟩) rfl (by simp)
      ready ((judged _ _).trans (taken none 0xFF rfl)) rfl rfl
    have effect : setupEffect k none (Hap.start s) = { Hap.start s with
        ev := { s.ev with kinds := s.ev.kinds.set (kindIndex k) none, queue := s.ev.queue.filter fun r => decide (r.kind ≠ k) },
        drainDue := true } := by
      have flight : ∀ ev : EventUnit, ev.inFlight = none → dropFlightOf k ev = ev := fun ev none => by
        simp only [dropFlightOf, none]
      exact congrArg (fun ev => ({ Hap.start s with ev := ev, drainDue := true } : Hap)) (flight { s.ev with
        kinds := s.ev.kinds.set (kindIndex k) none, queue := s.ev.queue.filter fun r => decide (r.kind ≠ k) } idle)
    rw [row, effect]
    exact congrArg Host.Outcome.next (finish_drained_root (show s.role = .root from ready_root ready) rfl rfl rfl rfl rfl rfl)
  · have effect : setupEffect k (some pr) (Hap.start s) = (Hap.start s).resetTo k pr := by
      refine if_neg ?_
      rcases on with on | on
      · simp [show (Hap.start s).ev.setting k ≠ none from on]
      · simp [on]
    exact exec_replied (c := .eventSetup tag (evKindCode k) (byteOf pr.val))
      (f := ⟨0x52, tag, [evKindCode k, byteOf pr.val]⟩) rfl (by simp) ready
      ((judged _ _).trans ((taken (some pr) _ (settingOf_byteOf pr)).trans (congrArg (·, Answer.ok _) effect))) rfl rfl
  · have row := exec_answered (c := .eventSetup tag (evKindCode k) (byteOf pr.val))
      (f := ⟨0x52, tag, [evKindCode k, byteOf pr.val]⟩) rfl (by simp) ready
      ((judged _ _).trans (taken (some pr) _ (settingOf_byteOf pr))) rfl rfl
    have effect : setupEffect k (some pr) (Hap.start s) =
        requeueEach k (s.ev.instancesOf k) ((Hap.start s).resetTo k pr) := by
      refine if_pos ?_
      simp [show (Hap.start s).ev.setting k = none from off, style]
    obtain ⟨few, all⟩ := instancesOf_spec s.ev k
    have set : ((Hap.start s).resetTo k pr).ev.setting k = some pr := Vector.getElem_set_self ..
    have length : ((Hap.start s).resetTo k pr).ev.queue.length = s.ev.queue.length := List.length_map ..
    obtain ⟨pending, -, kinds⟩ := requeueEach_pending (s.ev.instancesOf k) ((Hap.start s).resetTo k pr) (ready_root ready) set
      (by omega)
    rw [← effect] at pending kinds
    obtain ⟨ev, entered, drain, same⟩ := shape_of_offEv (setupEffect_offEv (h := Hap.start s) k (some pr))
    generalize setupEffect k (some pr) (Hap.start s) = h at row pending kinds same
    obtain ⟨ends, desk⟩ := answered_desk (f := ⟨0x52, tag, [evKindCode k, byteOf pr.val]⟩) (kind := .ok)
      (payload := [evKindCode k, byteOf pr.val]) (h := h) (ready_root ready) (by rw [same]; rfl) (by rw [same]; rfl)
      (by rw [same]; rfl) (by rw [same]; rfl) (by rw [same]; rfl)
    have still := closing_roster_still (h := h.answered ⟨0x52, tag, [evKindCode k, byteOf pr.val]⟩ .ok
      [evKindCode k, byteOf pr.val]) (by rw [same]; rfl) (by rw [same]; rfl) (by rw [same]; rfl)
    have queue : (closing (h.answered ⟨0x52, tag, [evKindCode k, byteOf pr.val]⟩ .ok [evKindCode k, byteOf pr.val])).ev.queue =
        h.ev.queue := by
      rw [closing_clean (by rw [same]; rfl) (by rw [same]; rfl)]
      exact behindRecovery_queue _
    have kinds' := (moves_closing (h.answered ⟨0x52, tag, [evKindCode k, byteOf pr.val]⟩ .ok
      [evKindCode k, byteOf pr.val])).frame .kinds rfl
    refine ⟨_, row.trans (congrArg Host.Outcome.next ends), ?_, fun l held => ?_, desk, still.trans (by rw [same]; rfl)⟩
    · exact (congrArg (fun v : Vector (Option (Fin 4)) 17 => v[kindIndex k]) (Eq.trans kinds' kinds)).trans set
    · obtain ⟨c, mem, rfl⟩ := all l held
      rw [EventUnit.isPending, queue]
      exact pending c mem

end Sys2Proof.Machine
end

section
/-! PROOF. EVENT ACK of a root's host (O28). -/

namespace Sys2Proof.Machine

section
variable {s : State} {h : Hap} {k : EvKind} {l : Locus}

/-- Two event units that tell the same settings and the same instances. -/
structure EventUnit.agrees (a b : EventUnit) : Prop where
  kinds : a.kinds = b.kinds
  locals : a.localConds = b.localConds
  remotes : a.remoteConds = b.remoteConds
  lost : a.lost = b.lost

theorem EventUnit.agrees.setting {a b : EventUnit} (same : a.agrees b) (k : EvKind) : a.setting k = b.setting k := by
  rw [EventUnit.setting, EventUnit.setting, same.kinds]

theorem EventUnit.agrees.localHolds {a b : EventUnit} (same : a.agrees b) (k : EvKind) (l : Locus) :
    a.localHolds k l = b.localHolds k l := by rw [EventUnit.localHolds, EventUnit.localHolds, same.locals]

theorem EventUnit.agrees.holds {a b : EventUnit} (same : a.agrees b) (k : EvKind) (l : Locus) : a.holds k l = b.holds k l := by
  rw [EventUnit.holds, EventUnit.holds, same.localHolds, EventUnit.remoteHolds, EventUnit.remoteHolds, same.remotes]

theorem EventUnit.agrees.trans {a b c : EventUnit} (ab : a.agrees b) (bc : b.agrees c) : a.agrees c :=
  ⟨ab.kinds.trans bc.kinds, ab.locals.trans bc.locals, ab.remotes.trans bc.remotes, ab.lost.trans bc.lost⟩

/-- A removed record that is queued anew: a condition that still holds (R148). -/
def EventUnit.renews (ev : EventUnit) (r : EvRecord) : Bool := decide (r.style = .condition) && ev.holds r.kind r.locus

/-- What a new record of a condition that holds says. -/
def EventUnit.newRecord (ev : EventUnit) (r : EvRecord) : Prop :=
  r.count = 1 ∧ r.style = .condition ∧ ev.setting r.kind = some r.priority ∧
    (ev.localHolds r.kind r.locus = true → r.origin = []) ∧
    ∀ c, (ev.remoteConds.find? fun x => decide (x.kind = r.kind) && decide (x.locus = r.locus)) = some c →
      ev.localHolds r.kind r.locus = false → r.detail = c.detail ∧ r.origin = c.origin

theorem EventUnit.agrees.newRecord {a b : EventUnit} (same : a.agrees b) {r : EvRecord} (new : a.newRecord r) : b.newRecord r := by
  obtain ⟨count, style, setting, own, remote⟩ := new
  rw [same.setting] at setting
  rw [same.localHolds] at own remote
  rw [same.remotes] at remote
  exact ⟨count, style, setting, own, remote⟩

/-- A record of what holds, of a kind with a priority, into a queue with room. -/
theorem requeue_new {pr : Fin 4} (takes : h.ev.takesNew pr k l) : ∃ r : EvRecord, r.kind = k ∧ r.locus = l ∧
    (requeue k l h).ev.queue = h.ev.queue ++ [r] ∧ (requeue k l h).ev.agrees h.ev ∧ h.ev.newRecord r := by
  obtain ⟨kind, locus, style, count⟩ := instanceOcc_what h.toState k l
  have entered : requeue k l h = noteEntry pr { h with ev := h.ev.push (instanceOcc h.toState k l) pr } := by
    refine raise_new ?_
    rw [kind, locus]
    exact takes
  rw [entered]
  refine ⟨_, kind, locus, rfl, ⟨rfl, rfl, rfl, rfl⟩, count, style, (congrArg h.ev.setting kind).trans takes.1,
    fun held => ?_, fun c found gone => ?_⟩
  · simp only [kind, locus] at held
    simp only [instanceOcc, held, if_true]
    rfl
  · simp only [kind, locus] at gone found
    simp only [instanceOcc, gone, Bool.false_eq_true, if_false, found]
    exact ⟨rfl, rfl⟩

/-- EVENT ACK's new records, one after the other. -/
def renewEach (rs : List EvRecord) (h : Hap) : Hap :=
  rs.foldl (fun h r => if decide (r.style = .condition) && h.ev.holds r.kind r.locus then requeue r.kind r.locus h else h) h

theorem renewEach_spec : ∀ (rs : List EvRecord) (h : Hap), (rs.map EvRecord.what).Nodup →
    (∀ r ∈ rs, r.what ∉ h.ev.queue.map EvRecord.what) → h.ev.queue.length + rs.length ≤ 32 →
    ∃ new, (renewEach rs h).ev.queue = h.ev.queue ++ new ∧
      new.map EvRecord.what =
        (rs.filter fun x => h.ev.renews x && (h.ev.setting x.kind).isSome).map EvRecord.what ∧
      (∀ r ∈ new, h.ev.newRecord r) ∧ (renewEach rs h).ev.agrees h.ev
  | [], h, _, _, _ => ⟨[], by simp [renewEach], rfl, nofun, ⟨rfl, rfl, rfl, rfl⟩⟩
  | r :: rs, h, once, fresh, room => by
    rw [List.map_cons, List.nodup_cons] at once
    rw [List.length_cons] at room
    by_cases renews : (h.ev.renews r && (h.ev.setting r.kind).isSome) = true
    · obtain ⟨holds, on⟩ := Bool.and_eq_true_iff.mp renews
      obtain ⟨pr, on⟩ := Option.isSome_iff_exists.mp on
      have takes : h.ev.takesNew pr r.kind r.locus :=
        ⟨on, EventUnit.isPending_eq_false.mpr (fresh r (List.mem_cons_self ..)), show h.ev.queue.length < 32 by omega⟩
      obtain ⟨x, kind, locus, queue, agrees, new⟩ := requeue_new takes
      have step : renewEach (r :: rs) h = renewEach rs (requeue r.kind r.locus h) :=
        congrArg (renewEach rs) (if_pos holds)
      have what : x.what = r.what := by rw [EvRecord.what, EvRecord.what, kind, locus]
      obtain ⟨more, queue', list, news, agrees'⟩ := renewEach_spec rs (requeue r.kind r.locus h) once.2 (fun y mem pending => by
        rw [queue, List.map_append, List.mem_append, List.map_singleton, List.mem_singleton] at pending
        rcases pending with old | same
        · exact fresh y (List.mem_cons_of_mem _ mem) old
        · exact once.1 (what ▸ same ▸ List.mem_map_of_mem mem)) (by rw [queue]; simp; omega)
      rw [step]
      refine ⟨x :: more, by rw [queue', queue, List.append_assoc, List.singleton_append], ?_, fun y mem => ?_, agrees'.trans agrees⟩
      · rw [List.filter_cons, if_pos renews, List.map_cons, List.map_cons, list, what]
        simp only [EventUnit.renews, agrees.holds, agrees.setting]
      · rcases List.mem_cons.mp mem with rfl | mem
        · exact new
        · exact agrees.newRecord (news y mem)
    · have step : renewEach (r :: rs) h = renewEach rs h := by
        refine congrArg (renewEach rs) ?_
        by_cases holds : h.ev.renews r = true
        · have off : h.ev.setting r.kind = none := by simpa [holds] using renews
          refine (if_pos holds).trans (raise_off ?_)
          rw [(instanceOcc_what h.toState r.kind r.locus).1]
          exact off
        · exact if_neg holds
      obtain ⟨more, queue', list, news, agrees'⟩ := renewEach_spec rs h once.2 (fun y mem => fresh y (List.mem_cons_of_mem _ mem))
        (by omega)
      rw [step]
      exact ⟨more, queue', by rw [List.filter_cons, if_neg renews]; exact list, news, agrees'⟩

/-- The end of a root's happening of events alone: the announced priority moves, and what is sent to the host. -/
theorem closing_eventful (root : h.role = .root) (settled : h.settleDue = false) (clean : h.dirty = false)
    (flags : h.flagsDue = false) (deltas : h.deltaDue = false) :
    ∃ a host, closing h = { h with ev := { h.ev with announced := a }, host := host } := by
  rw [closing_clean settled clean, behindRecovery_root root deltas, recomputeFlags_still flags, advanceGeneration_still clean]
  obtain ⟨a, same | ⟨x, same⟩⟩ := attend_shape h
  · exact ⟨a, h.host, same⟩
  · exact ⟨a, _, same⟩

/-- The acknowledged records leave the queue, and those whose condition still holds enter it anew (R148). -/
theorem ackEffect_spec (seqs : List Word16) (h : Hap) (size : h.ev.queue.length ≤ queueSize) (distinct : h.ev.distinct) :
    ∃ new, (ackEffect seqs h).ev.queue = (h.ev.queue.filter fun r => decide (r.seq ∉ seqs)) ++ new ∧
      new.map EvRecord.what = ((deliveryOrder (h.ev.queue.filter fun r => decide (r.seq ∈ seqs))).filter fun x =>
        h.ev.renews x && (h.ev.setting x.kind).isSome).map EvRecord.what ∧
      (∀ r ∈ new, h.ev.newRecord r) ∧ (ackEffect seqs h).ev.agrees h.ev := by
  have gone : (h.ev.queue.filter fun r => seqs.contains r.seq) = h.ev.queue.filter fun r => decide (r.seq ∈ seqs) :=
    List.filter_congr fun r _ => by simp
  have kept : (h.ev.queue.filter fun r => !(seqs.contains r.seq)) = h.ev.queue.filter fun r => decide (r.seq ∉ seqs) :=
    List.filter_congr fun r _ => by simp
  have perm := deliveryOrder_perm (h.ev.queue.filter fun r => decide (r.seq ∈ seqs))
  have once : (h.ev.queue.map EvRecord.what).Nodup := distinct
  have effect : ackEffect seqs h = renewEach (deliveryOrder (h.ev.queue.filter fun r => decide (r.seq ∈ seqs)))
      { h with ev := { h.ev with queue := h.ev.queue.filter fun r => decide (r.seq ∉ seqs) }, drainDue := true } := by
    rw [← gone, ← kept]
    rfl
  have again : ((deliveryOrder (h.ev.queue.filter fun r => decide (r.seq ∈ seqs))).map EvRecord.what).Nodup :=
    (perm.map _).nodup_iff.mpr (once.sublist (List.filter_sublist.map _))
  have fresh : ∀ r ∈ deliveryOrder (h.ev.queue.filter fun r => decide (r.seq ∈ seqs)),
      r.what ∉ (h.ev.queue.filter fun r => decide (r.seq ∉ seqs)).map EvRecord.what := fun r mem pending => by
    have here := perm.mem_iff.mp mem
    obtain ⟨x, there, same⟩ := List.mem_map.mp pending
    rw [List.mem_filter, decide_eq_true_eq] at here there
    have : x = r := List.inj_on_of_nodup_map once there.1 here.1 same
    exact there.2 (this ▸ here.2)
  have room : (h.ev.queue.filter fun r => decide (r.seq ∉ seqs)).length +
      (deliveryOrder (h.ev.queue.filter fun r => decide (r.seq ∈ seqs))).length ≤ 32 := by
    have parts := List.length_eq_length_filter_add (l := h.ev.queue) fun r => decide (r.seq ∈ seqs)
    have other : (h.ev.queue.filter fun r => !decide (r.seq ∈ seqs)) = h.ev.queue.filter fun r => decide (r.seq ∉ seqs) :=
      List.filter_congr fun r _ => by simp
    rw [other] at parts
    rw [perm.length_eq]
    have : h.ev.queue.length ≤ 32 := size
    omega
  obtain ⟨new, queue, list, news, agrees⟩ := renewEach_spec (deliveryOrder (h.ev.queue.filter fun r => decide (r.seq ∈ seqs)))
    { h with ev := { h.ev with queue := h.ev.queue.filter fun r => decide (r.seq ∉ seqs) }, drainDue := true } again fresh room
  rw [effect]
  exact ⟨new, queue, list, news, agrees.trans ⟨rfl, rfl, rfl, rfl⟩⟩

end

/-- Settles O28. -/
theorem eventAckRemovesAndRequeues : Obligations.EventAckRemovesAndRequeues := by
  unfold Obligations.EventAckRemovesAndRequeues
  intro tag count seqs s counted short ready
  have judged : judge (.host tag) 0x51 (count :: seqs.flatMap be16) (Hap.start s) = reqEventAck seqs (Hap.start s) := by
    refine judge_of_req (r := .eventAck seqs) rfl ?_
    refine (if_pos ?_).trans (congrArg (Option.map Req.eventAck) (words16_flatMap_be16 seqs))
    rw [length_flatMap_be16, counted]
  have fits : (count :: seqs.flatMap be16).length ≤ 200 := by
    rw [List.length_cons, length_flatMap_be16]
    omega
  refine ⟨fun many => exec_refused (c := .eventAck tag count seqs) rfl fits ready (judged.trans (if_pos many)),
    fun few size distinct => ?_⟩
  have row := exec_answered (c := .eventAck tag count seqs) (f := ⟨0x51, tag, count :: seqs.flatMap be16⟩) rfl fits ready
    (judged.trans (if_neg (Nat.not_lt.mpr few))) rfl rfl
  obtain ⟨new, queue, list, news, agrees⟩ := ackEffect_spec seqs (Hap.start s) size distinct
  obtain ⟨ev, entered, drain, same⟩ := shape_of_offEv (ackEffect_offEv (h := Hap.start s) seqs)
  have removed : (Hap.start s).ev.ackCount seqs = (s.ev.queue.filter fun r => decide (r.seq ∈ seqs)).length := by
    rw [EventUnit.ackCount, List.countP_eq_length_filter]
    exact congrArg List.length (List.filter_congr fun r _ => by simp)
  rw [removed] at row
  generalize ackEffect seqs (Hap.start s) = h at row queue agrees same
  obtain ⟨bytes, reply⟩ : ∃ bytes, bytes = [byteOf (s.ev.queue.filter fun r => decide (r.seq ∈ seqs)).length,
    byteOf h.ev.queue.length] := ⟨_, rfl⟩
  rw [← reply] at row
  obtain ⟨ends, desk⟩ := answered_desk (f := ⟨0x51, tag, count :: seqs.flatMap be16⟩) (kind := .ok) (payload := bytes) (h := h)
    (ready_root ready) (by rw [same]; rfl) (by rw [same]; rfl) (by rw [same]; rfl) (by rw [same]; rfl) (by rw [same]; rfl)
  have answer := answered_memory h ⟨0x51, tag, count :: seqs.flatMap be16⟩ .ok bytes
  have clean := closing_eventful (h := h.answered ⟨0x51, tag, count :: seqs.flatMap be16⟩ .ok bytes)
    (by rw [same]; exact (show s.role = .root from ready_root ready)) (by rw [same]; rfl) (by rw [same]; rfl)
    (by rw [same]; rfl) (by rw [same]; rfl)
  have base : (h.answered ⟨0x51, tag, count :: seqs.flatMap be16⟩ .ok bytes).ev = h.ev := rfl
  obtain ⟨a, host, clean⟩ := clean
  rw [clean] at ends desk answer
  have member : ∀ x, x ∈ (deliveryOrder (s.ev.queue.filter fun r => decide (r.seq ∈ seqs))).filter (fun x =>
      s.ev.renews x && (s.ev.setting x.kind).isSome) ↔
      ((x ∈ s.ev.queue ∧ x.seq ∈ seqs) ∧ (x.style = .condition ∧ s.ev.holds x.kind x.locus = true)) ∧
        s.ev.setting x.kind ≠ none := fun x => by
    simp only [List.mem_filter, (deliveryOrder_perm _).mem_iff, EventUnit.renews, Bool.and_eq_true, decide_eq_true_eq,
      Option.isSome_iff_ne_none, and_assoc]
  refine ⟨_, new, row.trans (congrArg Host.Outcome.next ends), queue, fun r mem => ?_, ?_, list, fun x mem listed style holds on => ?_,
    ?_, agrees.lost, agrees.locals, agrees.remotes, agrees.kinds, desk, by rw [same]; rfl, by rw [same]; rfl, by rw [same]; rfl,
    by rw [same]; rfl⟩
  · obtain ⟨one, style, setting, own, remote⟩ := news r mem
    have what : r.what ∈ new.map EvRecord.what := List.mem_map_of_mem mem
    rw [list] at what
    obtain ⟨x, there, same⟩ := List.mem_map.mp what
    obtain ⟨⟨⟨mem, listed⟩, condition, holds⟩, -⟩ := (member x).mp there
    obtain ⟨kind, locus⟩ := Prod.mk.inj same
    have holds' : s.ev.holds r.kind r.locus = true := by rw [← kind, ← locus]; exact holds
    exact ⟨one, style, holds', setting, ⟨x, mem, listed, kind, locus, condition, holds⟩, own, remote⟩
  · show (new.map EvRecord.what).Nodup
    rw [list]
    have once : (s.ev.queue.map EvRecord.what).Nodup := distinct
    exact ((((deliveryOrder_perm _).map _).nodup_iff.mpr (once.sublist (List.filter_sublist.map _)))).sublist
      (List.filter_sublist.map _)
  · have what : x.what ∈ new.map EvRecord.what := by
      rw [list]
      exact List.mem_map_of_mem ((member x).mpr ⟨⟨⟨mem, listed⟩, style, holds⟩, on⟩)
    obtain ⟨r, there, same⟩ := List.mem_map.mp what
    obtain ⟨kind, locus⟩ := Prod.mk.inj same
    exact ⟨r, there, kind, locus⟩
  · rw [reply] at answer
    exact answer

end Sys2Proof.Machine
end

section
/-! PROOF. A child's events and conditions (O54). -/

namespace Sys2Proof.Machine

/-! ### Details that are of their enumeration (R172, R173) -/

theorem fits_of_within {kind : EvKind} {locus : Locus} {detail : Word16} {codes : List Byte} {lo hi : Nat}
    (named : detailCodes kind locus = some codes) (other : kind ≠ .hostFrameError)
    (covers : codes.map (fun c => (detailOf c).toNat) = List.range' lo (hi + 1 - lo)) (least : lo ≤ detail.toNat)
    (most : detail.toNat ≤ hi) : detailFits kind locus detail = true := by
  have within : detail.toNat ∈ List.range' lo (hi + 1 - lo) := List.mem_range'_1.mpr ⟨least, by omega⟩
  obtain ⟨c, mem, code⟩ := List.mem_map.mp (covers ▸ within)
  simp only [detailFits, named]
  refine List.any_eq_true.mpr ⟨c, mem, ?_⟩
  rw [carriesCode, if_neg other, decide_eq_true_eq]
  exact (BitVec.eq_of_toNat_eq code).symm

theorem fits_hostFrameError {locus : Locus} {detail : Word16} (least : 1 ≤ detail.toNat / 256) (most : detail.toNat / 256 ≤ 2) :
    detailFits .hostFrameError locus detail = true := by
  have halves : ∀ c : Byte, c.toNat = detail.toNat / 256 → carriesCode .hostFrameError detail c = true := fun c high => by
    rw [carriesCode, if_pos rfl, decide_eq_true_eq]
    refine BitVec.eq_of_toNat_eq ?_
    have low := (detail.extractLsb' 0 8).isLt
    rw [of16, BitVec.toNat_append, ← Nat.shiftLeft_add_eq_or_of_lt low, Nat.shiftLeft_eq, BitVec.extractLsb'_toNat, high]
    simp only [Nat.shiftRight_zero]
    omega
  refine List.any_eq_true.mpr ?_
  rcases (show detail.toNat / 256 = 1 ∨ detail.toNat / 256 = 2 by omega) with one | two
  · exact ⟨1, by simp, halves 1 one.symm⟩
  · exact ⟨2, by simp, halves 2 two.symm⟩

/-- A detail that the statements' table admits is taken. -/
theorem fits_of_detailOfItsCodes {e : EventUp} (codes : detailOfItsCodes e) : detailFits e.kind e.locus e.detail = true := by
  obtain ⟨left, refused, done, lost, resync, frame, parked⟩ := codes
  cases kind : e.kind
  case moduleLeft => exact fits_of_within rfl nofun rfl (left kind).1 (left kind).2
  case checkinRefused => exact fits_of_within rfl nofun rfl (Nat.zero_le _) (refused kind)
  case opDone =>
    by_cases rack : e.locus.slot = 0
    · simp only [detailFits, detailCodes, rack, if_true]
    · exact fits_of_within (if_neg rack) nofun rfl (done kind rack).1 (done kind rack).2
  case branchLost => exact fits_of_within rfl nofun rfl (lost kind).1 (lost kind).2
  case branchResync => exact fits_of_within rfl nofun rfl (Nat.zero_le _) (resync kind)
  case hostFrameError => exact fits_hostFrameError (frame kind).1 (frame kind).2
  case slotParked => exact fits_of_within rfl nofun rfl (Nat.zero_le _) (parked kind)
  all_goals rfl

/-! ### A child's events (R154, R155) -/

section
variable {s : State} {p : DPort} {e : EventUp} {o : Occ} {q : List EvRecord} {c : Word16} {l : Nat} {n : List (Fin 4)} {d : Bool}

/-- An occurrence among raised ones. -/
theorem raise_raised (o : Occ) (s : State) (q : List EvRecord) (c : Word16) (l : Nat) (n : List (Fin 4)) (d : Bool) :
    ∃ q' c' l' n' d', raise o (Hap.raised s q c l n d) = Hap.raised s q' c' l' n' d' := by
  obtain ⟨q', c', l', ev⟩ := raise_ev o (Hap.raised s q c l n d)
  obtain ⟨ev', entered, drain, same⟩ := shape_of_offEv (raise_offEv (Hap.raised s q c l n d) o)
  rw [same] at ev
  exact ⟨q', c', l', entered, drain, by rw [same, show ev' = _ from ev]; rfl⟩

/-- The state of a port whose child's event is acknowledged and remembered. -/
def State.ackedEvent (s : State) (p : DPort) (seq : Word16) : State :=
  s.withD p (DLink.send { s.dl p with loss := some 60, lastChildSeq := some seq } (.eventAck .record seq))

theorem ackedEvent_ev (s : State) (p : DPort) (seq : Word16) : (s.ackedEvent p seq).ev = s.ev := by cases p <;> rfl

/-- An event that is not too deep is acknowledged; a new one is brought up, the lost ones ahead of it. -/
theorem takeEventUp_shallow (path : e.locus.path.length ≤ 3) (origin : e.origin.length ≤ 2) :
    takeEventUp p e (Hap.start (s.heard (.d p))) =
      if (s.dl p).lastChildSeq = some e.seq then
        Hap.start (s.withD p (DLink.send { s.dl p with loss := some 60 } (.eventAck .record e.seq)))
      else raiseBrought p e (if e.lost = 0 then Hap.start (s.ackedEvent p e.seq)
        else raiseLatched .branchEventsLost (portLocus p) (word16Of e.lost.toNat) (Hap.start (s.ackedEvent p e.seq))) := by
  have shallow : EventUp.tooDeep e = false := by
    simp only [EventUp.tooDeep, Bool.or_eq_false_iff, decide_eq_false_iff_not]
    omega
  refine (if_neg (by rw [shallow]; nofun)).trans ?_
  cases p <;> rfl

/-- An event record whose detail is of its enumeration is taken by the port. -/
theorem exec_eventUp (active : (s.dl p).state.active = true) (codes : detailOfItsCodes e) :
    exec (.eventUp (.d p) e) s = .next (finish (takeEventUp p e (Hap.start (s.heard (.d p))))) :=
  (if_pos (fits_of_detailOfItsCodes codes)).trans (linkRow_d active (.eventUp e) rfl)

/-- The occurrence that a child's event is at this part. -/
def broughtOcc (p : DPort) (e : EventUp) : Occ :=
  { kind := e.kind, style := e.style, locus := { e.locus with path := p :: e.locus.path }, detail := e.detail,
    count := e.count.toNat, origin := p :: e.origin }

theorem raiseBrought_latched (style : e.style = .latched) (h : Hap) : raiseBrought p e h = raise (broughtOcc p e) h := by
  simp only [raiseBrought, style, broughtOcc, Locus.under]

/-- A child's condition that the remote set does not hold enters it, where the parent has been told of nothing. -/
theorem raiseBrought_condition {a : State} (style : e.style = .condition) (reported : a.ev.reported = [])
    (absent : a.ev.remoteHolds e.kind { e.locus with path := p :: e.locus.path } = false)
    (room : a.ev.remoteConds.length < 32) :
    raiseBrought p e (Hap.start a) = raise (broughtOcc p e) (Hap.start { a with ev := { a.ev with
      remoteConds := a.ev.remoteConds ++ [{ port := p, kind := e.kind, locus := { e.locus with path := p :: e.locus.path },
                                            detail := e.detail, origin := p :: e.origin }] } }) := by
  have rooms : a.ev.remoteRoom e.kind { e.locus with path := p :: e.locus.path } = true := by
    simp only [EventUnit.remoteRoom, absent, Bool.false_or, decide_eq_true_eq]
    exact room
  have quiet : ∀ k l, ∀ b : State, b.ev.reported = [] → withdrawClear k l (Hap.start b) = Hap.start b := fun k l b none => by
    unfold withdrawClear
    split
    · rfl
    · have same : (b.ev.reported.filter fun r => !(r.is k l && r.waiting)) = b.ev.reported := by rw [none]; rfl
      exact congrArg (fun r => ({ Hap.start b with ev := { b.ev with reported := r } } : Hap)) same
  have stored : storeRemote { port := p, kind := e.kind, locus := { e.locus with path := p :: e.locus.path }, detail := e.detail,
                              origin := p :: e.origin } (Hap.start a) = Hap.start { a with ev := { a.ev with
      remoteConds := a.ev.remoteConds ++ [{ port := p, kind := e.kind, locus := { e.locus with path := p :: e.locus.path },
                                            detail := e.detail, origin := p :: e.origin }] } } := by
    refine (if_neg (by rw [show (Hap.start a).ev.remoteHolds _ _ = false from absent]; nofun)).trans ?_
    simp only
    split
    · rfl
    · exact quiet _ _ { a with ev := { a.ev with
        remoteConds := a.ev.remoteConds ++ [{ port := p, kind := e.kind, locus := { e.locus with path := p :: e.locus.path },
                                              detail := e.detail, origin := p :: e.origin }] } } reported
  unfold raiseBrought
  simp only [style]
  rw [if_pos (show (Hap.start a).ev.remoteRoom e.kind (Locus.under e.locus p) = true from rooms)]
  rw [show Locus.under e.locus p = { e.locus with path := p :: e.locus.path } from rfl, stored, broughtOcc, style]

/-- A clear takes the condition out of the remote set, where the parent has been told of nothing. -/
theorem endRemote_untold {a : State} {k : EvKind} {l : Locus} (reported : a.ev.reported = []) :
    endRemote k l (Hap.start a) = Hap.start { a with ev := { a.ev with
      remoteConds := a.ev.remoteConds.filter fun c => !(decide (c.kind = k) && decide (c.locus = l)) } } := by
  unfold endRemote
  split
  · have untold : ∀ b : State, b.ev.reported = [] → markEnded k l (Hap.start b) = Hap.start b := fun b none => by
      unfold markEnded
      rw [show (Hap.start b).ev.reported = [] from none]
      rfl
    simp only
    split
    · rfl
    · exact untold { a with ev := { a.ev with
        remoteConds := a.ev.remoteConds.filter fun c => !(decide (c.kind = k) && decide (c.locus = l)) } } reported
  · next absent =>
    have same : (a.ev.remoteConds.filter fun c => !(decide (c.kind = k) && decide (c.locus = l))) = a.ev.remoteConds := by
      refine List.filter_eq_self.mpr fun c mem => ?_
      have out : a.ev.remoteHolds k l = false := Bool.eq_false_of_not_eq_true absent
      have := List.any_eq_false.mp out c mem
      simpa [imp_iff_not_or] using this
    rw [same]

/-- A pending record that gains an occurrence. -/
theorem coalesced_eq (o : Occ) (r : EvRecord) : (if r.stands o.kind o.locus then r.coalesce o else r) =
    if r.kind = o.kind ∧ r.locus = o.locus then
      { r with count := min 255 (r.count + o.count), origin := o.origin,
               detail := if o.kind = .branchEventsLost then word16Of (min 65535 (r.detail.toNat + o.detail.toNat)) else o.detail }
    else r := by
  by_cases same : r.kind = o.kind ∧ r.locus = o.locus
  · have stands : r.stands o.kind o.locus = true := by simp [EvRecord.stands, same]
    rw [if_pos same, if_pos stands, EvRecord.coalesce, same.1]
  · have apart : ¬ r.stands o.kind o.locus = true := by simpa [EvRecord.stands] using same
    rw [if_neg same, if_neg apart]

/-- The record that an occurrence enters the queue as. -/
def Occ.record (o : Occ) (seq : Word16) (pr : Fin 4) : EvRecord :=
  { seq := seq, kind := o.kind, priority := pr, style := o.style, locus := o.locus, detail := o.detail, count := o.count,
    origin := o.origin }

/-- An occurrence that the queue takes, among raised ones. -/
theorem finish_raise_new {a : State} {pr : Fin 4}
    (takes : ({ a.ev with queue := q, counter := c, lost := l } : EventUnit).takesNew pr o.kind o.locus) :
    (finish (raise o (Hap.raised a q c l n d))).ev.queue = q ++ [o.record c pr] := by
  have entered : raise o (Hap.raised a q c l n d) =
      Hap.raised a (q ++ [o.record c pr]) (counterAfter c (q ++ [o.record c pr])) l (pr :: n) true := raise_new takes
  rw [entered]
  exact finish_raised.1

theorem finish_raise_same (a : State) : State.sameButEvents (finish (raise o (Hap.raised a q c l n d))) a := by
  obtain ⟨q', c', l', n', d', same⟩ := raise_raised o a q c l n d
  rw [same]
  exact finish_raised.2

/-- With lost ones told of first, a child's event enters behind their record, new or pending. -/
theorem finish_raise_lost {a : State} {pr low : Fin 4} (count : Nat) (kind : o.kind ≠ .branchEventsLost)
    (takes : a.ev.takesNew pr o.kind o.locus) :
    State.sameButEvents (finish (raise o (raiseLatched .branchEventsLost (portLocus p) (word16Of count) (Hap.start a)))) a ∧
      (a.ev.takesNew low .branchEventsLost (portLocus p) → a.ev.queue.length + 2 ≤ 32 →
        (finish (raise o (raiseLatched .branchEventsLost (portLocus p) (word16Of count) (Hap.start a)))).ev.queue =
          a.ev.queue ++ [latchedRecord a.ev low .branchEventsLost (portLocus p) (word16Of count),
            o.record (counterAfter a.ev.counter (a.ev.queue ++
              [latchedRecord a.ev low .branchEventsLost (portLocus p) (word16Of count)])) pr]) ∧
      (a.ev.setting .branchEventsLost ≠ none → a.ev.isPending .branchEventsLost (portLocus p) = true →
        (finish (raise o (raiseLatched .branchEventsLost (portLocus p) (word16Of count) (Hap.start a)))).ev.queue =
          (a.ev.queue.map fun r =>
            if r.stands .branchEventsLost (portLocus p) then
              r.coalesce (latchedOcc .branchEventsLost (portLocus p) (word16Of count)) else r) ++
            [o.record a.ev.counter pr]) := by
  obtain ⟨on, fresh, room⟩ := takes
  refine ⟨?_, fun told space => ?_, fun told pending => ?_⟩
  · obtain ⟨q', c', l', n', d', same⟩ := raise_raised (latchedOcc .branchEventsLost (portLocus p) (word16Of count)) a a.ev.queue
      a.ev.counter a.ev.lost [] false
    have same' : raiseLatched .branchEventsLost (portLocus p) (word16Of count) (Hap.start a) = Hap.raised a q' c' l' n' d' := same
    rw [same']
    exact finish_raise_same a
  · rw [raiseLatched, raise_start (o := latchedOcc .branchEventsLost (portLocus p) (word16Of count)) told]
    refine (finish_raise_new (a := a) (pr := pr) (q := (a.ev.push (latchedOcc .branchEventsLost (portLocus p) (word16Of count))
      low).queue) ⟨on, ?_, ?_⟩).trans (List.append_assoc a.ev.queue _ _)
    · rw [EventUnit.isPending_eq_false] at fresh ⊢
      simp only [EventUnit.push, List.map_append, List.mem_append, not_or]
      exact ⟨fresh, by simp [EvRecord.what, latchedOcc, kind]⟩
    · simp only [EventUnit.push, List.length_append, List.length_singleton, queueSize]
      omega
  · rw [raiseLatched, raise_pending (h := Hap.start a) (o := latchedOcc .branchEventsLost (portLocus p) (word16Of count))
      told pending rfl]
    refine finish_raise_new (n := []) (d := false) (c := a.ev.counter) (l := a.ev.lost) (a := a) (pr := pr) ⟨on, ?_, ?_⟩
    · rw [EventUnit.isPending_eq_false] at fresh ⊢
      exact (map_coalesce_what (latchedOcc .branchEventsLost (portLocus p) (word16Of count)) a.ev.queue).symm ▸ fresh
    · exact (List.length_map ..).symm ▸ room

end

/-- Settles O54. -/
theorem childsEventsAndConditionsAreTaken : Obligations.ChildsEventsAndConditionsAreTaken := by
  unfold Obligations.ChildsEventsAndConditionsAreTaken
  refine ⟨fun port e s odd => ?_, fun p e pr s active codes => ⟨fun deep => ?_, fun path origin known => ?_,
    fun path origin fresh none latched takes => ?_, fun path origin fresh none latched on pending => ?_⟩,
    fun p e pr low s new active codes path origin fresh some latched kind takes told => ?_,
    fun p e k l seq pr s active reported => ⟨fun codes path origin fresh none style absent room takes => ?_, ?_⟩⟩
  · exact if_neg fun fits => odd (detailOfItsCodes_of_fits fits)
  · have tooDeep : EventUp.tooDeep e = true := by
      simp only [EventUp.tooDeep, Bool.or_eq_true, decide_eq_true_eq]
      exact deep
    rw [exec_eventUp active codes]
    have dropped : takeEventUp p e (Hap.start (s.heard (.d p))) = Hap.start (s.heard (.d p)) := if_pos tooDeep
    rw [dropped]
    exact congrArg Host.Outcome.next (finish_quiet (start_quiet _))
  · rw [exec_eventUp active codes, takeEventUp_shallow path origin, if_pos known]
    exact congrArg Host.Outcome.next (finish_quiet (start_quiet _))
  · have raised := raise_start (s := s.ackedEvent p e.seq) (o := broughtOcc p e) (pr := pr) ((ackedEvent_ev ..).symm ▸ takes)
    refine ⟨_, exec_eventUp active codes, ?_⟩
    rw [takeEventUp_shallow path origin, if_neg fresh, if_pos none, raiseBrought_latched latched, raised]
    refine ⟨finish_raised.1.trans ?_, finish_raised.2⟩
    rw [ackedEvent_ev, ← latched]
    rfl
  · have bumped := raise_pending (h := Hap.start (s.ackedEvent p e.seq)) (o := broughtOcc p e)
      (by rw [show (Hap.start (s.ackedEvent p e.seq)).ev = s.ev from ackedEvent_ev ..]; exact on)
      (by rw [show (Hap.start (s.ackedEvent p e.seq)).ev = s.ev from ackedEvent_ev ..]; exact pending) latched
    rw [exec_eventUp active codes, takeEventUp_shallow path origin, if_neg fresh, if_pos none, raiseBrought_latched latched,
      bumped]
    refine congrArg Host.Outcome.next ((finish_quiet ⟨rfl, rfl, rfl, rfl, rfl, rfl, rfl⟩).trans ?_)
    have list : (s.ackedEvent p e.seq).ev.queue.map (fun r => if r.stands (broughtOcc p e).kind (broughtOcc p e).locus then
        r.coalesce (broughtOcc p e) else r) = s.ev.queue.map fun r =>
          if r.kind = e.kind ∧ r.locus = { e.locus with path := p :: e.locus.path } then
             { r with count := min 255 (r.count + e.count.toNat), origin := p :: e.origin,
                      detail := if e.kind = .branchEventsLost then
                                  word16Of (min 65535 (r.detail.toNat + e.detail.toNat))
                                else e.detail }
           else r := by
      rw [ackedEvent_ev]
      exact List.map_congr_left fun r _ => coalesced_eq (broughtOcc p e) r
    refine (congrArg (fun q => ({ s.ackedEvent p e.seq with ev := { (s.ackedEvent p e.seq).ev with queue := q } } : State)) list).trans ?_
    rw [ackedEvent_ev]
    rfl
  · obtain ⟨same, first, added⟩ := finish_raise_lost (p := p) (pr := pr) (low := low) (a := s.ackedEvent p e.seq)
      (o := broughtOcc p e) e.lost.toNat kind ((ackedEvent_ev ..).symm ▸ takes)
    rw [ackedEvent_ev] at first added
    have record : (broughtOcc p e).record s.ev.counter pr = new := by
      subst told
      rw [Occ.record, ← latched]
      rfl
    refine ⟨_, exec_eventUp active codes, ?_⟩
    rw [takeEventUp_shallow path origin, if_neg fresh, if_neg some, raiseBrought_latched latched]
    refine ⟨same, fun takes' room => (first takes' room).trans ?_, fun on pending => (added on pending).trans ?_⟩
    · rw [← record]
      rfl
    · rw [record]
      refine congrArg (· ++ [new]) (List.map_congr_left fun r _ => ?_)
      have number : (word16Of e.lost.toNat).toNat = e.lost.toNat := by
        have := e.lost.isLt
        rw [word16Of, BitVec.toNat_ofNat]
        omega
      have bumped := coalesced_eq (latchedOcc .branchEventsLost (portLocus p) (word16Of e.lost.toNat)) r
      rw [show (latchedOcc .branchEventsLost (portLocus p) (word16Of e.lost.toNat)).detail.toNat = e.lost.toNat from number] at bumped
      exact bumped
  · have told : (s.ackedEvent p e.seq).ev.reported = [] := by rw [ackedEvent_ev]; exact reported
    have stored := raiseBrought_condition (p := p) (a := s.ackedEvent p e.seq) style told (by rw [ackedEvent_ev]; exact absent)
      (by rw [ackedEvent_ev]; exact room)
    rw [ackedEvent_ev] at stored
    generalize base : ({ s.ackedEvent p e.seq with ev := { s.ev with
      remoteConds := s.ev.remoteConds ++ [{ port := p, kind := e.kind, locus := { e.locus with path := p :: e.locus.path },
                                            detail := e.detail, origin := p :: e.origin }] } } : State) = a at stored
    have unit : a.ev.queue = s.ev.queue ∧ a.ev.counter = s.ev.counter ∧ a.ev.kinds = s.ev.kinds := base ▸ ⟨rfl, rfl, rfl⟩
    have takes' : a.ev.takesNew pr (broughtOcc p e).kind (broughtOcc p e).locus := by
      rw [EventUnit.takesNew, EventUnit.setting, EventUnit.isPending, unit.1, unit.2.2]
      exact takes
    have raised := raise_start (s := a) (o := broughtOcc p e) (pr := pr) takes'
    refine ⟨_, exec_eventUp active codes, ?_⟩
    rw [takeEventUp_shallow path origin, if_neg fresh, if_pos none, stored, raised]
    refine ⟨finish_raised.1.trans ?_, ?_⟩
    · rw [EventUnit.push, unit.1, unit.2.1, ← style]
      rfl
    · have same := finish_raised (s := a) (q := (a.ev.push (broughtOcc p e) pr).queue) (c := (a.ev.push (broughtOcc p e) pr).counter)
        (l := a.ev.lost) (e := [pr]) (d := true)
      rw [← base] at same ⊢
      exact same.2
  · have cleared : takeActiveD p (.conditionClear k l seq) (Hap.start (s.heard (.d p))) =
        endRemote k { l with path := p :: l.path }
          (Hap.start (s.withD p (DLink.send { s.dl p with loss := some 60 } (.eventAck .clear seq)))) := by
      cases p <;> rfl
    have kept : (s.withD p (DLink.send { s.dl p with loss := some 60 } (.eventAck .clear seq))).ev = s.ev := by cases p <;> rfl
    have quiet := endRemote_untold (k := k) (l := { l with path := p :: l.path })
      (a := s.withD p (DLink.send { s.dl p with loss := some 60 } (.eventAck .clear seq))) (by rw [kept]; exact reported)
    rw [kept] at quiet
    refine (linkRow_d active (.conditionClear k l seq) (cleared.trans quiet)).trans ?_
    exact congrArg Host.Outcome.next (finish_quiet (start_quiet _))

end Sys2Proof.Machine
end

section
/-! PROOF. The parent's acknowledgements of events and clears (O55). -/

namespace Sys2Proof.Machine

section
variable {s b : State} {k : EvKind} {l : Locus} {n : Word16}

/-- A happening of events alone at a branch ends with the drain. -/
theorem finish_drain (branch : b.role = .branch) :
    finish { Hap.start b with drainDue := true } = (drainIfDue { Hap.start b with drainDue := true }).toState := by
  have role : (drainIfDue { Hap.start b with drainDue := true }).role = .branch := by
    unfold drainIfDue
    split
    · split <;> exact branch
    · exact branch
  rw [finish_eq rfl, closing_clean rfl rfl, behindRecovery, recomputeFlags_still rfl, advanceGeneration_still rfl,
    handUpward_still rfl, sendDeltasIfDue_still rfl, attend_branch role]

/-- On a link that is not UP the drain waits. -/
theorem finish_drain_waits {h : Hap} (branch : h.role = .branch) (waits : h.u.state ≠ .up) (settled : h.settleDue = false)
    (clean : h.dirty = false) (flags : h.flagsDue = false) (deltas : h.deltaDue = false) (noReset : h.resetDue = none) :
    finish h = h.toState := by
  have still : drainIfDue h = h := if_neg (by simp [waits])
  rw [finish_eq noReset, closing_clean settled clean, behindRecovery, recomputeFlags_still flags, advanceGeneration_still clean,
    handUpward_still clean, sendDeltasIfDue_still deltas, still, attend_branch branch]

/-- On a link that is UP with no item in flight the drain sends the next item, if any. -/
theorem finish_drain_sends {x : InFlight} (branch : b.role = .branch) (up : b.u.state = .up) (idle : b.ev.inFlight = none)
    (next : b.ev.nextItem = some x) : finish { Hap.start b with drainDue := true } =
      State.toParent { b with ev := { b.ev with inFlight := some x, retransmit := some 40, lost := lostAfter b.ev.lost x } }
        (flightMsg x) := by
  have sends : drainIfDue { Hap.start b with drainDue := true } = sendItem x { Hap.start b with drainDue := true } := by
    unfold drainIfDue
    rw [if_pos (by simp [Hap.start, branch, up, idle])]
    rw [show (({ Hap.start b with drainDue := true } : Hap)).ev.nextItem = some x from next]
  rw [finish_drain branch, sends]
  simp [sendItem, sendU, sendUMarked, Hap.start, State.toParent, restarted, LinkState.active, up, keepaliveMs, retransmitMs]

theorem finish_drain_empty (branch : b.role = .branch) (none : b.ev.nextItem = none) :
    finish { Hap.start b with drainDue := true } = b := by
  have still : drainIfDue { Hap.start b with drainDue := true } = { Hap.start b with drainDue := true } := by
    unfold drainIfDue
    rw [show (({ Hap.start b with drainDue := true } : Hap)).ev.nextItem = Option.none from none]
    split <;> rfl
  exact (finish_drain branch).trans (congrArg Hap.toState still)

/-- The clear in flight that is acknowledged drops its reported condition. -/
theorem takeEventAck_clear (flight : b.ev.inFlight = some (.clear k l n)) :
    takeEventAck .clear n (Hap.start b) = { Hap.start { b with ev := { b.ev with
      inFlight := none, retransmit := none, reported := b.ev.reported.filter fun x => !(x.is k l) } } with drainDue := true } := by
  simp only [takeEventAck, show (Hap.start b).ev.inFlight = some (.clear k l n) from flight, if_true]
  rfl

section
variable {e : EventUp} {r : EvRecord} (flight : b.ev.inFlight = some (.record e)) (only : b.ev.queue = [r]) (own : r.seq = e.seq)
include flight only own

/-- The record in flight that has gained nothing since it was sent leaves the queue; a condition is noted as reported. -/
theorem takeEventAck_record (all : r.count ≤ e.count.toNat) :
    takeEventAck .record e.seq (Hap.start b) = { Hap.start b with
      ev := { b.ev with
        inFlight := none, retransmit := none, queue := [],
        reported := if r.style = .latched then b.ev.reported
                    else (b.ev.reported.filter fun x => !(x.is r.kind r.locus)) ++
                      [{ kind := r.kind, locus := r.locus, seq := r.seq, waiting := !b.ev.holds r.kind r.locus }] },
      drainDue := true } := by
  have found : (Hap.start b).ev.queue.find? (fun x => decide (x.seq = e.seq)) = some r := by
    rw [show (Hap.start b).ev.queue = [r] from only]
    simp [own]
  have gone : (Hap.start b).ev.queue.filter (fun x => decide (x.seq ≠ e.seq)) = [] := by
    rw [show (Hap.start b).ev.queue = [r] from only]
    simp [own]
  simp only [takeEventAck, show (Hap.start b).ev.inFlight = some (.record e) from flight, if_true, ackRecord, found, if_pos all, gone]
  cases r.style <;> rfl

/-- A record that gained occurrences stays, renewed. -/
theorem takeEventAck_gained (fewer : e.count.toNat < r.count) :
    takeEventAck .record e.seq (Hap.start b) = { Hap.start b with
      ev := { b.ev with
        inFlight := none, retransmit := none, queue := [r.renewed e b.ev.counter],
        counter := counterAfter b.ev.counter [r.renewed e b.ev.counter] },
      drainDue := true } := by
  have found : (Hap.start b).ev.queue.find? (fun x => decide (x.seq = e.seq)) = some r := by
    rw [show (Hap.start b).ev.queue = [r] from only]
    simp [own]
  have renewed : (Hap.start b).ev.queue.map (fun x => if x.seq = e.seq then x.renewed e b.ev.counter else x) =
      [r.renewed e b.ev.counter] := by
    rw [show (Hap.start b).ev.queue = [r] from only, List.map_singleton, if_pos own]
  simp only [takeEventAck, show (Hap.start b).ev.inFlight = some (.record e) from flight, if_true, ackRecord, found,
    if_neg (Nat.not_le.mpr fewer)]
  rw [show (Hap.start b).ev.counter = b.ev.counter from rfl, renewed]
  rfl

end

end

/-- Settles O55. -/
theorem eventAckSettlesTheItemInFlight : Obligations.EventAckSettlesTheItemInFlight := by
  unfold Obligations.EventAckSettlesTheItemInFlight
  refine ⟨fun e r k l n seq s branch syncing => ?_, fun k l n kept r x later e s branch up flight keeps named => ?_⟩
  · have hears : s.hearsParent := ⟨branch, by rw [syncing]; rfl⟩
    have waits : (s.heard .u).u.state ≠ .up := by
      show s.u.state ≠ .up
      rw [syncing]
      nofun
    refine ⟨fun flight only own => ⟨fun all => ?_, fun fewer => ?_⟩, fun flight => ?_, fun flight other => ?_⟩
    · refine (linkRow_u hears (.eventAck .record e.seq) (takeEventAck_record (b := s.heard .u) flight only own all)).trans ?_
      exact congrArg Host.Outcome.next (finish_drain_waits (show s.role = .branch from branch) waits rfl rfl rfl rfl rfl)
    · refine ⟨_, r.renewed e s.ev.counter, (linkRow_u hears (.eventAck .record e.seq)
        (takeEventAck_gained (b := s.heard .u) flight only own fewer)).trans (congrArg Host.Outcome.next
          (finish_drain_waits (show s.role = .branch from branch) waits rfl rfl rfl rfl rfl)), rfl, rfl, rfl, rfl, rfl, rfl, rfl, rfl⟩
    · refine (linkRow_u hears (.eventAck .clear n) (takeEventAck_clear (b := s.heard .u) flight)).trans ?_
      exact congrArg Host.Outcome.next (finish_drain_waits (show s.role = .branch from branch) waits rfl rfl rfl rfl rfl)
    · refine exec_heard_u hears (m := .eventAck .record seq) ?_
      show takeEventAck .record seq (Hap.start (s.heard .u)) = _
      simp only [takeEventAck, show (Hap.start (s.heard .u)).ev.inFlight = some (.record e) from flight, if_neg (Ne.symm other)]
  · have hears : s.hearsParent := ⟨branch, by rw [up]; rfl⟩
    have row := linkRow_u hears (.eventAck .clear n) (takeEventAck_clear (b := s.heard .u) flight)
    have same : ((s.heard .u).ev.reported.filter fun x => !(x.is k l)) = kept := keeps.symm
    rw [same] at row
    obtain ⟨b, settled⟩ : ∃ b, b = ({ s.heard .u with
      ev := { s.ev with inFlight := none, retransmit := none, reported := kept } } : State) := ⟨_, rfl⟩
    replace row : exec (.linkEventAck .u .clear n) s = .next (finish { Hap.start b with drainDue := true }) := settled ▸ row
    have branch' : b.role = .branch := settled ▸ branch
    have up' : b.u.state = .up := settled ▸ up
    have idle : b.ev.inFlight = none := settled ▸ rfl
    have lists : b.ev.reported = kept ∧ b.ev.queue = s.ev.queue ∧ b.ev.lost = s.ev.lost := settled ▸ ⟨rfl, rfl, rfl⟩
    have waiting : (∀ y ∈ kept, y.waiting = false) → kept.find? Reported.waiting = none := fun clean =>
      List.find?_eq_none.mpr fun y mem => by rw [clean y mem]; nofun
    refine ⟨fun clear => ?_, fun clean first => ?_, fun clean empty => ?_⟩
    · have next : b.ev.nextItem = some (.clear r.kind r.locus r.seq) := by
        simp only [EventUnit.nextItem, lists.1, clear]
      rw [row, finish_drain_sends branch' up' idle next, settled]
      rfl
    · have next : b.ev.nextItem = some (.record e) := by
        simp only [EventUnit.nextItem, lists.1, waiting clean, lists.2.1, first, lists.2.2, eventUpMsg, named]
      rw [row, finish_drain_sends branch' up' idle next, settled]
      rfl
    · have next : b.ev.nextItem = none := by
        simp only [EventUnit.nextItem, lists.1, waiting clean, lists.2.1, empty]
        rfl
      rw [row, finish_drain_empty branch' next, settled]

end Sys2Proof.Machine
end

section
/-! PROOF. The loss of a D port's child (O25): what R115 leaves for the end of its happening, by whatever cause. -/

namespace Sys2Proof.Machine

/-! ### What waits for the host -/

/-- The frames with the host transmitter, the one being sent first. -/
def HostLink.items (l : HostLink) : List SendItem := l.cur.toList ++ l.sendList

/-- Late replies and their like stay with the transmitter until they have been sent: an ATTENTION replaces its like alone. -/
def HostLink.retains (a b : HostLink) : Prop := ∀ x ∈ a.items, x.sort ≠ .attention → x ∈ b.items

theorem HostLink.retains.refl (a : HostLink) : a.retains a := fun _ m _ => m

theorem HostLink.retains.trans {a b c : HostLink} (ab : a.retains b) (bc : b.retains c) : a.retains c := fun x m k =>
  bc x (ab x m k) k

theorem HostLink.retains_of_out {a b : HostLink} (cur : b.cur = a.cur) (list : b.sendList = a.sendList) : a.retains b :=
  fun x m _ => by rwa [HostLink.items, cur, list]

theorem HostLink.hand_retains (l : HostLink) (x : SendItem) : l.retains (l.hand x) := by
  intro y mem other
  unfold HostLink.items at mem ⊢
  unfold HostLink.hand
  cases cur : l.cur with
  | none =>
    rw [cur] at mem
    exact List.mem_append_right _ mem
  | some z =>
    rw [cur] at mem
    rcases List.mem_append.mp mem with now | waits
    · dsimp only
      split
      · exact List.mem_append_left _ now
      · exact List.mem_append_left _ now
    · dsimp only
      split
      · exact List.mem_append_right _ (List.mem_map.mpr ⟨y, waits, if_neg other⟩)
      · exact List.mem_append_right _ (List.mem_append_left _ waits)

theorem HostLink.hand_items (l : HostLink) {x : SendItem} (late : x.sort = .late) : x ∈ (l.hand x).items := by
  unfold HostLink.hand HostLink.items
  cases l.cur with
  | none => exact List.mem_cons_self
  | some z =>
    have plain : ¬(decide (x.sort = .attention) && l.sendList.any fun y => decide (y.sort = .attention)) = true := by
      simp [late]
    dsimp only
    rw [if_neg plain]
    exact List.mem_append_right _ (List.mem_append_right _ List.mem_cons_self)

theorem HostLink.hand_waiting (l : HostLink) {x : SendItem} (late : x.sort = .late) :
    (l.hand x).waitingOf .late ≤ l.waitingOf .late + 1 := by
  unfold HostLink.hand HostLink.waitingOf
  cases l.cur with
  | none => exact Nat.le_succ _
  | some z =>
    have plain : ¬(decide (x.sort = .attention) && l.sendList.any fun y => decide (y.sort = .attention)) = true := by
      simp [late]
    dsimp only
    rw [if_neg plain, List.countP_append]
    exact Nat.add_le_add_left (List.countP_le_length (l := [x])) _

section
variable {h : Hap} {p : DPort}

theorem storeLate_shape (op : Byte) (f : HostFrame) (h : Hap) : ∃ m, storeLate op f h =
    { h with host := { h.host with memory := m } } := by
  unfold storeLate
  split
  · exact ⟨h.host.memory, rfl⟩
  · split
    · split
      · exact ⟨_, rfl⟩
      · exact ⟨h.host.memory, rfl⟩
    · exact ⟨h.host.memory, rfl⟩

/-- A late reply is handed on where a place for it is left (R169). -/
theorem lateReply_items (op tag : Byte) (kind : ReplyKind) (payload : List Byte) (h : Hap) :
    h.host.retains (lateReply op tag kind payload h).host ∧
      (lateReply op tag kind payload h).host.waitingOf .late ≤ h.host.waitingOf .late + 1 ∧
      (h.host.waitingOf .late < 4 →
        { sort := .late, frame := replyFrame tag kind payload, resets := none } ∈ (lateReply op tag kind payload h).host.items) := by
  obtain ⟨m, stored⟩ := storeLate_shape op (replyFrame tag kind payload) h
  have goes : lateReply op tag kind payload h = if h.host.waitingOf .late < 4 then
      handHost { sort := .late, frame := replyFrame tag kind payload, resets := none }
        { h with host := { h.host with memory := m } } else { h with host := { h.host with memory := m } } := by
    rw [lateReply, stored]
    rfl
  rw [goes]
  by_cases room : h.host.waitingOf .late < 4
  · rw [if_pos room]
    have kept : h.host.retains { h.host with memory := m } := HostLink.retains_of_out rfl rfl
    exact ⟨kept.trans (HostLink.hand_retains _ { sort := .late, frame := replyFrame tag kind payload, resets := none }),
      HostLink.hand_waiting { h.host with memory := m } rfl, fun _ => HostLink.hand_items { h.host with memory := m } rfl⟩
  · rw [if_neg room]
    exact ⟨HostLink.retains_of_out rfl rfl, Nat.le_succ _, fun r => absurd r room⟩

/-! ### The FORWARDs that wait on the port (R115 step 1) -/

/-- A FORWARD is answered FORWARD_LINK_LOST with a tier: handed to the host where its list of late replies has room for it
and as many more, or handed to U. -/
def OpEntry.answeredLost (e : OpEntry) (tier : Nat) (room : Prop) (host : HostLink) (tx : LinkTx) : Prop :=
  (∀ n, e.origin = .host n → room →
    { sort := .late, frame := replyFrame n .refused (refusalPayload .forwardLinkLost (word16Of tier)), resets := none } ∈
      host.items) ∧
  ∀ n, e.origin = .upstream n →
    { msg := .forwardReply n .refused (refusalPayload .forwardLinkLost (word16Of tier)), resets := none } ∈ tx.frames

theorem OpEntry.answeredLost.mono {e : OpEntry} {tier : Nat} {room less : Prop} {host host' : HostLink} {tx tx' : LinkTx}
    (a : e.answeredLost tier room host tx) (imp : less → room) (hosts : host.retains host') (within : tx.within tx') :
    e.answeredLost tier less host' tx' :=
  ⟨fun n o r => hosts _ (a.1 n o (imp r)) nofun, fun n o => within _ (a.2 n o)⟩

theorem passRefusal_lost (e : OpEntry) (h : Hap) :
    h.host.retains (passRefusal e .forwardLinkLost h).host ∧ h.u.tx.within (passRefusal e .forwardLinkLost h).u.tx ∧
      (passRefusal e .forwardLinkLost h).host.waitingOf .late ≤ h.host.waitingOf .late + 1 ∧
      (passRefusal e .forwardLinkLost h).ownTier = h.ownTier ∧
      e.answeredLost h.ownTier (h.host.waitingOf .late < 4) (passRefusal e .forwardLinkLost h).host
        (passRefusal e .forwardLinkLost h).u.tx := by
  have tier : (passRefusal e .forwardLinkLost h).ownTier = h.ownTier := by
    obtain ⟨host, tx, k, same⟩ := passUp_shape e .refused (refCode .forwardLinkLost :: be16 (word16Of h.ownTier)) h
    rw [passRefusal, same]
    rfl
  cases origin : e.origin with
  | host tag =>
    have goes : passRefusal e .forwardLinkLost h = lateReply e.op tag .refused
        (refusalPayload .forwardLinkLost (word16Of h.ownTier)) (freeOpEntry e.op h) := by
      simp only [passRefusal, passUp, origin, refusalPayload]
    obtain ⟨hosts, waiting, handed⟩ := lateReply_items e.op tag .refused
      (refusalPayload .forwardLinkLost (word16Of h.ownTier)) (freeOpEntry e.op h)
    obtain ⟨host, same⟩ := lateReply_shape e.op tag .refused (refusalPayload .forwardLinkLost (word16Of h.ownTier))
      (freeOpEntry e.op h)
    have link : (passRefusal e .forwardLinkLost h).u = h.u := by
      rw [goes, same]
      rfl
    rw [← goes] at hosts waiting handed
    refine ⟨hosts, link ▸ .refl _, waiting, tier, fun n own room => ?_, fun n own => absurd (origin.symm.trans own) nofun⟩
    cases origin.symm.trans own
    exact handed room
  | upstream tag =>
    have goes : passRefusal e .forwardLinkLost h = sendU (.forwardReply tag .refused
        (refusalPayload .forwardLinkLost (word16Of h.ownTier))) (freeOpEntry e.op h) := by
      simp only [passRefusal, passUp, origin, refusalPayload]
    have host : (passRefusal e .forwardLinkLost h).host = h.host := by rw [goes]; rfl
    have link : (passRefusal e .forwardLinkLost h).u.tx = h.u.tx.hand
        { msg := .forwardReply tag .refused (refusalPayload .forwardLinkLost (word16Of h.ownTier)), resets := none } := by
      rw [goes]
      rfl
    rw [host, link]
    refine ⟨.refl _, hand_within _ _, Nat.le_succ _, tier, fun n own => absurd (origin.symm.trans own) nofun, fun n own => ?_⟩
    cases origin.symm.trans own
    exact hand_mem _ _

theorem loseAll_lost : ∀ (es : List OpEntry) (h : Hap),
    h.host.retains (es.foldl (fun g e => passRefusal e .forwardLinkLost g) h).host ∧
      h.u.tx.within (es.foldl (fun g e => passRefusal e .forwardLinkLost g) h).u.tx ∧
      ∀ e ∈ es, e.answeredLost h.ownTier (h.host.waitingOf .late + es.length ≤ 4)
        (es.foldl (fun g e => passRefusal e .forwardLinkLost g) h).host
        (es.foldl (fun g e => passRefusal e .forwardLinkLost g) h).u.tx
  | [], h => ⟨.refl _, .refl _, nofun⟩
  | e :: rest, h => by
    obtain ⟨hosts, within, waiting, tier, first⟩ := passRefusal_lost e h
    obtain ⟨hosts', within', each⟩ := loseAll_lost rest (passRefusal e .forwardLinkLost h)
    rw [tier] at each
    rw [List.foldl_cons]
    refine ⟨hosts.trans hosts', within.trans within', fun x mem => ?_⟩
    rcases List.mem_cons.mp mem with rfl | later
    · exact first.mono (fun r => by rw [List.length_cons] at r; omega) hosts' within'
    · exact (each x later).mono (fun r => by rw [List.length_cons] at r; omega) (.refl _) (.refl _)

/-- Every FORWARD waiting on the port is answered. -/
theorem loseForwards_lost {e : OpEntry} (mem : e ∈ h.ops.entries) (waits : e.onPort p = true) :
    e.answeredLost h.ownTier (h.host.waitingOf .late + h.ops.entries.length ≤ 4) (loseForwards p h).host
      (loseForwards p h).u.tx := by
  have each := (loseAll_lost (h.ops.entries.filter (OpEntry.onPort p)) h).2.2 e (List.mem_filter.mpr ⟨mem, waits⟩)
  exact each.mono (fun r => (Nat.add_le_add_left (List.length_filter_le ..) _).trans r) (.refl _) (.refl _)

/-! ### The remote conditions of the port -/

theorem markEnded_remoteConds (k : EvKind) (l : Locus) (h : Hap) : (markEnded k l h).ev.remoteConds = h.ev.remoteConds := by
  unfold markEnded
  split
  · rfl
  · split <;> rfl

theorem endRemote_remoteConds (k : EvKind) (l : Locus) (h : Hap) : (endRemote k l h).ev.remoteConds =
    h.ev.remoteConds.filter fun c => !(decide (c.kind = k) && decide (c.locus = l)) := by
  unfold endRemote
  by_cases held : h.ev.remoteHolds k l = true
  · rw [if_pos held]
    dsimp only
    split
    · rfl
    · exact markEnded_remoteConds ..
  · rw [if_neg held]
    refine (List.filter_eq_self.mpr fun c mem => ?_).symm
    have off := List.any_eq_false.mp (Bool.eq_false_iff.mpr held) c mem
    rw [Bool.not_eq_true] at off
    rw [off]
    rfl

theorem endRemotes_remoteConds : ∀ (cs : List RemoteCond) (h : Hap) (c : RemoteCond),
    c ∈ (cs.foldl (fun g c => endRemote c.kind c.locus g) h).ev.remoteConds → c ∈ h.ev.remoteConds ∧ c ∉ cs
  | [], _, _, mem => ⟨mem, nofun⟩
  | x :: rest, h, c, mem => by
    obtain ⟨left, out⟩ := endRemotes_remoteConds rest (endRemote x.kind x.locus h) c mem
    rw [endRemote_remoteConds] at left
    obtain ⟨held, other⟩ := List.mem_filter.mp left
    refine ⟨held, fun inside => ?_⟩
    rcases List.mem_cons.mp inside with rfl | later
    · simp at other
    · exact out later

theorem endRemotesOf_remoteConds {c : RemoteCond} (mem : c ∈ (endRemotesOf p h).ev.remoteConds) : c.port ≠ p := by
  obtain ⟨held, out⟩ := endRemotes_remoteConds _ h c mem
  exact fun own => out (List.mem_filter.mpr ⟨held, decide_eq_true own⟩)

theorem spares_endRemotes {k : EvKind} {l : Locus} : ∀ (cs : List RemoteCond) (h : Hap),
    Spares k l 0 h (cs.foldl (fun g c => endRemote c.kind c.locus g) h)
  | [], h => .refl h
  | x :: rest, h => by
    have first : Spares k l 0 h (endRemote x.kind x.locus h) := by
      unfold endRemote
      refine Spares.ite (fun _ => ?_) fun _ => .refl h
      have noted : Spares k l 0 h { h with ev := { h.ev with remoteConds := h.ev.remoteConds.filter fun c =>
          !(decide (c.kind = x.kind) && decide (c.locus = x.locus)) } } := spares_of_same rfl rfl rfl
      exact Spares.ite (fun _ => noted) fun _ => noted.trans (spares_markEnded _ _ _)
    exact first.trans (spares_endRemotes rest _)

end

end Sys2Proof.Machine
end

section
/-! PROOF. What the loss of a D port's child leaves for the end of its happening (R115), and what that end leaves of it. -/

namespace Sys2Proof.Machine

/-! ### The end of a happening and the host's frames -/

theorem handUpward_host (h : Hap) : (handUpward h).host = h.host := by
  have flags : (recomputeFlags h).host = h.host := by
    unfold recomputeFlags
    split <;> rfl
  have opened : ∀ c, (openDump c h).host = h.host := fun c => by
    simp only [openDump, sendU, sendUMarked]
    exact flags
  unfold handUpward beginDump
  simp only
  split
  · split
    · rfl
    · split
      · split
        · exact opened .queueFull
        · exact opened .queueFull
      · rfl
  · rfl

theorem sendDeltas_host : ∀ (n : Nat) (h : Hap), (sendDeltas n h).host = h.host
  | 0, _ => rfl
  | n + 1, h => by
    unfold sendDeltas
    split
    · rfl
    · split
      · exact sendDeltas_host n _
      · rfl

theorem behindRecovery_retains (h : Hap) : h.host.retains (behindRecovery h).host := by
  have flagged : (advanceGeneration (recomputeFlags h)).host = h.host := by
    unfold advanceGeneration recomputeFlags
    split <;> split <;> rfl
  have sent : ∀ g : Hap, (sendDeltasIfDue g).host = g.host := fun g => by
    unfold sendDeltasIfDue
    split
    · exact sendDeltas_host _ g
    · rfl
  have drained : ∀ g : Hap, (drainIfDue g).host = g.host := fun g => by
    unfold drainIfDue
    split
    · split
      · rfl
      · rfl
    · rfl
  have before : (drainIfDue (sendDeltasIfDue (handUpward (advanceGeneration (recomputeFlags h))))).host = h.host := by
    rw [drained, sent, handUpward_host, flagged]
  rw [behindRecovery]
  generalize drainIfDue (sendDeltasIfDue (handUpward (advanceGeneration (recomputeFlags h)))) = g at before
  rw [← before]
  obtain ⟨a, same | ⟨x, same⟩⟩ := attend_shape g <;> rw [same]
  · exact .refl _
  · exact HostLink.hand_retains _ _

theorem closing_retains (h : Hap) : h.host.retains (closing h).host := by
  have out : ∀ g g' : Hap, Part.same g g' .hostOut → g.host.retains g'.host := fun g g' same => by
    simp only [Part.same, Prod.mk.injEq] at same
    exact HostLink.retains_of_out same.1 same.2
  have recovered : ∀ g : Hap, g.host.retains (overflowRecovery g).host := fun g => by
    rw [overflowRecovery_eq]
    split
    · exact (out _ _ ((moves_recoverPort (p := .d1) g).frame .hostOut rfl)).trans
        (out _ _ ((moves_recoverPort (p := .d2) _).frame .hostOut rfl))
    · exact .refl _
  rw [closing_behind]
  exact ((out _ _ ((moves_settleIfDue h).frame .hostOut rfl)).trans (recovered _)).trans (behindRecovery_retains _)

theorem closing_within (h : Hap) : h.u.tx.within (closing h).u.tx := by
  have u : (overflowRecovery (settleIfDue h)).u = h.u := (overflowRecovery_u _).trans (settleIfDue_u h)
  rw [closing_behind, ← u]
  exact behindRecovery_within _

/-- The end of a happening marks no port. -/
theorem closing_marker {h : Hap} {p : DPort} (unmarked : h.roster.marker p = false) :
    (closing h).roster.marker p = false := by
  have settled : (settleIfDue h).roster.marker p = false := by
    obtain ⟨m1, m2⟩ := settleIfDue_markers h
    cases p
    · exact m1.trans unmarked
    · exact m2.trans unmarked
  have recovered : (overflowRecovery (settleIfDue h)).roster.marker p = false := by
    rw [overflowRecovery_eq]
    split
    · exact (recoverPort_marker .d2 _).2 p ((recoverPort_marker .d1 _).2 p settled)
    · exact settled
  have late := (moves_behindRecovery (overflowRecovery (settleIfDue h))).frame .markers rfl
  simp only [Part.same, Prod.mk.injEq] at late
  cases p
  · exact late.1.trans recovered
  · exact late.2.trans recovered

section
variable {h : Hap} {p q : DPort} {reason : LossReason} {reset : Bool}

/-! ### The first steps of R115 -/

theorem rescanLeave_remoteConds (p : DPort) (synced : Bool) (h : Hap) :
    (rescanLeave p synced h).ev.remoteConds = h.ev.remoteConds := by
  by_cases out : ∀ r, h.rescan = some r → p ∉ r.ports
  · rw [rescanLeave_out out]
  · push Not at out
    obtain ⟨r, running, waits⟩ := out
    by_cases last : ∀ q ∈ r.ports, q = p
    · rw [rescanLeave_last running waits last]
      exact (moves_raiseLatched { h with rescan := none } .opDone (opLocus none r.op) _).frame .remoteConds rfl
    · rw [rescanLeave_more running waits last]

theorem lostPort_remoteConds {c : RemoteCond} (mem : c ∈ (lostPort p h).ev.remoteConds) : c.port ≠ p := by
  rw [lostPort, rescanLeave_remoteConds] at mem
  exact endRemotesOf_remoteConds mem

theorem lostPort_marker (p : DPort) (h : Hap) : (lostPort p h).roster.marker p = false ∧
    ∀ q, h.roster.marker q = false → (lostPort p h).roster.marker q = false := by
  obtain ⟨host, tx, k, lost⟩ := loseForwards_shape p h
  obtain ⟨e1, n1, d1, ended⟩ := endRemotesOf_shape p (clearRefused p
    (remoteRemoveAll (portKeys p (loseForwards p h).roster.entries) .linkLost (loseForwards p h)))
  obtain ⟨e2, n2, d2, o2, r2, left, -⟩ := rescanLeave_shape p false (endRemotesOf p (clearRefused p
    (remoteRemoveAll (portKeys p (loseForwards p h).roster.entries) .linkLost (loseForwards p h))))
  have roster : (lostPort p h).roster = (clearRefused p (remoteRemoveAll (portKeys p (loseForwards p h).roster.entries)
      .linkLost (loseForwards p h))).roster := by
    rw [lostPort, left, ended]
  have removed := (moves_remoteRemoveAll (loseForwards p h) (fun _ => portKeys_remote (p := p)
    (es := (loseForwards p h).roster.entries)) .linkLost).frame .markers rfl
  have start : (loseForwards p h).roster = h.roster := by rw [lost]
  simp only [Part.same, Prod.mk.injEq] at removed
  obtain ⟨cleared, other⟩ := clearRefused_marker p (remoteRemoveAll (portKeys p (loseForwards p h).roster.entries)
      .linkLost (loseForwards p h))
  rw [roster]
  refine ⟨cleared, fun q off => other q ?_⟩
  cases q
  · exact removed.1.trans ((congrArg Roster.marker1 start).trans off)
  · exact removed.2.trans ((congrArg Roster.marker2 start).trans off)

/-- The first steps queue a record for each of the port's entries, and one of ROSTER_OVERFLOW. -/
theorem spares_lostPort {k : EvKind} {l : Locus} (notConflict : k ≠ .serialConflict) (notLeft : k ≠ .moduleLeft)
    (notOverflow : k ≠ .rosterOverflow) (out : ∀ r, h.rescan = some r → p ∉ r.ports) :
    Spares k l (h.roster.entries.length + 1) h (lostPort p h) := by
  obtain ⟨host, tx, kk, lost⟩ := loseForwards_shape p h
  have answered : Spares k l 0 h (loseForwards p h) := spares_of_ev (by rw [lost])
  have start : (loseForwards p h).roster = h.roster := by rw [lost]
  have few : (portKeys p (loseForwards p h).roster.entries).length ≤ h.roster.entries.length := by
    rw [start, portKeys, List.length_map]
    exact List.length_filter_le ..
  have removed := spares_remoteRemoveAll (l := l) notConflict notLeft .linkLost
    (portKeys p (loseForwards p h).roster.entries) (loseForwards p h)
  have cleared := spares_clearRefused (l := l) notOverflow p
    (remoteRemoveAll (portKeys p (loseForwards p h).roster.entries) .linkLost (loseForwards p h))
  have rescan : (endRemotesOf p (clearRefused p (remoteRemoveAll (portKeys p (loseForwards p h).roster.entries) .linkLost
      (loseForwards p h)))).rescan = h.rescan := by
    obtain ⟨e1, n1, d1, ended⟩ := endRemotesOf_shape p (clearRefused p
      (remoteRemoveAll (portKeys p (loseForwards p h).roster.entries) .linkLost (loseForwards p h)))
    have kept := ((moves_remoteRemoveAll (loseForwards p h) (fun _ => portKeys_remote (p := p)
      (es := (loseForwards p h).roster.entries)) .linkLost).frame .rescan rfl)
    have kept' := ((moves_clearRefused (p := p) (remoteRemoveAll (portKeys p (loseForwards p h).roster.entries) .linkLost
      (loseForwards p h))).frame .rescan rfl)
    rw [ended]
    exact Eq.trans kept' (Eq.trans kept (by rw [lost]))
  have left := rescanLeave_out (synced := false) (by rw [rescan]; exact out)
  rw [lostPort, left]
  refine (answered.trans (removed.trans (cleared.trans (spares_endRemotes _ _)))).mono ?_
  split
  · split <;> omega
  · omega

/-! ### The last steps of R115 -/

/-- The port taken down, its LINK RESET sent, before BRANCH_LOST is raised and DEPTH_EXCEEDED ended. -/
def closedPort (p : DPort) (reset : Bool) (h : Hap) : Hap :=
  { (lostPort p h).setD p (if reset then ((lostPort p h).dl p).down.send .linkReset else ((lostPort p h).dl p).down) with
    flagsDue := true }

theorem downTeardown_eq (p : DPort) (reason : LossReason) (reset : Bool) (h : Hap) : downTeardown p reason reset h =
    if (h.dl p).state = .refused then endCond .depthExceeded (portLocus p)
      (if (h.dl p).state.active then raiseLatched .branchLost (portLocus p) (detailOf (lossReasonCode reason))
        (closedPort p reset h) else closedPort p reset h)
    else (if (h.dl p).state.active then raiseLatched .branchLost (portLocus p) (detailOf (lossReasonCode reason))
        (closedPort p reset h) else closedPort p reset h) := by
  unfold downTeardown closedPort lostPort
  simp only
  generalize rescanLeave p false (endRemotesOf p (clearRefused p (remoteRemoveAll
    (portKeys p (loseForwards p h).roster.entries) .linkLost (loseForwards p h)))) = g
  have sent : (if reset = true then sendD p .linkReset { g.setD p (g.dl p).down with flagsDue := true }
      else { g.setD p (g.dl p).down with flagsDue := true }) =
      { g.setD p (if reset = true then (g.dl p).down.send .linkReset else (g.dl p).down) with flagsDue := true } := by
    cases reset <;> cases p <;> rfl
  rw [sent]

theorem moves_fromClosed : Moves evParts (closedPort p reset h) (downTeardown p reason reset h) := by
  rw [downTeardown_eq]
  have lost : Moves evParts (closedPort p reset h) (if (h.dl p).state.active then raiseLatched .branchLost (portLocus p)
      (detailOf (lossReasonCode reason)) (closedPort p reset h) else closedPort p reset h) :=
    Moves.ite (fun _ => moves_raiseLatched _ _ _ _) fun _ => .refl _ _
  exact Moves.ite (fun _ => lost.trans (moves_endCond _ _ _)) fun _ => lost

theorem downTeardown_remoteConds {c : RemoteCond} (mem : c ∈ (downTeardown p reason reset h).ev.remoteConds) : c.port ≠ p := by
  have same : (downTeardown p reason reset h).ev.remoteConds = (closedPort p reset h).ev.remoteConds :=
    moves_fromClosed.frame .remoteConds rfl
  have start : (closedPort p reset h).ev = (lostPort p h).ev := setD_ev ..
  rw [same, start] at mem
  exact lostPort_remoteConds mem

theorem downTeardown_marker : (downTeardown p reason reset h).roster.marker p = false ∧
    ∀ q, h.roster.marker q = false → (downTeardown p reason reset h).roster.marker q = false := by
  obtain ⟨ev, entered, drain, same⟩ := downTeardown_shape p reason reset h
  have roster : (downTeardown p reason reset h).roster = (lostPort p h).roster := by
    rw [same]
    exact setD_roster ..
  rw [roster]
  exact lostPort_marker p h

theorem downTeardown_port : (downTeardown p reason reset h).dl p =
    if reset then (h.dl p).down.send .linkReset else (h.dl p).down := by
  obtain ⟨ev, entered, drain, same⟩ := downTeardown_shape p reason reset h
  have dl : (downTeardown p reason reset h).dl p =
      if reset then ((lostPort p h).dl p).down.send .linkReset else ((lostPort p h).dl p).down := by
    rw [same]
    exact setD_dl_self _
  rw [dl, lostPort_dl]

theorem downTeardown_links : (downTeardown p reason reset h).host.cur = (loseForwards p h).host.cur ∧
    (downTeardown p reason reset h).host.sendList = (loseForwards p h).host.sendList ∧
    (downTeardown p reason reset h).u = (loseForwards p h).u := by
  have out := (moves_lostChild (p := p) (reason := reason) (reset := reset) (h := h)).frame .hostOut rfl
  simp only [Part.same, Prod.mk.injEq] at out
  exact ⟨out.1, out.2, u_of_moves moves_lostChild⟩

theorem downTeardown_tier : (downTeardown p reason reset h).tier = h.tier ∧
    (downTeardown p reason reset h).ownPath = h.ownPath := by
  obtain ⟨host, tx, k, lost⟩ := loseForwards_shape p h
  have role : (downTeardown p reason reset h).role = h.role :=
    (moves_lostChild.frame .role rfl).trans (by rw [lost])
  have u : (downTeardown p reason reset h).u.tierKnown = h.u.tierKnown ∧
      (downTeardown p reason reset h).u.recTier = h.u.recTier ∧ (downTeardown p reason reset h).u.recPath = h.u.recPath := by
    rw [downTeardown_links.2.2, lost]
    exact ⟨rfl, rfl, rfl⟩
  simp only [State.tier, State.ownPath, role, u.1, u.2.1, u.2.2, and_self]

/-! ### Operations and the rescan -/

/-- Without its FORWARDs on the port, the operation table as the statements give it. -/
theorem releases_onPort {t : OpTable} (ids : t.ids.Nodup) :
    ((t.entries.filter (OpEntry.onPort p)).map OpEntry.op).foldl OpTable.release t =
      { t with entries := t.entries.filter fun e => !e.onPort p } := by
  have released : ∀ (ops : List Byte) (t : OpTable), ops.foldl OpTable.release t =
      { t with entries := t.entries.filter fun e => decide (e.op ∉ ops) } := by
    intro ops
    induction ops with
    | nil => exact fun t => by simp
    | cons op rest ih =>
      intro t
      rw [List.foldl_cons, ih]
      simp only [OpTable.release, List.filter_filter, List.mem_cons, not_or, Bool.decide_and]
      congr 2
      funext e
      exact Bool.and_comm ..
  rw [released]
  congr 1
  refine List.filter_congr fun e mem => ?_
  have only : e.op ∈ (t.entries.filter (OpEntry.onPort p)).map OpEntry.op ↔ e.onPort p = true := by
    constructor
    · intro inside
      obtain ⟨x, found, same⟩ := List.mem_map.mp inside
      obtain ⟨held, waits⟩ := List.mem_filter.mp found
      rwa [← List.inj_on_of_nodup_map ids held mem same]
    · exact fun waits => List.mem_map_of_mem (List.mem_filter.mpr ⟨mem, waits⟩)
  by_cases waits : e.onPort p = true
  · rw [waits]
    exact decide_eq_false (not_not.mpr (only.mpr waits))
  · rw [Bool.eq_false_iff.mpr waits]
    exact decide_eq_true (mt only.mp waits)

/-- The rescan and the operations that a teardown leaves are those of its leaving the rescan. -/
theorem downTeardown_left : ∃ g : Hap, g.rescan = h.rescan ∧
    g.ops = ((h.ops.entries.filter (OpEntry.onPort p)).map OpEntry.op).foldl OpTable.release h.ops ∧
    (downTeardown p reason reset h).ops = (rescanLeave p false g).ops ∧
    (downTeardown p reason reset h).rescan = (rescanLeave p false g).rescan := by
  obtain ⟨host, tx, kk, lost⟩ := loseForwards_shape p h
  obtain ⟨ev, entered, drain, same⟩ := downTeardown_shape p reason reset h
  refine ⟨endRemotesOf p (clearRefused p (remoteRemoveAll (portKeys p (loseForwards p h).roster.entries) .linkLost
    (loseForwards p h))), ?_, beforeLeave_ops p h, ?_, ?_⟩
  · obtain ⟨e1, n1, d1, ended⟩ := endRemotesOf_shape p (clearRefused p
      (remoteRemoveAll (portKeys p (loseForwards p h).roster.entries) .linkLost (loseForwards p h)))
    have kept := ((moves_remoteRemoveAll (loseForwards p h) (fun _ => portKeys_remote (p := p)
      (es := (loseForwards p h).roster.entries)) .linkLost).frame .rescan rfl)
    have kept' := ((moves_clearRefused (p := p) (remoteRemoveAll (portKeys p (loseForwards p h).roster.entries) .linkLost
      (loseForwards p h))).frame .rescan rfl)
    rw [ended]
    exact Eq.trans kept' (Eq.trans kept (by rw [lost]))
  · rw [same]
    exact setD_ops ..
  · rw [same]
    exact setD_rescan ..

theorem downTeardown_out (ids : h.ops.ids.Nodup) (out : ∀ r, h.rescan = some r → p ∉ r.ports) :
    (downTeardown p reason reset h).ops = { h.ops with entries := h.ops.entries.filter fun e => !e.onPort p } ∧
      (downTeardown p reason reset h).rescan = h.rescan := by
  obtain ⟨g, rescan, ops, left, stands⟩ := downTeardown_left (p := p) (reason := reason) (reset := reset) (h := h)
  rw [rescanLeave_out (rescan ▸ out)] at left stands
  exact ⟨left.trans (ops.trans (releases_onPort ids)), stands.trans rescan⟩

/-- The last port a rescan waits for ends it and frees its operation. -/
theorem downTeardown_last {r : Rescan} (running : h.rescan = some r) (waits : p ∈ r.ports) (last : ∀ q ∈ r.ports, q = p) :
    (downTeardown p reason reset h).rescan = none ∧ r.op ∉ (downTeardown p reason reset h).ops.ids := by
  obtain ⟨g, rescan, ops, left, stands⟩ := downTeardown_left (p := p) (reason := reason) (reset := reset) (h := h)
  rw [rescanLeave_last (rescan.trans running) waits last] at left stands
  obtain ⟨ev, entered, drain, done⟩ := opDone_shape none r.op (word16Of (if false then r.synced + 1 else r.synced))
    { g with rescan := none }
  rw [done] at left stands
  refine ⟨stands, fun used => ?_⟩
  rw [left] at used
  obtain ⟨e, mem, same⟩ := List.mem_map.mp used
  exact (mem_release.mp mem).2 same

/-- A rescan that waits for the other port too goes on with it, and its operation stands. -/
theorem downTeardown_more {r : Rescan} (running : h.rescan = some r) (waits : p ∈ r.ports)
    (more : ¬ ∀ q ∈ r.ports, q = p) :
    (downTeardown p reason reset h).rescan = some { r with ports := r.ports.filter fun q => decide (q ≠ p) } ∧
      (r.op ∈ h.ops.ids → (∀ e ∈ h.ops.entries, e.op = r.op → e.kind = .rescan) →
        r.op ∈ (downTeardown p reason reset h).ops.ids) := by
  obtain ⟨g, rescan, ops, left, stands⟩ := downTeardown_left (p := p) (reason := reason) (reset := reset) (h := h)
  rw [rescanLeave_more (rescan.trans running) waits more] at left stands
  refine ⟨stands, fun used own => ?_⟩
  obtain ⟨e, mem, same⟩ := List.mem_map.mp used
  have kept : e ∈ (downTeardown p reason reset h).ops.entries := by
    rw [left]
    show e ∈ g.ops.entries
    rw [ops]
    refine mem_releases.mpr ⟨mem, fun freed => ?_⟩
    obtain ⟨x, found, op⟩ := List.mem_map.mp freed
    obtain ⟨held, forward⟩ := List.mem_filter.mp found
    rw [OpEntry.onPort, own x held (op.trans same)] at forward
    cases forward
  exact same ▸ List.mem_map_of_mem kept

end

end Sys2Proof.Machine
end

section
/-! PROOF. The loss of a D port's child, by whatever cause (O25). -/

namespace Sys2Proof.Machine

/-- A D port behind its teardown, examined with this part's tier where that is known (R111). -/
def DLink.examinedBy (tier : Option Nat) (m : LinkMsg) (d : DLink) : DLink :=
  match tier with
  | none => d
  | some n => d.examined n m

section
variable {h : Hap} {p q : DPort} {reason : LossReason} {reset : Bool} {b : State}

theorem reexamine_examined (p : DPort) (h : Hap) : ∃ ev entered drain flags, reexamine p h =
    { h.setD p ((h.dl p).examinedBy h.tier (probeMsg h.toState p)) with
      ev := ev, entered := entered, drainDue := drain, flagsDue := flags } := by
  cases tier : h.tier with
  | none =>
    refine ⟨h.ev, h.entered, h.drainDue, h.flagsDue, ?_⟩
    have same : reexamine p h = h := by
      simp only [reexamine, tier]
      exact ite_self _
    rw [same]
    cases p <;> rfl
  | some n => exact reexamine_shape tier p

theorem reexamine_cases (p : DPort) (h : Hap) : (reexamine p h).ev = h.ev ∨
    ∃ g : Hap, g.ev = h.ev ∧ reexamine p h = beginCond .depthExceeded (portLocus p) g := by
  unfold reexamine
  split
  · split
    · exact .inl rfl
    · split
      · exact .inl (setD_ev ..)
      · exact .inr ⟨{ h.setD p { h.dl p with state := .refused } with flagsDue := true }, setD_ev .., rfl⟩
  · exact .inl rfl

theorem reexamine_remoteConds (p : DPort) (h : Hap) : (reexamine p h).ev.remoteConds = h.ev.remoteConds := by
  obtain same | ⟨g, ev, same⟩ := reexamine_cases p h
  · rw [same]
  · rw [same, ← ev]
    exact (moves_beginCond g .depthExceeded (portLocus p)).frame .remoteConds rfl

theorem spares_reexamine {k : EvKind} {l : Locus} (apart : k ≠ .depthExceeded) (p : DPort) (h : Hap) :
    Spares k l 1 h (reexamine p h) := by
  obtain same | ⟨g, ev, same⟩ := reexamine_cases p h
  · exact (spares_of_ev same).mono (Nat.zero_le _)
  · rw [same]
    exact ((spares_of_ev ev).trans (spares_beginCond (.inl (Ne.symm apart)) g)).mono (Nat.le_refl _)

/-- What the loss of a port's child leaves for the end of its happening, which began at a state. -/
structure Torn (p : DPort) (reset : Bool) (b : State) (g : Hap) : Prop where
  moved : Moves linkParts (Hap.start b) g
  noReset : g.resetDue = none
  keys : g.roster.keys = b.roster.keys.filter fun k => decide (k.path.head? ≠ some p)
  marker : g.roster.marker p = false
  markers : ∀ q, b.roster.marker q = false → g.roster.marker q = false
  conds : ∀ c ∈ g.ev.remoteConds, c.port ≠ p
  port : g.dl p = (if reset then (b.dl p).down.send .linkReset else (b.dl p).down).examinedBy b.tier
    (.probe (byteOf b.ownTier) (b.ownPath ++ [p]))
  others : ∀ q, q ≠ p → g.dl q = b.dl q
  answered : ∀ e ∈ b.ops.entries, e.onPort p = true →
    e.answeredLost b.ownTier (b.host.waitingOf .late + b.ops.entries.length ≤ 4) g.host g.u.tx
  out : b.ops.ids.Nodup → (∀ r, b.rescan = some r → p ∉ r.ports) →
    g.ops = { b.ops with entries := b.ops.entries.filter fun e => !e.onPort p } ∧ g.rescan = b.rescan
  last : ∀ r, b.rescan = some r → p ∈ r.ports → (∀ q ∈ r.ports, q = p) → g.rescan = none ∧ r.op ∉ g.ops.ids
  more : ∀ r, b.rescan = some r → p ∈ r.ports → ¬(∀ q ∈ r.ports, q = p) →
    g.rescan = some { r with ports := r.ports.filter fun q => decide (q ≠ p) } ∧
      (r.op ∈ b.ops.ids → (∀ e ∈ b.ops.entries, e.op = r.op → e.kind = .rescan) → r.op ∈ g.ops.ids)

theorem torn_of_lost (p : DPort) (reason : LossReason) (reset : Bool) (b : State) :
    Torn p reset b (reexamine p (downTeardown p reason reset (Hap.start b))) := by
  obtain ⟨ev, entered, drain, flags, same⟩ := reexamine_examined p (downTeardown p reason reset (Hap.start b))
  obtain ⟨tier, path⟩ := downTeardown_tier (p := p) (reason := reason) (reset := reset) (h := Hap.start b)
  have unmarked := downTeardown_marker (p := p) (reason := reason) (reset := reset) (h := Hap.start b)
  have conds := reexamine_remoteConds p (downTeardown p reason reset (Hap.start b))
  have moved := (moves_downTeardown (p := p) (h := Hap.start b) reason reset).trans (moves_reexamine (p := p) _).link
  have noReset : (downTeardown p reason reset (Hap.start b)).resetDue = none := downTeardown_reset
  have keys := downTeardown_keys (p := p) (reason := reason) (reset := reset) (h := Hap.start b)
  have port := downTeardown_port (p := p) (reason := reason) (reset := reset) (h := Hap.start b)
  have others : ∀ q, q ≠ p → (downTeardown p reason reset (Hap.start b)).dl q = b.dl q := fun q ne =>
    downTeardown_dl_ne (Ne.symm ne)
  obtain ⟨cur, list, u⟩ := downTeardown_links (p := p) (reason := reason) (reset := reset) (h := Hap.start b)
  have answered : ∀ e ∈ b.ops.entries, e.onPort p = true →
      e.answeredLost b.ownTier (b.host.waitingOf .late + b.ops.entries.length ≤ 4)
        (downTeardown p reason reset (Hap.start b)).host (downTeardown p reason reset (Hap.start b)).u.tx := fun e mem waits =>
    (loseForwards_lost (h := Hap.start b) mem waits).mono id (HostLink.retains_of_out cur list) (u ▸ .refl _)
  have out := downTeardown_out (p := p) (reason := reason) (reset := reset) (h := Hap.start b)
  have last := fun r => downTeardown_last (p := p) (reason := reason) (reset := reset) (h := Hap.start b) (r := r)
  have more := fun r => downTeardown_more (p := p) (reason := reason) (reset := reset) (h := Hap.start b) (r := r)
  have left : ∀ c ∈ (downTeardown p reason reset (Hap.start b)).ev.remoteConds, c.port ≠ p := fun c =>
    downTeardown_remoteConds
  generalize downTeardown p reason reset (Hap.start b) = d at *
  have dl : (reexamine p d).dl p = (d.dl p).examinedBy d.tier (probeMsg d.toState p) := by
    rw [same]
    exact setD_dl_self _
  have roster : (reexamine p d).roster = d.roster := by rw [same]; exact setD_roster ..
  have host : (reexamine p d).host = d.host := by rw [same]; exact setD_host ..
  have link : (reexamine p d).u = d.u := by rw [same]; exact setD_u ..
  have ops : (reexamine p d).ops = d.ops := by rw [same]; exact setD_ops ..
  have rescan : (reexamine p d).rescan = d.rescan := by rw [same]; exact setD_rescan ..
  refine ⟨moved, ?_, ?_, ?_, ?_, ?_, ?_, ?_, ?_, ?_, ?_, ?_⟩
  · exact (Eq.trans (by rw [same]; cases p <;> rfl) noReset)
  · rw [roster, keys]
    refine List.filter_congr fun k mem => decide_eq_decide.mpr ⟨head_of_portKeys mem, fun off inside => ?_⟩
    obtain ⟨e, found, rfl⟩ := List.mem_map.mp inside
    exact off (of_decide_eq_true (List.mem_filter.mp found).2)
  · rw [roster]
    exact unmarked.1
  · rw [roster]
    exact unmarked.2
  · rw [conds]
    exact left
  · have probe : probeMsg d.toState p = .probe (byteOf b.ownTier) (b.ownPath ++ [p]) := by
      rw [probeMsg, State.ownTier, tier, path]
      rfl
    rw [dl, port, tier, probe]
    rfl
  · intro q ne
    rw [← others q ne, same]
    exact setD_dl_ne _ (Ne.symm ne)
  · rw [host, link]
    exact answered
  · rw [ops, rescan]
    exact out
  · rw [ops, rescan]
    exact last
  · rw [ops, rescan]
    exact more

/-- The reply to LINK RESTART behind the teardown. -/
theorem Torn.replied {g : Hap} (t : Torn p reset b g) (f : HostFrame) (kind : ReplyKind) (payload : List Byte) :
    Torn p reset b (g.answered f kind payload) := by
  obtain ⟨rx, buffer⟩ := replied_rx g.host f kind payload
  have everything := moves_host (h := g) (g.host.replied f kind payload) (by rw [buffer]; exact id)
  have step : Moves linkParts g (g.answered f kind payload) := by
    refine ⟨fun x off => ?_, everything.copies, everything.sizes, everything.law⟩
    cases x
    case hostRx => exact rx
    case hostBuffer => exact buffer
    all_goals first | exact rfl | cases off
  have kept : g.host.retains (g.host.replied f kind payload) := by
    have noted : g.host.retains { g.host with memory := some (recordOf f (.frame (replyFrame f.tag kind payload))) } :=
      HostLink.retains_of_out rfl rfl
    exact noted.trans (HostLink.hand_retains _ _)
  obtain ⟨moved, noReset, keys, marker, markers, conds, port, others, answered, out, last, more⟩ := t
  exact ⟨moved.trans step, noReset, keys, marker, markers, conds, port, others,
    fun e mem waits => (answered e mem waits).mono id kept (.refl _), out, last, more⟩

end

end Sys2Proof.Machine
end

section
/-! PROOF. The loss of a D port's child with the end of its happening, and LINK RESTART (O25). -/

namespace Sys2Proof.Machine

section
variable {g : Hap} {p q : DPort} {reason : LossReason} {reset : Bool} {b s : State}

theorem DLink.examinedBy_state {d : DLink} (down : d.state = .down) (tier : Option Nat) (m : LinkMsg) :
    (d.examinedBy tier m).state = (if d.filter.state = .present then
        (match tier with
          | none => .down
          | some n => if n ≤ 2 then .probing else .refused)
      else .down) ∧ (d.examinedBy tier m).filter = d.filter ∧ (d.examinedBy tier m).child = d.child ∧
      (d.examinedBy tier m).everUp = d.everUp ∧ (d.examinedBy tier m).syncPhase = d.syncPhase ∧
      (d.examinedBy tier m).loss = d.loss ∧ (d.examinedBy tier m).lastChildSeq = d.lastChildSeq := by
  unfold DLink.examinedBy DLink.examined
  cases tier with
  | none => exact ⟨by rw [down]; exact (ite_self _).symm, rfl, rfl, rfl, rfl, rfl, rfl⟩
  | some n =>
    dsimp only
    by_cases present : d.filter.state = .present
    · have both : d.state = .down ∧ d.filter.state = .present := ⟨down, present⟩
      rw [if_pos both, if_pos present]
      split
      · exact ⟨rfl, rfl, rfl, rfl, rfl, rfl, rfl⟩
      · exact ⟨rfl, rfl, rfl, rfl, rfl, rfl, rfl⟩
    · have out : ¬(d.state = .down ∧ d.filter.state = .present) := fun both => present both.2
      rw [if_neg out, if_neg present]
      exact ⟨down, rfl, rfl, rfl, rfl, rfl, rfl⟩

/-- The port as its teardown leaves it. -/
theorem Torn.port_down (t : Torn p reset b g) : ∃ d : DLink, g.dl p = d.examinedBy b.tier
      (.probe (byteOf b.ownTier) (b.ownPath ++ [p])) ∧ d.state = .down ∧ d.child = none ∧ d.everUp = false ∧
      d.syncPhase = .none ∧ d.loss = none ∧ d.lastChildSeq = none := by
  refine ⟨_, t.port, ?_⟩
  cases reset <;> exact ⟨rfl, rfl, rfl, rfl, rfl, rfl⟩

theorem Torn.port_still (t : Torn p reset b g) : (closing g).dl p = g.dl p := closing_port t.marker

/-- With its end, the happening has torn the port down. -/
theorem Torn.torn (t : Torn p reset b g) (ids : b.ops.ids.Nodup) (out : ∀ r, b.rescan = some r → p ∉ r.ports) :
    State.tornDown p b (closing g).toState := by
  have keys : (closing g).roster.keys = b.roster.keys.filter fun k => decide (k.path.head? ≠ some p) :=
    (closing_keys g).1.trans t.keys
  obtain ⟨slots, targets, filters, desc, rack, role, pending, units⟩ := linkFrame_of t.moved
  obtain ⟨ops, rescan⟩ := t.out ids out
  obtain ⟨d, port, down, child, everUp, phase, loss, seq⟩ := t.port_down
  obtain ⟨state, filter, same⟩ := DLink.examinedBy_state down b.tier (.probe (byteOf b.ownTier) (b.ownPath ++ [p]))
  have link : (closing g).toState.dl p = d.examinedBy b.tier (.probe (byteOf b.ownTier) (b.ownPath ++ [p])) :=
    t.port_still.trans port
  have conds : (closing g).ev.remoteConds = g.ev.remoteConds := (moves_closing g).frame .remoteConds rfl
  refine ⟨fun e mem => ?_, keys, (closing_ops g).trans ops, closing_marker t.marker, fun c mem => t.conds c (conds ▸ mem), ?_⟩
  · have held : e.key ∈ (closing g).roster.keys := List.mem_map_of_mem mem
    rw [keys] at held
    exact decide_eq_false (of_decide_eq_true (List.mem_filter.mp held).2)
  · rw [link, state, filter, same.1, same.2.1, same.2.2.1, same.2.2.2.1, same.2.2.2.2]
    exact ⟨rfl, child, everUp, phase, loss, seq, slots, targets, filters, desc, rack, units, role, pending,
      (closing_rescan g).trans rescan, fun q ne unmarked => (closing_port (t.markers q unmarked)).trans (t.others q ne)⟩

/-- The FORWARDs on the port are answered, with the end of the happening. -/
theorem Torn.answers (t : Torn p reset b g) {e : OpEntry} (mem : e ∈ b.ops.entries) (waits : e.onPort p = true) :
    e.answeredLost b.ownTier (b.host.waitingOf .late + b.ops.entries.length ≤ 4) (closing g).host (closing g).u.tx :=
  (t.answered e mem waits).mono id (closing_retains g) (closing_within g)

/-- LINK RESET goes out first, with the PROBE of a new start behind it. -/
theorem Torn.frames (t : Torn p true b g) : ((closing g).dl p).tx.frames =
    (b.dl p).tx.cur.toList ++ { msg := .linkReset, resets := none } ::
      if ((closing g).dl p).state = .probing then
        [{ msg := .probe (byteOf b.ownTier) (b.ownPath ++ [p]), resets := none }]
      else [] := by
  have handed : ∀ (cur : Option TxFrame) (x y : TxFrame), (({ cur := cur, waiting := [] } : LinkTx).hand x).frames =
      cur.toList ++ [x] ∧ ((({ cur := cur, waiting := [] } : LinkTx).hand x).hand y).frames = cur.toList ++ [x, y] := by
    intro cur x y
    cases cur <;> exact ⟨rfl, rfl⟩
  obtain ⟨first, second⟩ := handed (b.dl p).tx.cur { msg := .linkReset, resets := none }
    { msg := .probe (byteOf b.ownTier) (b.ownPath ++ [p]), resets := none }
  rw [t.port_still, t.port, if_pos rfl]
  unfold DLink.examinedBy DLink.examined
  split
  · exact first
  · split
    · split
      · exact second
      · exact first
    · exact first

/-- BRANCH_LOST is pending behind the loss of a link that was SYNCING or UP. -/
theorem branchLost_record {pr : Fin 4} {x : Hap} (active : (b.dl p).state.active = true)
    (out : ∀ r, b.rescan = some r → p ∉ r.ports) (takes : b.ev.takesNew pr .branchLost (portLocus p))
    (room : b.ev.queue.length + b.roster.entries.length + 4 ≤ 32)
    (reply : x.ev = (reexamine p (downTeardown p reason reset (Hap.start b))).ev) (unmarked : x.roster.marker p = false) :
    ∃ r ∈ (closing x).ev.queue, r.kind = .branchLost ∧ r.locus = portLocus p ∧ r.priority = pr ∧
      r.detail = detailOf (lossReasonCode reason) := by
  have lost := spares_lostPort (k := .branchLost) (l := portLocus p) (p := p) (h := Hap.start b) nofun nofun nofun out
  have closed : Spares .branchLost (portLocus p) (b.roster.entries.length + 1) (Hap.start b) (closedPort p reset (Hap.start b)) :=
    (lost.trans (spares_of_ev (h' := closedPort p reset (Hap.start b)) (setD_ev ..)))
  have length := closed.length
  have queue : (Hap.start b).ev.queue.length = b.ev.queue.length := rfl
  have still := closed.takesNew (pr := pr) takes (by omega)
  have raised : downTeardown p reason reset (Hap.start b) = raiseLatched .branchLost (portLocus p)
      (detailOf (lossReasonCode reason)) (closedPort p reset (Hap.start b)) := by
    have link : ((Hap.start b).dl p).state.active = true := active
    have state : ((Hap.start b).dl p).state ≠ .refused := fun r => by rw [r] at link; cases link
    rw [downTeardown_eq, if_neg state, if_pos link]
  have count : (if x.roster.marker1 && x.roster.marker2 then 2 else 1) = 1 := if_neg fun both => by
    rw [Bool.and_eq_true] at both
    cases p
    · exact Bool.false_ne_true (unmarked.symm.trans both.1)
    · exact Bool.false_ne_true (unmarked.symm.trans both.2)
  have tail := (spares_reexamine (k := .branchLost) (l := portLocus p) nofun p (raiseLatched .branchLost (portLocus p)
    (detailOf (lossReasonCode reason)) (closedPort p reset (Hap.start b)))).trans
      ((spares_of_ev (h' := x) (reply.trans (by rw [raised]))).trans (spares_closing (k := .branchLost) nofun nofun x))
  rw [count] at tail
  obtain ⟨r, mem, kind, locus, -, priority, detail⟩ := raise_spared
    (o := latchedOcc .branchLost (portLocus p) (detailOf (lossReasonCode reason))) still tail (by omega)
  exact ⟨r, mem, kind, locus, priority, detail⟩

/-! ### The three causes -/

/-- What a lost port's reason is coded as. -/
theorem detail_of_reason (reason : LossReason) : detailOf (lossReasonCode reason) = (0 : Byte) ++ lossReasonCode reason := rfl

/-- The loss timer of a link that is SYNCING or UP. -/
theorem lossTimer_tears (active : (s.dl p).state.active = true) (runs : (s.dl p).loss ≠ none) :
    exec (.lossTimerExpiry (.d p)) s = .next (finish (reexamine p (downTeardown p .silence false (Hap.start s)))) := by
  obtain ⟨n, timer⟩ := Option.ne_none_iff_exists'.mp runs
  have dl : (Hap.start s).dl p = s.dl p := rfl
  have expired : lossExpired (.d p) (Hap.start s) = reexamine p (downTeardown p .silence false (Hap.start s)) := by
    simp only [lossExpired, lossExpiredD, dl, timer, active, if_true]
  exact congrArg (fun h => Host.Outcome.next (finish h)) expired

/-- The carrier's loss on a port that is not DOWN; without carrier the port is not examined. -/
theorem carrierLoss_tears (present : (s.dl p).filter.state = .present) (up : (s.dl p).state ≠ .down) :
    exec (.presenceInputChange (.carrier (.d p)) false) s = .next (finish (reexamine p (downTeardown p .carrier false
      (Hap.start (s.withD p { s.dl p with filter := { raw := false, state := .empty, timer := none } }))))) := by
  have departs : departed (s.dl p).filter { raw := false, state := .empty, timer := none } = true := by
    simp [departed, Filter.carrier, present]
  have arrives : arrived (s.dl p).filter { raw := false, state := .empty, timer := none } = false := by
    simp [arrived, Filter.carrier, present]
  have dl : (Hap.start s).dl p = s.dl p := rfl
  have gone : lineLevel (.carrier (.d p)) false (Hap.start s) = downTeardown p .carrier false
      (Hap.start (s.withD p { s.dl p with filter := { raw := false, state := .empty, timer := none } })) := by
    rw [← setD_start]
    have level : (s.dl p).filter.level portSettle false = { raw := false, state := .empty, timer := none } := rfl
    simp only [lineLevel, carrierChangeD, dl, level, departs, arrives, up, ne_eq, not_false_eq_true, decide_true, Bool.and_self,
      Bool.false_eq_true, if_false, if_true]
  have still : ∀ d : Hap, (d.dl p).filter.state = .empty → reexamine p d = d := fun d empty =>
    if_neg (by simp [Filter.carrier, empty])
  rw [still]
  · exact congrArg (fun h => Host.Outcome.next (finish h)) gone
  · rw [downTeardown_dl_self.2]
    exact congrArg (fun d : DLink => d.filter.state) (withD_dl_self p _)

/-- LINK RESTART of a port that is not DOWN. -/
theorem restart_tears {tag : Byte} (ready : s.ready ⟨0x41, tag, [dportByte p]⟩ = true) (up : (s.dl p).state ≠ .down) :
    exec (.linkRestart tag (dportByte p)) s = .next (finish ((reexamine p (downTeardown p .restart (s.dl p).state.active
      (Hap.start s))).answered ⟨0x41, tag, [dportByte p]⟩ .ok
        [linkStateCode ((reexamine p (downTeardown p .restart (s.dl p).state.active (Hap.start s))).dl p).state])) := by
  have dl : (Hap.start s).dl p = s.dl p := rfl
  have restarted : linkRestart p (Hap.start s) = reexamine p (downTeardown p .restart (s.dl p).state.active (Hap.start s)) := by
    unfold linkRestart
    rw [dl]
    cases state : (s.dl p).state
    case down => exact absurd state up
    all_goals rfl
  refine exec_answered (a := .ok [linkStateCode ((reexamine p (downTeardown p .restart (s.dl p).state.active
    (Hap.start s))).dl p).state]) rfl (by simp) ready ?_ rfl rfl
  have req : judge (.host tag) 0x41 [dportByte p] (Hap.start s) = reqLinkRestart (dportByte p) (Hap.start s) :=
    judge_of_req (r := .linkRestart (dportByte p)) rfl rfl
  rw [req, ← restarted]
  simp only [reqLinkRestart, dportOf_dportByte]

/-- What the three causes leave for the end of their happening, and their ends. -/
theorem lostChild_tears {tag reason : Byte} {c : Instr}
    (lost : c = .lossTimerExpiry (.d p) ∧ (s.dl p).state.active = true ∧ (s.dl p).loss ≠ none ∧ reason = 2 ∨
      c = .presenceInputChange (.carrier (.d p)) false ∧ (s.dl p).filter.state = .present ∧ (s.dl p).state ≠ .down ∧
        reason = 1 ∨
      c = .linkRestart tag (dportByte p) ∧ s.ready ⟨0x41, tag, [dportByte p]⟩ = true ∧ (s.dl p).state ≠ .down ∧
        reason = 3) :
    ∃ (why : LossReason) (reset : Bool) (b : State) (g : Hap), (∃ f, s.withD p { s.dl p with filter := f } = b) ∧
      exec c s = .next (closing g).toState ∧ lossReasonCode why = reason ∧ Torn p reset b g ∧
      g.ev = (reexamine p (downTeardown p why reset (Hap.start b))).ev ∧
      (c = .linkRestart tag (dportByte p) → reset = (s.dl p).state.active ∧
        (closing g).toState.remembers ⟨0x41, tag, [dportByte p]⟩ .ok [linkStateCode ((closing g).dl p).state]) := by
  have own : s.withD p { s.dl p with filter := (s.dl p).filter } = s := withD_self p
  rcases lost with ⟨rfl, active, runs, rfl⟩ | ⟨rfl, present, up, rfl⟩ | ⟨rfl, ready, up, rfl⟩
  · have torn := torn_of_lost p .silence false s
    refine ⟨.silence, false, s, _, ⟨_, own⟩, ?_, rfl, torn, rfl, nofun⟩
    exact (lossTimer_tears active runs).trans (congrArg Host.Outcome.next (finish_eq torn.noReset))
  · have torn := torn_of_lost p .carrier false (s.withD p { s.dl p with filter := { raw := false, state := .empty, timer := none } })
    refine ⟨.carrier, false, _, _, ⟨_, rfl⟩, ?_, rfl, torn, rfl, nofun⟩
    exact (carrierLoss_tears present up).trans (congrArg Host.Outcome.next (finish_eq torn.noReset))
  · have torn := (torn_of_lost p .restart (s.dl p).state.active s).replied ⟨0x41, tag, [dportByte p]⟩ .ok
      [linkStateCode ((reexamine p (downTeardown p .restart (s.dl p).state.active (Hap.start s))).dl p).state]
    refine ⟨.restart, (s.dl p).state.active, s, _, ⟨_, own⟩, ?_, rfl, torn, rfl, fun _ => ⟨rfl, ?_⟩⟩
    · exact (restart_tears ready up).trans (congrArg Host.Outcome.next (finish_eq torn.noReset))
    · rw [torn.port_still]
      exact answered_memory ..

end

/-- Settles O25. -/
theorem lostChildIsTornDown : Obligations.LostChildIsTornDown := by
  unfold Obligations.LostChildIsTornDown
  refine ⟨fun p tag reason s c ids out lost => ?_, fun p r s c running waits lost => ?_, fun tag port p s ready => ⟨?_, ?_⟩⟩
  · obtain ⟨why, reset, b, g, ⟨f, based⟩, row, code, torn, ev, restart⟩ := lostChild_tears lost
    have state : (b.dl p).state = (s.dl p).state := by rw [← based, withD_dl_self]
    have cur : (b.dl p).tx = (s.dl p).tx := by rw [← based, withD_dl_self]
    have ops : b.ops = s.ops := by rw [← based]; cases p <;> rfl
    have rescan : b.rescan = s.rescan := by rw [← based]; cases p <;> rfl
    have tier : b.tier = s.tier := by rw [← based]; cases p <;> rfl
    have path : b.ownPath = s.ownPath := by rw [← based]; cases p <;> rfl
    have own : b.ownTier = s.ownTier := by rw [State.ownTier, tier]; rfl
    have host : b.host = s.host := by rw [← based]; cases p <;> rfl
    have unit : b.ev = s.ev := by rw [← based]; cases p <;> rfl
    have roster : b.roster = s.roster := by rw [← based]; cases p <;> rfl
    have whole : State.tornDown p b (closing g).toState → State.tornDown p s (closing g).toState := by
      have dl : ∀ q, q ≠ p → b.dl q = s.dl q := fun q ne => by rw [← based]; exact withD_dl_ne _ (Ne.symm ne)
      have rest : b.slots = s.slots ∧ b.targets = s.targets ∧ b.filters = s.filters ∧ b.desc = s.desc ∧ b.rack = s.rack ∧
          b.budget = s.budget ∧ b.role = s.role ∧ b.pending = s.pending := by
        rw [← based]
        cases p <;> exact ⟨rfl, rfl, rfl, rfl, rfl, rfl, rfl, rfl⟩
      obtain ⟨slots, targets, filters, desc, rack, budget, role, pending⟩ := rest
      simp only [State.tornDown, roster, ops, tier, slots, targets, filters, desc, rack, budget, role, pending, rescan]
      rintro ⟨a1, a2, a3, a4, a5, a6, a7, a8, a9, a10, a11, a12, a13, a14, a15, a16, a17, a18, a19, a20, others⟩
      exact ⟨a1, a2, a3, a4, a5, a6, a7, a8, a9, a10, a11, a12, a13, a14, a15, a16, a17, a18, a19, a20,
        fun q ne unmarked => (others q ne unmarked).trans (dl q ne)⟩
    refine ⟨_, row, whole (torn.torn (ops ▸ ids) (rescan ▸ out)), fun is => ?_, fun e mem forward hop => ?_,
      fun pr active takes room => ?_⟩
    · obtain ⟨resets, remembered⟩ := restart is
      refine ⟨fun active => ?_, remembered⟩
      rw [active] at resets
      subst resets
      have frames := torn.frames
      rwa [cur, own, path] at frames
    · have answers := torn.answers (e := e) (ops ▸ mem) (by rw [OpEntry.onPort, forward, hop]; simp)
      rw [own, host, ops] at answers
      exact answers
    · have lost := branchLost_record (x := g) (pr := pr) (state ▸ active) (rescan ▸ out) (unit ▸ takes) (unit ▸ roster ▸ room) ev
        torn.marker
      rwa [code] at lost
  · obtain ⟨why, reset, b, g, ⟨f, based⟩, row, -, torn, -, -⟩ := lostChild_tears (p := p) (s := s) (c := c) (tag := 0)
      (reason := if c = .lossTimerExpiry (.d p) then 2 else 1) (by
        rcases lost with ⟨rfl, active, runs⟩ | ⟨rfl, present, up⟩
        · exact .inl ⟨rfl, active, runs, if_pos rfl⟩
        · exact .inr (.inl ⟨rfl, present, up, if_neg nofun⟩))
    have ops : b.ops = s.ops := by rw [← based]; cases p <;> rfl
    have rescan : b.rescan = s.rescan := by rw [← based]; cases p <;> rfl
    refine ⟨_, row, ?_⟩
    have ids : (closing g).ops = g.ops := closing_ops g
    have scan : (closing g).rescan = g.rescan := closing_rescan g
    split
    · next last =>
      obtain ⟨ended, freed⟩ := torn.last r (rescan.trans running) waits last
      exact ⟨scan.trans ended, fun used => freed (ids ▸ used)⟩
    · next more =>
      obtain ⟨goes, stands⟩ := torn.more r (rescan.trans running) waits more
      rw [ops] at stands
      exact ⟨scan.trans goes, fun used kinds => ids.symm ▸ stands used kinds⟩
  · rintro ⟨one, two⟩
    have unnamed : dportOf port = none := by
      unfold dportOf
      split
      · next first => exact absurd (BitVec.eq_of_toNat_eq first) one
      · next second => exact absurd (BitVec.eq_of_toNat_eq second) two
      · rfl
    have judged : judge (.host tag) 0x41 [port] (Hap.start s) = reqLinkRestart port (Hap.start s) :=
      judge_of_req (r := .linkRestart port) rfl rfl
    refine exec_refused rfl (by simp) ready (judged.trans ?_)
    simp only [reqLinkRestart, unnamed]
  · rintro rfl down quiet
    have judged : judge (.host tag) 0x41 [dportByte p] (Hap.start s) = reqLinkRestart (dportByte p) (Hap.start s) :=
      judge_of_req (r := .linkRestart (dportByte p)) rfl rfl
    have dl : (Hap.start s).dl p = s.dl p := rfl
    have still : linkRestart p (Hap.start s) = Hap.start s := by
      have idle : reexamine p (Hap.start s) = Hap.start s := if_neg (by simp [dl, Filter.carrier, quiet])
      simp only [linkRestart, dl, down, idle]
    refine exec_replied (t := s) (a := .ok [0]) rfl (by simp) ready (judged.trans ?_) rfl rfl
    simp only [reqLinkRestart, dportOf_dportByte, still, dl, down]
    rfl

end Sys2Proof.Machine
end

section
/-! PROOF. The window of a child's deltas (R133): what is sent behind the acknowledged ones (O48, first two clauses). -/

namespace Sys2Proof.Machine

/-! ### Numbering deltas -/

/-- The first deltas of a list numbered in turn from a sequence number on. -/
def numbered (b : Byte) : Nat → List Delta → List Delta
  | 0, ds => ds
  | _ + 1, [] => []
  | n + 1, d :: ds => { d with seq := some b } :: numbered (nextByte b) n ds

theorem numbered_bodies : ∀ (n : Nat) (b : Byte) (ds : List Delta), (numbered b n ds).map Delta.body = ds.map Delta.body
  | 0, _, _ => rfl
  | _ + 1, _, [] => rfl
  | n + 1, b, d :: ds => congrArg (d.body :: ·) (numbered_bodies n (nextByte b) ds)

theorem numbered_seqs : ∀ (n : Nat) (b : Byte) (ds : List Delta), (∀ x ∈ ds, x.seq = none) → n ≤ ds.length →
    (numbered b n ds).filterMap Delta.seq = seqsFrom b n
  | 0, _, _, unsent, _ => List.filterMap_eq_nil_iff.mpr unsent
  | _ + 1, _, [], _, long => absurd long (Nat.not_succ_le_zero _)
  | n + 1, b, _ :: ds, unsent, long => congrArg (b :: ·) (numbered_seqs n (nextByte b) ds
      (fun x m => unsent x (List.mem_cons_of_mem _ m)) (Nat.le_of_succ_le_succ long))

theorem numbered_length (n : Nat) (b : Byte) (ds : List Delta) : (numbered b n ds).length = ds.length := by
  simpa using congrArg List.length (numbered_bodies n b ds)

theorem numbered_sent : ∀ (n : Nat) (b : Byte) (ds : List Delta), (∀ x ∈ ds, x.seq = none) →
    ∀ j (lt : j < (numbered b n ds).length), (numbered b n ds)[j].seq.isSome = true ↔ j < n
  | 0, _, _, unsent, _, lt => iff_of_false (Option.not_isSome_iff_eq_none.mpr (unsent _ (List.getElem_mem lt)))
      (Nat.not_lt_zero _)
  | _ + 1, _, [], _, _, lt => absurd lt (Nat.not_lt_zero _)
  | n + 1, b, d :: ds, unsent, 0, _ => by simp [numbered]
  | n + 1, b, d :: ds, unsent, j + 1, lt => by
    have rest := numbered_sent n (nextByte b) ds (fun x m => unsent x (List.mem_cons_of_mem _ m)) j
      (Nat.lt_of_succ_lt_succ lt)
    simpa [numbered] using rest

/-- The number behind the numbers given in turn. -/
theorem seqsFrom_next : ∀ (n : Nat) (b : Byte), b :: seqsFrom (nextByte b) n = seqsFrom b n ++ [nextByte^[n] b]
  | 0, _ => rfl
  | n + 1, b => congrArg (b :: ·) (seqsFrom_next n (nextByte b))

section
variable {ahead unsent : List Delta} {d : Delta} {h : Hap}

/-! ### Sending within the window -/

theorem unacked_split (sent : ∀ x ∈ ahead, x.seq ≠ none) (waits : ∀ x ∈ unsent, x.seq = none) :
    unacked (ahead ++ unsent) = ahead.length := by
  have all : ahead.countP (fun d => d.seq.isSome) = ahead.length :=
    List.countP_eq_length.mpr fun x m => Option.isSome_iff_ne_none.mpr (sent x m)
  have none : unsent.countP (fun d => d.seq.isSome) = 0 :=
    List.countP_eq_zero.mpr fun x m => by simp [waits x m]
  rw [unacked, List.countP_append, all, none, Nat.add_zero]

theorem find_unsent (sent : ∀ x ∈ ahead, x.seq ≠ none) (waits : d.seq = none) :
    (ahead ++ d :: unsent).find? (fun d => d.seq.isNone) = some d := by
  have past : ahead.find? (fun d => d.seq.isNone) = none :=
    List.find?_eq_none.mpr fun x m => by simpa using sent x m
  rw [List.find?_append, past, Option.none_or, List.find?_cons_of_pos (by simp [waits])]

theorem numberFirst_split (seq : Byte) (waits : d.seq = none) : ∀ ahead : List Delta, (∀ x ∈ ahead, x.seq ≠ none) →
    numberFirst seq (ahead ++ d :: unsent) = ahead ++ { d with seq := some seq } :: unsent
  | [], _ => by simp only [List.nil_append, numberFirst, waits]
  | x :: rest, sent => by
    obtain ⟨n, numbered⟩ := Option.ne_none_iff_exists'.mp (sent x List.mem_cons_self)
    rw [List.cons_append, numberFirst, numbered]
    exact congrArg (x :: ·) (numberFirst_split seq waits rest fun y m => sent y (List.mem_cons_of_mem x m))

/-- Where the window is full, or nothing waits, nothing is sent. -/
theorem sendDeltas_stops (deltas : h.u.deltas = ahead ++ unsent) (sent : ∀ x ∈ ahead, x.seq ≠ none)
    (waits : ∀ x ∈ unsent, x.seq = none) (room : 0 = min (8 - ahead.length) unsent.length) (n : Nat) : sendDeltas n h = h := by
  cases n with
  | zero => rfl
  | succ n =>
    cases unsent with
    | nil =>
      have past : h.u.deltas.find? (fun d => d.seq.isNone) = none := by
        rw [deltas, List.append_nil]
        exact List.find?_eq_none.mpr fun x m => by simpa using sent x m
      simp only [sendDeltas, past]
    | cons d rest =>
      have found : h.u.deltas.find? (fun d => d.seq.isNone) = some d := by
        rw [deltas]
        exact find_unsent sent (waits d List.mem_cons_self)
      have count : unacked h.u.deltas = ahead.length := by
        rw [deltas]
        exact unacked_split sent waits
      have full : ¬ ahead.length < deltaWindow := by
        rw [List.length_cons] at room
        rw [deltaWindow]
        omega
      simp only [sendDeltas, found, count, full, if_false]

/-- Behind the deltas that have been sent, those that wait are numbered and sent while the window has room. -/
theorem sendDeltas_window : ∀ (k n : Nat) (ahead unsent : List Delta) (h : Hap), h.u.deltas = ahead ++ unsent →
    (∀ x ∈ ahead, x.seq ≠ none) → (∀ x ∈ unsent, x.seq = none) → k = min (8 - ahead.length) unsent.length → k ≤ n →
    h.u.tx.tidy → ∃ tx kp, sendDeltas n h = { h with
        u := { h.u with deltas := ahead ++ numbered h.u.nextSeq k unsent, nextSeq := nextByte^[k] h.u.nextSeq,
                        retransmit := if k = 0 ∨ ahead ≠ [] then h.u.retransmit else some 40, tx := tx, keepalive := kp } } ∧
      tx.frames = h.u.tx.frames ++ (numbered h.u.nextSeq k unsent).filterMap Delta.frame := by
  intro k
  induction k with
  | zero =>
    intro n ahead unsent h deltas sent waits room _ _
    have stops := sendDeltas_stops deltas sent waits room n
    have same : ahead ++ numbered h.u.nextSeq 0 unsent = h.u.deltas := deltas.symm
    refine ⟨h.u.tx, h.u.keepalive, ?_, ?_⟩
    · rw [stops, same, if_pos (.inl rfl)]
      rfl
    · have none : (numbered h.u.nextSeq 0 unsent).filterMap Delta.frame = [] :=
        List.filterMap_eq_nil_iff.mpr fun x m => by rw [Delta.frame, waits x m]; rfl
      rw [none, List.append_nil]
  | succ k ih =>
    intro n ahead unsent h deltas sent waits room le tidy
    obtain ⟨m, rfl⟩ : ∃ m, n = m + 1 := ⟨n - 1, by omega⟩
    cases unsent with
    | nil => rw [List.length_nil] at room; omega
    | cons d rest =>
      rw [List.length_cons] at room
      have none : d.seq = none := waits d List.mem_cons_self
      have found : h.u.deltas.find? (fun d => d.seq.isNone) = some d := by
        rw [deltas]
        exact find_unsent sent none
      have count : unacked h.u.deltas = ahead.length := by
        rw [deltas]
        exact unacked_split sent waits
      have fits : ahead.length < deltaWindow := by
        rw [deltaWindow]
        omega
      have marked : numberFirst h.u.nextSeq h.u.deltas = (ahead ++ [{ d with seq := some h.u.nextSeq }]) ++ rest := by
        rw [deltas, numberFirst_split _ none ahead sent, List.append_assoc]
        rfl
      have goes : sendDeltas (m + 1) h = sendDeltas m (sendU (.delta h.u.nextSeq d.body) { h with
          u := { h.u with deltas := (ahead ++ [{ d with seq := some h.u.nextSeq }]) ++ rest, nextSeq := nextByte h.u.nextSeq,
                          retransmit := if ahead ≠ [] then h.u.retransmit else some 40 } }) := by
        have first : (if decide (ahead.length = 0) = true then some retransmitMs else h.u.retransmit) =
            if ahead ≠ [] then h.u.retransmit else some 40 := by
          cases ahead with
          | nil => rfl
          | cons x t => simp
        simp only [sendDeltas, found, count, fits, if_true, marked, first]
      obtain ⟨tx, kp, sends, frames⟩ := ih m (ahead ++ [{ d with seq := some h.u.nextSeq }]) rest
        (sendU (.delta h.u.nextSeq d.body) { h with
          u := { h.u with deltas := (ahead ++ [{ d with seq := some h.u.nextSeq }]) ++ rest, nextSeq := nextByte h.u.nextSeq,
                          retransmit := if ahead ≠ [] then h.u.retransmit else some 40 } }) rfl
        (fun x mem => (List.mem_append.mp mem).elim (sent x) fun own => by
          obtain rfl := List.mem_singleton.mp own
          nofun)
        (fun x mem => waits x (List.mem_cons_of_mem d mem))
        (by rw [List.length_append, List.length_singleton]; omega) (by omega) (hand_tidy _ _)
      refine ⟨tx, kp, ?_, ?_⟩
      · rw [goes, sends]
        have kept : (k = 0 ∨ ahead ++ [{ d with seq := some h.u.nextSeq }] ≠ []) := .inr (by simp)
        have never : (k + 1 = 0 ∨ ahead ≠ []) ↔ ahead ≠ [] := or_iff_right (Nat.succ_ne_zero k)
        simp only [if_pos kept, never, List.append_assoc, List.singleton_append, numbered, Function.iterate_succ_apply]
        rfl
      · rw [frames]
        show (h.u.tx.hand _).frames ++ _ = _
        rw [hand_frames tidy, List.append_assoc]
        rfl

/-! ### The parent's acknowledgement -/

theorem ackDeltas_through {seq : Byte} {rest : List Delta} (named : d.seq = some seq) : ∀ ahead : List Delta,
    (∀ x ∈ ahead, x.seq ≠ some seq) → ackDeltas seq (ahead ++ d :: rest) = rest
  | [], _ => if_pos named
  | x :: t, other => (if_neg (other x List.mem_cons_self)).trans
      (ackDeltas_through named t fun y m => other y (List.mem_cons_of_mem x m))

/-- What an acknowledged delta leaves, before the next ones are sent. -/
def State.acked (s : State) (rest : List Delta) : Hap :=
  { Hap.start s with
    u := { s.u with loss := some 60, deltas := rest, retransmit := if unacked rest = 0 then none else some 40 },
    deltaDue := true }

theorem takeDeltaAck_named {s : State} {seq : Byte} {rest : List Delta} (up : s.u.state = .up)
    (deltas : s.u.deltas = ahead ++ d :: rest) (named : d.seq = some seq) (other : ∀ x ∈ ahead, x.seq ≠ some seq) :
    takeActiveU (.deltaAck seq) (Hap.start (s.heard .u)) = s.acked rest := by
  have held : (Hap.start (s.heard .u)).u.deltas = ahead ++ d :: rest := deltas
  have found : ((ahead ++ d :: rest).any fun d => decide (d.seq = some seq)) = true :=
    List.any_eq_true.mpr ⟨d, List.mem_append_right _ List.mem_cons_self, decide_eq_true named⟩
  have state : decide ((Hap.start (s.heard .u)).u.state = .up) = true := decide_eq_true up
  have cut := ackDeltas_through (rest := rest) named ahead other
  show takeDeltaAck seq (Hap.start (s.heard .u)) = _
  unfold takeDeltaAck
  rw [held, found, state, cut]
  rfl

/-- The happening of a DELTA ACK ends with the window filled. -/
theorem exec_deltaAck {s : State} {seq : Byte} {rest : List Delta} (hears : s.hearsParent) (up : s.u.state = .up)
    (deltas : s.u.deltas = ahead ++ d :: rest) (named : d.seq = some seq) (other : ∀ x ∈ ahead, x.seq ≠ some seq) {g : Hap}
    (sends : sendDeltas 8 (s.acked rest) = g) (quiet : g.drainDue = false ∧ g.entered = []) :
    exec (.deltaAck .u seq) s = .next g.toState := by
  refine (linkRow_u hears _ (takeDeltaAck_named up deltas named other)).trans (congrArg Host.Outcome.next ?_)
  have due : sendDeltasIfDue (s.acked rest) = g := by
    rw [← sends, sendDeltasIfDue, if_pos]
    · rfl
    · exact decide_eq_true up
  rw [finish_eq rfl, closing_clean rfl rfl, behindRecovery, recomputeFlags_still rfl, advanceGeneration_still rfl,
    handUpward_still rfl, due, drainIfDue_still quiet.1, attend_still quiet.2]

end

section
variable {ahead rest : List Delta} {d : Delta} {s : State} {seq : Byte}

theorem deltaAck_last (hears : s.hearsParent) (up : s.u.state = .up) (deltas : s.u.deltas = ahead ++ d :: rest)
    (named : d.seq = some seq) (other : ∀ x ∈ ahead, x.seq ≠ some seq) (sent : ∀ x ∈ rest, x.seq ≠ none) :
    exec (.deltaAck .u seq) s = .next { s with
      u := { s.u with loss := some 60, deltas := rest, retransmit := if rest = [] then none else some 40 } } := by
  have past : (s.acked rest).u.deltas.find? (fun d => d.seq.isNone) = none :=
    List.find?_eq_none.mpr fun x m => by simpa using sent x m
  have stops : sendDeltas 8 (s.acked rest) = s.acked rest := by simp only [sendDeltas, past]
  have count : unacked rest = rest.length := by
    have all := unacked_split (unsent := []) sent nofun
    rwa [List.append_nil] at all
  refine (exec_deltaAck hears up deltas named other stops ⟨rfl, rfl⟩).trans ?_
  simp only [State.acked, count, List.length_eq_zero_iff]
  rfl

/-- The deltas behind an acknowledged one: those sent, then those that wait. -/
theorem windowed_split (window : windowed (ahead ++ d :: rest)) (named : d.seq = some seq) :
    ahead.length < 8 ∧ (∀ x ∈ rest.take (7 - ahead.length), x.seq ≠ none) ∧ ∀ x ∈ rest.drop (7 - ahead.length), x.seq = none := by
  have place : ∀ j (lt : j < rest.length), rest[j].seq.isSome = true ↔ ahead.length + 1 + j < 8 := fun j lt => by
    have whole := window (ahead.length + 1 + j) (by simp; omega)
    have same : (ahead ++ d :: rest)[ahead.length + 1 + j]'(by simp; omega) = rest[j] := by
      rw [List.getElem_append_right (by omega)]
      simp [show ahead.length + 1 + j - ahead.length = j + 1 by omega]
    rwa [same] at whole
  have own := window ahead.length (by simp)
  have first : (ahead ++ d :: rest)[ahead.length]'(by simp) = d := by simp
  rw [first, named] at own
  refine ⟨own.mp rfl, fun x mem => ?_, fun x mem => ?_⟩
  · obtain ⟨j, lt, rfl⟩ := List.mem_take_iff_getElem.mp mem
    exact Option.isSome_iff_ne_none.mp ((place j (by omega)).mpr (by omega))
  · obtain ⟨j, lt, rfl⟩ := List.mem_drop_iff_getElem.mp mem
    refine Option.not_isSome_iff_eq_none.mp fun isSome => ?_
    have low := (place _ _).mp isSome
    omega

/-- DELTA ACK with deltas behind the window (R133). -/
theorem deltaAck_window {sent more : Nat} (hears : s.hearsParent) (up : s.u.state = .up)
    (deltas : s.u.deltas = ahead ++ d :: rest) (named : d.seq = some seq) (other : ∀ x ∈ ahead, x.seq ≠ some seq)
    (window : windowed s.u.deltas) (tidy : s.u.tx.cur = none → s.u.tx.waiting = [])
    (sentIs : sent = (rest.filterMap Delta.seq).length) (moreIs : more = min 8 rest.length - sent) :
    ∃ t, exec (.deltaAck .u seq) s = .next t ∧ t.u.deltas.map Delta.body = rest.map Delta.body ∧ windowed t.u.deltas ∧
      t.u.deltas.filterMap Delta.seq = rest.filterMap Delta.seq ++ seqsFrom s.u.nextSeq more ∧
      s.u.nextSeq :: seqsFrom (nextByte s.u.nextSeq) more = seqsFrom s.u.nextSeq more ++ [t.u.nextSeq] ∧
      t.u.retransmit = (if rest = [] then none else some 40) ∧
      t.u.tx.frames = s.u.tx.frames ++ (t.u.deltas.drop sent).filterMap Delta.frame ∧
      { t with u := { t.u with deltas := s.u.deltas, nextSeq := s.u.nextSeq, retransmit := s.u.retransmit, tx := s.u.tx,
                               keepalive := s.u.keepalive } } = s.heard .u := by
  obtain ⟨low, first, last⟩ := windowed_split (deltas ▸ window) named
  have length : (rest.take (7 - ahead.length)).length = min (7 - ahead.length) rest.length := List.length_take
  have length' : (rest.drop (7 - ahead.length)).length = rest.length - (7 - ahead.length) := List.length_drop
  have split : rest = rest.take (7 - ahead.length) ++ rest.drop (7 - ahead.length) := (List.take_append_drop _ _).symm
  generalize rest.take (7 - ahead.length) = front at first length split
  generalize rest.drop (7 - ahead.length) = back at last length' split
  subst split
  have none : back.filterMap Delta.seq = [] := List.filterMap_eq_nil_iff.mpr last
  have count : (front.filterMap Delta.seq).length = front.length := by
    rw [List.length_filterMap_eq_countP]
    exact List.countP_eq_length.mpr fun x m => Option.isSome_iff_ne_none.mpr (first x m)
  have sentHere : sent = front.length := by rw [sentIs, List.filterMap_append, none, List.append_nil, count]
  rw [List.length_append] at length length' moreIs
  have room : more = min (8 - front.length) back.length := by omega
  obtain ⟨tx, kp, sends, frames⟩ := sendDeltas_window more 8 front back (s.acked (front ++ back)) rfl first last room (by omega) tidy
  have window' : windowed (front ++ numbered s.u.nextSeq more back) := by
    intro j lt
    rw [List.length_append, numbered_length] at lt
    rcases Nat.lt_or_ge j front.length with front_lt | past
    · rw [List.getElem_append_left front_lt]
      exact iff_of_true (Option.isSome_iff_ne_none.mpr (first _ (List.getElem_mem _))) (by omega)
    · rw [List.getElem_append_right past, numbered_sent more _ back last]
      omega
  refine ⟨_, exec_deltaAck hears up deltas named other sends ⟨rfl, rfl⟩, ?_, window', ?_, seqsFrom_next _ _, ?_, ?_, ?_⟩
  · show (front ++ numbered _ more back).map Delta.body = _
    rw [List.map_append, numbered_bodies, List.map_append]
  · show (front ++ numbered _ more back).filterMap Delta.seq = _
    rw [List.filterMap_append, List.filterMap_append, none, List.append_nil]
    exact congrArg _ (numbered_seqs more _ back last (by omega))
  · show (if more = 0 ∨ front ≠ [] then (if unacked (front ++ back) = 0 then Option.none else some 40) else some 40) = _
    rw [unacked_split first last]
    cases front with
    | cons x t => simp
    | nil =>
      cases back with
      | nil => simp [room]
      | cons x t =>
        have some_room : more ≠ 0 := by
          rw [room, List.length_nil, List.length_cons]
          omega
        simp [some_room]
  · show tx.frames = s.u.tx.frames ++ ((front ++ numbered _ more back).drop sent).filterMap Delta.frame
    rw [frames, sentHere, List.drop_left]
    rfl
  · rfl

end

end Sys2Proof.Machine
end

section
/-! PROOF. The delta that one change of the roster makes, and what becomes of it on U (R126, R133; O48, third clause). -/

namespace Sys2Proof.Machine

section
variable {es : List Entry} {f g : Flags}

/-! ### The deltas of a happening (R126) -/

/-- Of entries told apart by their keys, one alone makes a delta. -/
theorem filterMap_single {β : Type} {o : Entry} {x : β} {f : Entry → Option β} (nodup : (es.map Entry.key).Nodup) (mem : o ∈ es)
    (own : f o = some x) (others : ∀ e ∈ es, e.key ≠ o.key → f e = none) : es.filterMap f = [x] := by
  obtain ⟨a, b, rfl⟩ := List.append_of_mem mem
  rw [List.map_append, List.map_cons, List.nodup_middle, List.nodup_cons, List.mem_append, not_or] at nodup
  obtain ⟨⟨before, behind⟩, -⟩ := nodup
  have first : a.filterMap f = [] := List.filterMap_eq_nil_iff.mpr fun e m =>
    others e (List.mem_append_left _ m) fun same => before (same ▸ List.mem_map_of_mem m)
  have last : b.filterMap f = [] := List.filterMap_eq_nil_iff.mpr fun e m =>
    others e (List.mem_append_right _ (List.mem_cons_of_mem o m)) fun same => behind (same ▸ List.mem_map_of_mem m)
  rw [List.filterMap_append, List.filterMap_cons_some own, first, last]
  rfl

theorem happeningDeltas_one {es' : List Entry} {x : Key × DeltaBody}
    (one : es'.filterMap (entryDelta es) ++ es.filterMap (entryGone es') = [x]) (f : Flags) :
    happeningDeltas es es' f f = [x.2] := by
  rw [happeningDeltas, one, if_pos rfl]
  rfl

theorem entryDelta_same {e : Entry} (nodup : (es.map Entry.key).Nodup) (mem : e ∈ es) : entryDelta es e = none := by
  simp [entryDelta, findEntry_of_mem nodup mem]

theorem entryGone_held {e : Entry} {es' : List Entry} (held : e.key ∈ es'.map Entry.key) : entryGone es' e = none := by
  obtain ⟨x, found⟩ := Option.ne_none_iff_exists'.mp fun none => findEntry_none.mp none held
  simp only [entryGone, found]

/-- An entry added makes an ADD delta. -/
theorem deltas_added {e : Entry} {lt : Entry → Entry → Bool} (nodup : (es.map Entry.key).Nodup)
    (absent : e.key ∉ es.map Entry.key) : happeningDeltas es (insertBy lt e es) f f = [.add e.record] := by
  have changed : ((e :: es).filterMap (entryDelta es)) = [(e.key, .add e.record)] := by
    have own : entryDelta es e = some (e.key, .add e.record) := by
      simp only [entryDelta, findEntry_none.mpr absent]
    rw [List.filterMap_cons_some own, List.filterMap_eq_nil_iff.mpr fun x m => entryDelta_same nodup m]
  have gone : es.filterMap (entryGone (insertBy lt e es)) = [] := List.filterMap_eq_nil_iff.mpr fun x m =>
    entryGone_held (List.mem_map_of_mem ((insertBy_perm lt e es).mem_iff.mpr (List.mem_cons_of_mem e m)))
  refine happeningDeltas_one (x := (e.key, .add e.record)) ?_ f
  rw [gone, List.append_nil]
  exact List.perm_singleton.mp (changed ▸ (insertBy_perm lt e es).filterMap _)

/-- An entry dropped makes a REMOVE delta. -/
theorem deltas_removed {o : Entry} (nodup : (es.map Entry.key).Nodup) (mem : o ∈ es) :
    happeningDeltas es (es.filter fun e => decide (e.key ≠ o.key)) f f = [.remove o.key] := by
  have changed : (es.filter fun e => decide (e.key ≠ o.key)).filterMap (entryDelta es) = [] :=
    List.filterMap_eq_nil_iff.mpr fun x m => entryDelta_same nodup (List.mem_of_mem_filter m)
  refine happeningDeltas_one (x := (o.key, .remove o.key)) ?_ f
  rw [changed, List.nil_append]
  refine filterMap_single nodup mem ?_ fun e m other => ?_
  · have left : findEntry o.key (es.filter fun e => decide (e.key ≠ o.key)) = none := findEntry_none.mpr fun held => by
      obtain ⟨x, kept, same⟩ := List.mem_map.mp held
      exact of_decide_eq_true (List.mem_filter.mp kept).2 same
    simp only [entryGone, left]
  · exact entryGone_held (List.mem_map_of_mem (List.mem_filter.mpr ⟨m, decide_eq_true other⟩))

/-- An entry refreshed with another state or grant makes an UPDATE delta. -/
theorem deltas_updated {o e : Entry} (nodup : (es.map Entry.key).Nodup) (mem : o ∈ es) (key : e.key = o.key)
    (serial : o.serial = e.serial) (differs : o.unmarked ≠ e.unmarked) :
    happeningDeltas es (updateEntry o.key (fun _ => e) es) f f = [.update e.record] := by
  have keys : (updateEntry o.key (fun _ => e) es).map Entry.key = es.map Entry.key :=
    keys_updateEntry fun _ _ _ => key
  have gone : es.filterMap (entryGone (updateEntry o.key (fun _ => e) es)) = [] := List.filterMap_eq_nil_iff.mpr fun x m =>
    entryGone_held (keys ▸ List.mem_map_of_mem m)
  refine happeningDeltas_one (x := (e.key, .update e.record)) ?_ f
  rw [gone, List.append_nil]
  refine filterMap_single (o := e) (keys ▸ nodup) (List.mem_map.mpr ⟨o, mem, if_pos rfl⟩) ?_ fun x m other => ?_
  · have found : findEntry e.key es = some o := key ▸ findEntry_of_mem nodup mem
    simp only [entryDelta, found]
    rw [if_neg (not_not.mpr serial), if_pos differs]
  · obtain ⟨y, held, same⟩ := List.mem_map.mp m
    by_cases own : y.key = o.key
    · rw [if_pos own] at same
      exact absurd (same ▸ rfl) other
    · rw [if_neg own] at same
      exact entryDelta_same nodup (same ▸ held)

end

/-! ### A delta on U (R126, R133) -/

section
variable {y : Hap} {up : DeltaBody}

/-- A changed roster of a branch, with nothing else due, makes one delta. -/
structure Hap.makes (y : Hap) (up : DeltaBody) : Prop where
  branch : y.role = .branch
  dirty : y.dirty = true
  reckoned : y.flagsDue = false
  still : y.deltaDue = false
  quiet : y.drainDue = false
  one : happeningDeltas y.base y.roster.entries y.baseFlags y.roster.flags = [up]

theorem Hap.makes.inactive (m : y.makes up) (off : y.u.state.active = false) :
    (attend (drainIfDue (sendDeltasIfDue (handUpward y)))).u = y.u := by
  have handed : handUpward y = y := if_neg (by simp [off])
  rw [handed, sendDeltasIfDue_still m.still, drainIfDue_still m.quiet, attend_u]

theorem Hap.makes.queued (m : y.makes up) (active : y.u.state.active = true) (room : y.u.deltas.length < 32) :
    handUpward y =
      { y with u := { y.u with deltas := y.u.deltas ++ [{ body := up, seq := none }] }, deltaDue := true } := by
  have due : (y.dirty && decide (y.role = .branch) && y.u.state.active) = true := by
    rw [m.dirty, m.branch, active]
    rfl
  have fits : ¬ deltaQueueSize < y.u.deltas.length + [up].length := by
    rw [deltaQueueSize, List.length_singleton]
    omega
  have some_delta : ¬ [up].isEmpty = true := nofun
  unfold handUpward
  rw [if_pos due]
  simp only [m.one]
  rw [if_neg some_delta, if_neg fits]
  rfl

theorem Hap.makes.syncing (m : y.makes up) (syncing : y.u.state = .syncing) (room : y.u.deltas.length < 32) :
    (attend (drainIfDue (sendDeltasIfDue (handUpward y)))).u =
      { y.u with deltas := y.u.deltas ++ [{ body := up, seq := none }] } := by
  rw [m.queued (by rw [syncing]; rfl) room]
  generalize grown : ({ y with u := { y.u with deltas := y.u.deltas ++ [{ body := up, seq := none }] }, deltaDue := true } : Hap) = z
  have state : z.u.state = .syncing := by rw [← grown]; exact syncing
  have waits : sendDeltasIfDue z = z := if_neg (by simp [state])
  rw [waits, drainIfDue_still (by rw [← grown]; exact m.quiet), attend_u, ← grown]

/-- A window's deltas that are fewer than eight have all been sent, and the window's eight otherwise. -/
theorem windowed_ahead {ds : List Delta} (window : windowed ds) :
    (∀ x ∈ ds.take 8, x.seq ≠ none) ∧ ∀ x ∈ ds.drop 8, x.seq = none := by
  refine ⟨fun x mem => ?_, fun x mem => ?_⟩
  · obtain ⟨j, lt, rfl⟩ := List.mem_take_iff_getElem.mp mem
    exact Option.isSome_iff_ne_none.mp ((window j (by omega)).mpr (by omega))
  · obtain ⟨j, lt, rfl⟩ := List.mem_drop_iff_getElem.mp mem
    refine Option.not_isSome_iff_eq_none.mp fun isSome => ?_
    have low := (window _ _).mp isSome
    omega

/-- With U UP the delta is queued, and the window filled. -/
theorem Hap.makes.filled (m : y.makes up) (state : y.u.state = .up) (window : windowed y.u.deltas) (room : y.u.deltas.length < 32)
    (tidy : y.u.tx.tidy) : ∃ k tx kp, k = min (8 - (y.u.deltas.take 8).length) (y.u.deltas.length - 8 + 1) ∧
      (attend (drainIfDue (sendDeltasIfDue (handUpward y)))).u = { y.u with
        deltas := y.u.deltas.take 8 ++ numbered y.u.nextSeq k (y.u.deltas.drop 8 ++ [{ body := up, seq := none }]),
        nextSeq := nextByte^[k] y.u.nextSeq,
        retransmit := if k = 0 ∨ y.u.deltas.take 8 ≠ [] then y.u.retransmit else some 40, tx := tx, keepalive := kp } ∧
      tx.frames = y.u.tx.frames ++
        (numbered y.u.nextSeq k (y.u.deltas.drop 8 ++ [{ body := up, seq := none }])).filterMap Delta.frame := by
  obtain ⟨sent, waits⟩ := windowed_ahead window
  rw [m.queued (by rw [state]; rfl) room]
  generalize grown : ({ y with u := { y.u with deltas := y.u.deltas ++ [{ body := up, seq := none }] }, deltaDue := true } : Hap) = z
  have u : z.u = { y.u with deltas := y.u.deltas ++ [{ body := up, seq := none }] } := by rw [← grown]
  have quiet : z.drainDue = false := by rw [← grown]; exact m.quiet
  have sends : sendDeltasIfDue z = sendDeltas 8 z := if_pos (by rw [← grown]; exact decide_eq_true state)
  have split : z.u.deltas = y.u.deltas.take 8 ++ (y.u.deltas.drop 8 ++ [{ body := up, seq := none }]) := by
    rw [u, ← List.append_assoc, List.take_append_drop]
  have length : (y.u.deltas.drop 8 ++ [({ body := up, seq := none } : Delta)]).length = y.u.deltas.length - 8 + 1 := by
    simp
  obtain ⟨tx, kp, filled, frames⟩ := sendDeltas_window (min (8 - (y.u.deltas.take 8).length) (y.u.deltas.length - 8 + 1)) 8
    (y.u.deltas.take 8) (y.u.deltas.drop 8 ++ [{ body := up, seq := none }]) z split sent
    (fun x mem => (List.mem_append.mp mem).elim (waits x) fun own => by rw [List.mem_singleton.mp own])
    (by rw [length]) (by omega) (by rw [u]; exact tidy)
  rw [u] at filled frames
  refine ⟨_, tx, kp, rfl, ?_, frames⟩
  rw [sends, drainIfDue_still (by rw [filled]; exact quiet), attend_u, filled]

/-- With eight unacknowledged deltas it is queued unsent. -/
theorem Hap.makes.held (m : y.makes up) (state : y.u.state = .up) (window : windowed y.u.deltas) (high : 8 ≤ y.u.deltas.length)
    (room : y.u.deltas.length < 32) : (attend (drainIfDue (sendDeltasIfDue (handUpward y)))).u =
      { y.u with deltas := y.u.deltas ++ [{ body := up, seq := none }] } := by
  obtain ⟨sent, waits⟩ := windowed_ahead window
  rw [m.queued (by rw [state]; rfl) room]
  generalize grown : ({ y with u := { y.u with deltas := y.u.deltas ++ [{ body := up, seq := none }] }, deltaDue := true } : Hap) = z
  have split : z.u.deltas = y.u.deltas.take 8 ++ (y.u.deltas.drop 8 ++ [{ body := up, seq := none }]) := by
    rw [← grown, ← List.append_assoc, List.take_append_drop]
  have sends : sendDeltasIfDue z = z := (if_pos (by rw [← grown]; exact decide_eq_true state)).trans
    (sendDeltas_stops split sent (fun x mem => (List.mem_append.mp mem).elim (waits x) fun own => by
      rw [List.mem_singleton.mp own]) (by rw [List.length_take]; omega) 8)
  rw [sends, drainIfDue_still (by rw [← grown]; exact m.quiet), attend_u, ← grown]

/-- Where the queue is full a dump begins instead (R128, R133). -/
theorem Hap.makes.overfull (m : y.makes up) (active : y.u.state.active = true) (full : 32 ≤ y.u.deltas.length)
    (tidy : y.u.tx.tidy) :
    ∃ t, (attend (drainIfDue (sendDeltasIfDue (handUpward y)))).u = t ∧ t.state = .syncing ∧ t.deltas = [] ∧
      t.dumpCause = .queueFull ∧ t.dumpList = y.roster.keys ∧
      t.dumpPhase = (if y.roster.entries = [] then .awaitingAck else .sending) ∧
      t.tx.frames = y.u.tx.frames ++
        { msg := .syncBegin (byteOf y.roster.entries.length) .queueFull, resets := none } ::
          if y.roster.entries = [] then [{ msg := .syncEnd 0 y.roster.flags, resets := none }] else [] := by
  have due : (y.dirty && decide (y.role = .branch) && y.u.state.active) = true := by
    rw [m.dirty, m.branch, active]
    rfl
  have long : deltaQueueSize < y.u.deltas.length + [up].length := by
    rw [deltaQueueSize, List.length_singleton]
    omega
  have some_delta : ¬ [up].isEmpty = true := nofun
  have begins : handUpward y = beginDump .queueFull y := by
    unfold handUpward
    rw [if_pos due]
    simp only [m.one]
    rw [if_neg some_delta, if_pos long]
  have state : (if decide (y.u.state = .up) = true then LinkState.syncing else y.u.state) = .syncing := by
    cases link : y.u.state <;> first | rfl | (rw [link] at active; cases active)
  generalize opened : openDump .queueFull y = d
  have dump : d.u.state = .syncing ∧ d.u.deltas = [] ∧ d.u.dumpCause = .queueFull ∧ d.u.dumpList = y.roster.keys ∧
      d.u.dumpPhase = .sending ∧ d.drainDue = false ∧ d.roster = y.roster ∧ d.u.tx = y.u.tx.hand
        { msg := .syncBegin (byteOf y.roster.entries.length) .queueFull, resets := none } := by
    rw [← opened, openDump, recomputeFlags_still m.reckoned]
    refine ⟨state, rfl, rfl, rfl, rfl, m.quiet, rfl, ?_⟩
    show y.u.tx.hand { msg := .syncBegin (byteOf (y.roster.entries.map Entry.key).length) .queueFull, resets := none } = _
    rw [List.length_map]
  obtain ⟨syncing, deltas, cause, list, phase, quiet, roster, tx⟩ := dump
  have ends : ∀ z : Hap, z.u.state = .syncing → z.drainDue = false → (attend (drainIfDue (sendDeltasIfDue z))).u = z.u :=
    fun z s q => by
      have waits : sendDeltasIfDue z = z := if_neg (by simp [s])
      rw [waits, drainIfDue_still q, attend_u]
  rw [begins]
  unfold beginDump
  rw [opened]
  by_cases empty : y.roster.entries = []
  · have empty' : y.roster.entries.isEmpty = true := List.isEmpty_iff.mpr empty
    have none : d.u.dumpList = [] := by rw [list, Roster.keys, empty]; rfl
    rw [if_pos empty', ends (sendSyncEnd d) syncing quiet, if_pos empty, if_pos empty]
    refine ⟨_, rfl, syncing, deltas, cause, list, rfl, ?_⟩
    show (d.u.tx.hand { msg := .syncEnd (byteOf d.u.dumpList.length) d.roster.flags, resets := Option.none }).frames = _
    rw [none, tx, roster, hand_frames (hand_tidy _ _), hand_frames tidy, List.append_assoc]
    rfl
  · have some_entry : ¬ y.roster.entries.isEmpty = true := fun e => empty (List.isEmpty_iff.mp e)
    rw [if_neg some_entry, ends d syncing quiet, if_neg empty, if_neg empty]
    refine ⟨_, rfl, syncing, deltas, cause, list, phase, ?_⟩
    rw [tx, hand_frames tidy]

end

end Sys2Proof.Machine
end

section
/-! PROOF. A child's delta handed up as one delta under the port's path (O48). -/

namespace Sys2Proof.Machine

section
variable {s : State} {p : DPort} {h : Hap} {r : LinkRecord} {body up : DeltaBody} {seq : Byte}

/-! ### What a child's record makes of the roster, where it touches no second entry -/

theorem remoteRemove_alone {k : Key} {o : Entry} (found : findEntry k h.roster.entries = some o) (holds : o.state ≠ .conflict)
    (alone : ∀ x ∈ h.roster.entries, x.serial = o.serial → x.key = o.key) :
    remoteRemove k .reported h = dropEntry k h := by
  obtain ⟨-, key⟩ := findEntry_some found
  have plain : o.inConflict = false := by simp [Entry.inConflict, holds]
  have nobody : (dropEntry k h).roster.entries.filter (fun e => e.inConflict && decide (e.serial = o.serial)) = [] :=
    List.filter_eq_nil_iff.mpr fun x mem both => by
      obtain ⟨held, other⟩ := List.mem_filter.mp mem
      rw [Bool.and_eq_true, decide_eq_true_eq] at both
      exact of_decide_eq_true other ((alone x held both.2).trans key)
  have promoted : promote o.serial (dropEntry k h) = dropEntry k h := by
    unfold promote
    rw [nobody]
    rfl
  have moved : ¬ Cause.reported = .linkLost := nofun
  simp only [remoteRemove, found, moved, if_false, afterRemoval, plain, Bool.false_eq_true, promoted, ite_self]

theorem remoteAdd_unclaimed (draw : Fin 4) (room : h.roster.entries.length < rosterCapacity)
    (unclaimed : ∀ x ∈ h.roster.entries, x.serial = r.serial → x.state = .conflict) :
    (addedEntry p r draw h.roster.entries).state = r.state ∧
      remoteAdd p r draw h = addEntry (addedEntry p r draw h.roster.entries) h := by
  have free : claimed r.serial h.roster.entries = false := by
    rw [Bool.eq_false_iff]
    intro taken
    obtain ⟨x, mem, same, holds⟩ := claimed_iff.mp taken
    exact holds (unclaimed x mem same)
  have state : (addedEntry p r draw h.roster.entries).state = r.state := by
    show derivedState r.state r.serial h.roster.entries = r.state
    simp [derivedState, free]
  have plain : (addedEntry p r draw h.roster.entries).inConflict = false := by
    rw [Entry.inConflict, state]
    show (decide (r.state = .conflict) && isHolder r.state) = false
    cases r.state <;> rfl
  have notFull : ¬ h.roster.full = true := by simpa [Roster.full] using room
  have added : remoteAdd p r draw h =
      if (addedEntry p r draw h.roster.entries).inConflict then
        beginCond .serialConflict (keyLocus (remoteKey p r.key)) (addEntry (addedEntry p r draw h.roster.entries) h)
      else addEntry (addedEntry p r draw h.roster.entries) h := if_neg notFull
  exact ⟨state, added.trans (if_neg (by rw [plain]; nofun))⟩

/-- The conditions under which a child's delta of an entry touches no second entry, and what is handed up for it. -/
def State.passesOn (s : State) (p : DPort) (body up : DeltaBody) (k : Key) (r : LinkRecord) (o : Entry) : Prop :=
  body = .remove k ∧ up = .remove (remoteKey p k) ∧ findEntry (remoteKey p k) s.roster.entries = some o ∧
      o.state ≠ .conflict ∧ (∀ x ∈ s.roster.entries, x.serial = o.serial → x.key = o.key) ∨
    (body = .add r ∧ up = .add { r with key := remoteKey p r.key } ∧
          findEntry (remoteKey p r.key) s.roster.entries = none ∧ s.roster.entries.length < 96 ∧
          (∀ x ∈ s.roster.entries, x.serial = r.serial → x.state = .conflict) ∨
        body = .update r ∧ up = .update { r with key := remoteKey p r.key } ∧
          findEntry (remoteKey p r.key) s.roster.entries = some o ∧ o.serial = r.serial ∧ o.state ≠ .conflict ∧
          o.reported ≠ some .conflict ∧ r.state ≠ .conflict ∧ (o.state ≠ r.state ∨ o.grant ≠ r.grant)) ∧
      r.serial ≠ 0 ∧ r.caps.length ≤ 8 ∧ r.key.path.length + 1 + s.ownTier ≤ 3 ∧ r.draw.toNat ≤ 3

/-- Such a delta changes the roster's entries alone, and makes one delta. -/
theorem applyDelta_passes {k : Key} {o : Entry} (nodup : s.roster.keys.Nodup) (passes : s.passesOn p body up k r o)
    {x : Hap} (roster : x.roster = s.roster) (tier : x.ownTier = s.ownTier) :
    ∃ es c, applyDelta p body x = { x with roster := { x.roster with entries := es, joinCounter := c }, dirty := true } ∧
      ∀ f, happeningDeltas s.roster.entries es f f = [up] := by
  have record : byteOf r.draw.toNat = r.draw := (BitVec.ofNat_toNat ..).trans (by simp)
  rcases passes with ⟨rfl, rfl, found, holds, alone⟩ | ⟨kinds, serial, caps, path, low⟩
  · obtain ⟨mem, key⟩ := findEntry_some found
    refine ⟨x.roster.entries.filter fun e => decide (e.key ≠ remoteKey p k), x.roster.joinCounter, ?_, fun f => ?_⟩
    · exact remoteRemove_alone (roster ▸ found) holds (roster ▸ alone)
    · rw [roster, ← key]
      exact deltas_removed nodup mem
  · have good : checkRecord x.ownTier p r = some ⟨r.draw.toNat, Nat.lt_succ_of_le low⟩ :=
      checkRecord_good serial caps (tier ▸ path) low
    rcases kinds with ⟨rfl, rfl, new, room, unclaimed⟩ | ⟨rfl, rfl, found, same, holds, wanted, wants, differs⟩
    · obtain ⟨state, added⟩ := remoteAdd_unclaimed (p := p) (h := x) ⟨r.draw.toNat, Nat.lt_succ_of_le low⟩ (roster ▸ room)
        (roster ▸ unclaimed)
      refine ⟨_, _, (remoteStore_new good (roster ▸ new)).trans added, fun f => ?_⟩
      rw [roster] at state ⊢
      refine (deltas_added nodup (findEntry_none.mp new)).trans ?_
      show [DeltaBody.add (addedEntry p r ⟨r.draw.toNat, Nat.lt_succ_of_le low⟩ s.roster.entries).record] = _
      rw [Entry.record, state]
      show [DeltaBody.add { r with key := remoteKey p r.key, draw := byteOf r.draw.toNat }] = _
      rw [record]
    · obtain ⟨mem, key⟩ := findEntry_some found
      refine ⟨_, x.roster.joinCounter, (remoteStore_known good (roster ▸ found) same).trans
        (remoteRefresh_holder _ holds wanted wants), fun f => ?_⟩
      rw [roster]
      refine (deltas_updated (e := refreshedEntry o r ⟨r.draw.toNat, Nat.lt_succ_of_le low⟩) nodup mem rfl rfl ?_).trans ?_
      · intro equal
        rcases differs with state | grant
        · exact state (congrArg Entry.state equal)
        · exact grant (congrArg Entry.grant equal)
      · show [DeltaBody.update { r with key := o.key, serial := o.serial, draw := byteOf r.draw.toNat }] = _
        rw [record, key, same]

/-! ### The end of the happening -/

/-- The happening of a child's delta, behind its recovery and the reckoning of the flags. -/
def behindFlags (g : Hap) : Hap := advanceGeneration (recomputeFlags g)

theorem closing_passed {g : Hap} (settled : g.settleDue = false) (m1 : g.roster.marker1 = false)
    (m2 : g.roster.marker2 = false) : closing g = attend (drainIfDue (sendDeltasIfDue (handUpward (behindFlags g)))) ∧
      (closing g).roster = (behindFlags g).roster := by
  have same : closing g = behindRecovery g := by rw [closing_unmarked m1 m2, settleIfDue_still settled]
  rw [same]
  exact ⟨rfl, behindRecovery_roster g⟩

/-- What U shows of one delta handed up. -/
theorem handed_up {g : Hap} (noReset : g.resetDue = none) (settled : g.settleDue = false) (m1 : g.roster.marker1 = false)
    (m2 : g.roster.marker2 = false) (makes : (behindFlags g).makes up) (link : (behindFlags g).u = s.u) (tidy : s.u.tx.tidy) :
    ∃ t, finish g = t ∧ t.roster = (behindFlags g).roster ∧ (∀ q, t.dl q = g.dl q) ∧
      (s.u.state.active = false → t.u = s.u) ∧
      (s.u.state = .syncing → s.u.deltas.length < 32 →
        t.u = { s.u with deltas := s.u.deltas ++ [{ body := up, seq := none }] }) ∧
      (s.u.state = .up → windowed s.u.deltas → s.u.deltas.length < 8 →
        t.u.deltas = s.u.deltas ++ [{ body := up, seq := some s.u.nextSeq }] ∧ t.u.nextSeq = nextByte s.u.nextSeq ∧
          t.u.retransmit = (if s.u.deltas = [] then some 40 else s.u.retransmit) ∧
          t.u.tx.frames = s.u.tx.frames ++ [{ msg := .delta s.u.nextSeq up, resets := none }]) ∧
      (s.u.state = .up → windowed s.u.deltas → 8 ≤ s.u.deltas.length → s.u.deltas.length < 32 →
        t.u = { s.u with deltas := s.u.deltas ++ [{ body := up, seq := none }] }) ∧
      (s.u.state.active = true → 32 ≤ s.u.deltas.length →
        t.u.state = .syncing ∧ t.u.deltas = [] ∧ t.u.dumpCause = .queueFull ∧ t.u.dumpList = t.roster.keys ∧
          t.u.dumpPhase = (if t.roster.entries = [] then .awaitingAck else .sending) ∧
          t.u.tx.frames = s.u.tx.frames ++
            { msg := .syncBegin (byteOf t.roster.entries.length) .queueFull, resets := none } ::
              if t.roster.entries = [] then [{ msg := .syncEnd 0 t.roster.flags, resets := none }] else []) := by
  obtain ⟨ends, roster⟩ := closing_passed settled m1 m2
  have ports : ∀ q, (closing g).dl q = g.dl q := fun q => closing_port (by cases q <;> assumption)
  refine ⟨_, finish_eq noReset, roster, ports, ?_⟩
  rw [show (closing g).toState.roster = (behindFlags g).roster from roster, ends]
  rw [← link] at tidy ⊢
  refine ⟨makes.inactive, makes.syncing, fun state window low => ?_, makes.held, fun active full => ?_⟩
  · obtain ⟨k, tx, kp, one, same, frames⟩ := makes.filled state window (by omega) tidy
    have whole : (behindFlags g).u.deltas.take 8 = (behindFlags g).u.deltas := List.take_of_length_le (by omega)
    have rest : (behindFlags g).u.deltas.drop 8 = [] := List.drop_of_length_le (by omega)
    have k_one : k = 1 := by
      rw [one, whole]
      omega
    subst k_one
    rw [whole, rest] at same
    rw [rest] at frames
    rw [same]
    refine ⟨rfl, rfl, ?_, frames⟩
    show (if 1 = 0 ∨ (behindFlags g).u.deltas ≠ [] then _ else _) = _
    by_cases empty : (behindFlags g).u.deltas = []
    · rw [if_pos empty, if_neg (by simp [empty])]
    · rw [if_neg empty, if_pos (.inr empty)]
  · obtain ⟨t, same, facts⟩ := makes.overfull active full tidy
    rw [same]
    exact facts

end

section
variable {s : State} {p : DPort} {x : Hap} {up : DeltaBody} {d : DLink}

/-- A record's delta taken, behind the reckoning of the flags. -/
theorem makes_of_record {es : List Entry} {c : Word32} (role : x.role = .branch) (base : x.base = s.roster.entries)
    (baseFlags : x.baseFlags = s.roster.flags) (roster : x.roster = s.roster) (flags : x.flagsDue = false)
    (delta : x.deltaDue = false) (drain : x.drainDue = false) (one : ∀ f, happeningDeltas s.roster.entries es f f = [up])
    {g : Hap} (shape : ({ x with roster := { x.roster with entries := es, joinCounter := c }, dirty := true } : Hap).setD p d = g) :
    (behindFlags g).makes up ∧ (behindFlags g).u = x.u := by
  have fields : g.role = x.role ∧ g.base = x.base ∧ g.baseFlags = x.baseFlags ∧ g.roster.entries = es ∧
      g.roster.flags = x.roster.flags ∧ g.flagsDue = x.flagsDue ∧ g.deltaDue = x.deltaDue ∧ g.drainDue = x.drainDue ∧
      g.dirty = true ∧ g.u = x.u := by
    rw [← shape]
    cases p <;> exact ⟨rfl, rfl, rfl, rfl, rfl, rfl, rfl, rfl, rfl, rfl⟩
  obtain ⟨role', base', baseFlags', entries', flags', due, delta', drain', dirty, link⟩ := fields
  have behind : behindFlags g = { g with roster := { g.roster with generation := g.roster.generation + 1 } } := by
    rw [behindFlags, recomputeFlags_still (due.trans flags), advanceGeneration, if_pos dirty]
  rw [behind]
  refine ⟨⟨role'.trans role, dirty, due.trans flags, delta'.trans delta, drain'.trans drain, ?_⟩, link⟩
  show happeningDeltas g.base g.roster.entries g.baseFlags g.roster.flags = [up]
  rw [base', base, entries', baseFlags', baseFlags, flags', roster]
  exact one _

/-- The child's flags taken, behind the reckoning of the flags. -/
theorem makes_of_flags {g : Hap} {f : Flags} (role : g.role = .branch) (base : g.base = g.roster.entries)
    (baseFlags : g.baseFlags = g.roster.flags) (nodup : g.roster.keys.Nodup) (flags : g.flagsDue = true)
    (delta : g.deltaDue = false) (drain : g.drainDue = false) (caused : g.causedFlags = f) (changed : f ≠ g.roster.flags) :
    (behindFlags g).makes (.flags f) ∧ (behindFlags g).u = g.u ∧ (behindFlags g).roster.flags = f := by
  have dirty : (g.dirty || decide (g.causedFlags ≠ g.roster.flags)) = true := by
    rw [caused, decide_eq_true changed, Bool.or_true]
  have reckoned : recomputeFlags g = { g with roster := { g.roster with flags := f }, dirty := true, flagsDue := false } := by
    rw [recomputeFlags, if_pos flags, dirty, caused]
  rw [behindFlags, reckoned]
  refine ⟨⟨role, rfl, rfl, delta, drain, ?_⟩, rfl, rfl⟩
  show happeningDeltas g.base g.roster.entries g.baseFlags f = [.flags f]
  rw [base, baseFlags, happeningDeltas_unchanged nodup, if_neg (Ne.symm changed)]

end

/-- Settles O48. -/
theorem deltaAckRemovesThrough : Obligations.DeltaAckRemovesThrough := by
  unfold Obligations.DeltaAckRemovesThrough
  refine ⟨fun seq ahead rest d s hears => ⟨deltaAck_last hears, fun unnamed => exec_heard_u hears ?_⟩,
    fun seq ahead rest d s sent more hears => deltaAck_window hears,
    fun p seq body up k r o f g s branch active idle turn m1 m2 nodup tidy cases => ?_⟩
  · have unnamed' : ((Hap.start (s.heard .u)).u.deltas.any fun d => decide (d.seq = some seq)) = false :=
      List.any_eq_false.mpr fun x mem same => unnamed x mem (of_decide_eq_true same)
    refine if_neg ?_
    rw [unnamed', Bool.and_false]
    nofun
  have dl : (Hap.start (s.heard (.d p))).dl p = { s.dl p with loss := some 60 } := heard_dl p
  have taken := takeDelta_turn (h := Hap.start (s.heard (.d p))) (p := p) (body := body) (seq := seq)
    (by rw [dl]; exact idle) (by rw [dl]; exact turn)
  have row : ∀ short : (linkPayload (.delta seq body)).length ≤ 200, exec (.delta (.d p) seq body) s = .next (finish
      ((applyDelta p body (Hap.start (s.heard (.d p)))).setD p
        (((applyDelta p body (Hap.start (s.heard (.d p)))).dl p).tookDelta seq))) := fun short =>
    (sizedLinkRow_eq short).trans (linkRow_d active (.delta seq body) taken)
  have roster : (Hap.start (s.heard (.d p))).roster = s.roster := heard_roster
  have role : (Hap.start (s.heard (.d p))).role = .branch := (show (s.heard (.d p)).role = s.role by cases p <;> rfl).trans branch
  have link : (Hap.start (s.heard (.d p))).u = s.u := by cases p <;> rfl
  rcases or_assoc.mpr cases with passes | ⟨rfl, rfl, changed, caused⟩
  · obtain ⟨es, c, applied, one⟩ := applyDelta_passes nodup passes roster heard_ownTier
    have short : (linkPayload (.delta seq body)).length ≤ 200 := by
      rcases passes with ⟨rfl, -⟩ | ⟨⟨rfl, -⟩ | ⟨rfl, -⟩, -, caps, -⟩
      · simp [linkPayload, keyBytes]
      all_goals
        simp only [linkPayload, List.length_cons, linkRecordBytes_length]
        omega
    have notFlags : body ≠ .flags f := by
      rcases passes with ⟨rfl, -⟩ | ⟨⟨rfl, -⟩ | ⟨rfl, -⟩, -⟩ <;> nofun
    rw [applied] at row
    generalize DLink.tookDelta _ seq = d at row
    generalize shape : Hap.setD p d _ = x at row
    obtain ⟨makes, held⟩ := makes_of_record (p := p) (up := up) role (congrArg Roster.entries roster)
      (congrArg Roster.flags roster) roster rfl rfl rfl one shape
    have fields : x.resetDue = none ∧ x.settleDue = false ∧ x.roster.marker1 = s.roster.marker1 ∧
        x.roster.marker2 = s.roster.marker2 := by
      rw [← shape]
      cases p <;> exact ⟨rfl, rfl, rfl, rfl⟩
    obtain ⟨reset, settled, one', two'⟩ := fields
    obtain ⟨t, ends, -, -, facts⟩ := handed_up (s := s) reset settled (one'.trans m1) (two'.trans m2) makes (held.trans link) tidy
    refine ⟨t, (row short).trans (congrArg Host.Outcome.next ends), ?_⟩
    obtain ⟨f1, f2, f3, f4, f5⟩ := facts
    exact ⟨f1, f2, f3, f4, f5, fun is => absurd is notFlags⟩
  · have short : (linkPayload (.delta seq (.flags f))).length ≤ 200 := by simp [linkPayload]
    have fits := row short
    generalize shape : Hap.setD p _ _ = x at fits
    have fields : x.resetDue = none ∧ x.settleDue = false ∧ x.roster = s.roster ∧ x.role = s.role ∧ x.u = s.u ∧
        x.base = s.roster.entries ∧ x.baseFlags = s.roster.flags ∧ x.flagsDue = true ∧ x.deltaDue = false ∧
        x.drainDue = false ∧ x.causedFlags = g ∧ (x.dl p).child = (s.dl p).child.map fun c => { c with reported := some f } := by
      rw [← shape, caused]
      cases p <;> exact ⟨rfl, rfl, rfl, rfl, rfl, rfl, rfl, rfl, rfl, rfl, rfl, rfl⟩
    obtain ⟨reset, settled, roster', role', link', base, baseFlags, due, delta, drain, causes, child⟩ := fields
    obtain ⟨makes, held, flags⟩ := makes_of_flags (g := x) (role'.trans branch) (base.trans (congrArg Roster.entries roster').symm)
      (baseFlags.trans (congrArg Roster.flags roster').symm) (roster' ▸ nodup) due delta drain causes (roster' ▸ changed)
    obtain ⟨t, ends, ended, ports, f1, f2, f3, f4, f5⟩ := handed_up (s := s) reset settled (roster' ▸ m1) (roster' ▸ m2) makes
      (held.trans link') tidy
    refine ⟨t, fits.trans (congrArg Host.Outcome.next ends), f1, f2, f3, f4, f5, fun _ => ?_⟩
    have unmarked : ∀ q, x.roster.marker q = false := fun q => by rw [roster']; cases q <;> assumption
    have marker : ∀ q, t.roster.marker q = x.roster.marker q := fun q => by
      rw [← ends, finish_eq reset]
      exact (closing_marker (unmarked q)).trans (unmarked q).symm
    have follows : t.causedFlags = g := (causedFlags_congr (ports .d1) (ports .d2) (marker .d1) (marker .d2)).trans causes
    have shown : t.roster.flags = g := (congrArg Roster.flags ended).trans flags
    exact ⟨shown, shown.trans follows.symm, (congrArg DLink.child (ports p)).trans child⟩

end Sys2Proof.Machine
end

section
/-! PROOF. The admission of a check-in (R7 to R13): what it leaves beside the roster, the budget and the events, and the
grant of an entry that joins an empty waiting list (R95, R96). -/

namespace Sys2Proof.Machine

section
variable {h a b : Hap} {i : SlotId} {r : CheckInRec} {s : State}

/-! ### What an admission cannot touch -/

@[simp] theorem budgetJoin_offEnd (i : SlotId) (h : Hap) : (budgetJoin i h).offEnd = h.offEnd := by
  unfold budgetJoin
  split <;> rfl

@[simp] theorem budgetRelease_offEnd (i : SlotId) (h : Hap) : (budgetRelease i h).offEnd = h.offEnd := by
  unfold budgetRelease
  split
  · rfl
  · split <;> rfl

theorem raiseLatched_offEnd (k : EvKind) (l : Locus) (d : Word16) (h : Hap) : (raiseLatched k l d h).offEnd = h.offEnd :=
  offEnd_of_offEv (raiseLatched_offEv h k l d)

theorem beginCond_offEnd (k : EvKind) (l : Locus) (h : Hap) : (beginCond k l h).offEnd = h.offEnd :=
  offEnd_of_offEv (beginCond_offEv h k l)

theorem endCond_offEnd (k : EvKind) (l : Locus) (h : Hap) : (endCond k l h).offEnd = h.offEnd :=
  offEnd_of_offEv (endCond_offEv h k l)

theorem promote_offEnd (serial : Serial) (h : Hap) : (promote serial h).offEnd = h.offEnd := by
  unfold promote promoteEntry
  split
  · rfl
  · split
    · exact endCond_offEnd ..
    · split
      · exact (endCond_offEnd ..).trans (budgetJoin_offEnd ..)
      · exact endCond_offEnd ..
      · exact endCond_offEnd ..
      · exact endCond_offEnd ..
      all_goals rfl

theorem afterRemoval_offEnd (e : Entry) (h : Hap) : (afterRemoval e h).offEnd = h.offEnd := by
  have ended : (if e.inConflict then endCond .serialConflict (keyLocus e.key) h else h).offEnd = h.offEnd := by
    split
    · exact endCond_offEnd ..
    · rfl
  unfold afterRemoval
  simp only
  split
  · exact (promote_offEnd ..).trans ended
  · exact ended

theorem localRemove_offEnd (i : SlotId) (cause : Cause) (h : Hap) : (localRemove i cause h).offEnd = h.offEnd := by
  unfold localRemove
  split
  · rfl
  · next e _ =>
    have dropped : (dropEntry e.key (budgetRelease i h)).offEnd = h.offEnd := budgetRelease_offEnd i h
    exact (afterRemoval_offEnd ..).trans ((raiseLatched_offEnd ..).trans dropped)

theorem admitAddition_offEnd (i : SlotId) (r : CheckInRec) (h : Hap) : (admitAddition i r h).1.offEnd = h.offEnd := by
  unfold admitAddition
  split
  · rfl
  · simp only
    split
    · exact (beginCond_offEnd ..).trans (raiseLatched_offEnd ..)
    · exact (raiseLatched_offEnd ..).trans (budgetJoin_offEnd ..)

theorem admission_offEnd (i : SlotId) (r : CheckInRec) (h : Hap) : (admission i r h).1.offEnd = h.offEnd := by
  have replaced : (admitAddition i r (localRemove i .replaced h)).1.offEnd = h.offEnd :=
    (admitAddition_offEnd ..).trans (localRemove_offEnd ..)
  have refreshed : ∀ e, (admitRefresh i e r h).1.offEnd = h.offEnd := fun e => by
    unfold admitRefresh
    split
    · exact beginCond_offEnd ..
    · split
      · refine (budgetJoin_offEnd ..).trans (Eq.trans ?_ (budgetRelease_offEnd i h))
        rfl
      · rfl
  unfold admission
  split
  · exact admitAddition_offEnd ..
  · split
    · rfl
    · split
      · refine (raiseLatched_offEnd ..).trans ((budgetJoin_offEnd ..).trans ?_)
        rfl
      · exact replaced
    all_goals
      split
      · exact refreshed _
      · exact replaced

/-! ### The happening of an admitted check-in -/

theorem settleIfDue_settled (h : Hap) : (settleIfDue h).settleDue = false := by
  unfold settleIfDue
  split
  · rfl
  · next off => exact Bool.eq_false_iff.mpr off

/-- An admission with the grants that it hands on (R65). -/
def admittedEnd (i : SlotId) (a : Hap) : Hap := settleIfDue (admittedSlot i a)

theorem checkInResult_admitted {res : SlotResult} (admitted : res = .accepted ∨ res = .conflict) (gen : Word16) (h : Hap) :
    checkInResult i res gen h = h.setTarget i { h.target i with
      phase := .holding ([slotResultCode res, grantCode (h.slotGrant i)] ++ be16 gen) 0, lastResult := some res } := by
  have yes : (decide (res = .accepted) || decide (res = .conflict)) = true := by
    rcases admitted with rfl | rfl <;> rfl
  simp only [checkInResult, yes, if_true, holdResponse, setTarget_setTarget, setTarget_target_self]

/-- What the end of an admitted check-in's happening has, of the roster, the budget and the events as the admission left
them. -/
structure Admits (i : SlotId) (res : SlotResult) (s : State) (a h : Hap) : Prop where
  roster : h.roster = (admittedEnd i a).roster
  budget : h.budget = (admittedEnd i a).budget
  ev : h.ev = (admittedEnd i a).ev
  settled : h.settleDue = false
  dirty : h.dirty = (admittedEnd i a).dirty
  result : ((closing h).target i).lastResult = some res
  phase : ((closing h).target i).phase =
    .holding ([slotResultCode res, grantCode ((admittedEnd i a).slotGrant i)] ++ be16 s.desc.generation) 0
  slot : (closing h).slot i = { s.slot i with state := .online, timer := none }
  filter : (closing h).filter i = s.filter i
  memory : (closing h).host.memory = s.host.memory
  ops : (closing h).ops = s.ops
  frame : State.slotFrame i s (closing h).toState

theorem checkIn_admitted {record : List Byte} {res : SlotResult} {out : Admission}
    (state : (s.slot i).state = .enabled ∨ (s.slot i).state = .online) (formed : checkInRecOf record = some r)
    (unpinned : (s.target i).pin = none) (admits : admission i r (Hap.start s) = (a, out))
    (outcome : out = .accepted ∧ res = .accepted ∨ out = .conflict ∧ res = .conflict) :
    ∃ h, exec (.checkIn i record) s = .next (closing h).toState ∧ Admits i res s a h := by
  have moved := moves_slotWrite (i := i) (Hap.start s) (3 :: record)
  have admitted : checkInAdmit i r (Hap.start s) = (admittedEnd i a, res) := by
    unfold checkInAdmit
    rw [admits]
    rcases outcome with ⟨rfl, rfl⟩ | ⟨rfl, rfl⟩ <;> rfl
  have result : res = .accepted ∨ res = .conflict := by
    rcases outcome with ⟨-, rfl⟩ | ⟨-, rfl⟩
    · exact .inl rfl
    · exact .inr rfl
  have written : slotWrite i (3 :: record) (Hap.start s) = checkInResult i res s.desc.generation (admittedEnd i a) := by
    have unburst : slotWrite i (3 :: record) (Hap.start s) = checkInCmd i record (Hap.start s) :=
      congrArg (checkInCmd i record) (endBurst_of_pin_none (h := Hap.start s) unpinned)
    have slot0 : (Hap.start s).slot i = s.slot i := rfl
    rw [unburst]
    rcases state with state | state
    · simp only [checkInCmd, slot0, state, formed, admitted]
      rfl
    · simp only [checkInCmd, slot0, state, formed, admitted]
      rfl
  have row : exec (.checkIn i record) s = .next (finish (slotWrite i (3 :: record) (Hap.start s))) := rfl
  have base : (admittedEnd i a).offEnd = (admittedSlot i a).offEnd := settleIfDue_offEnd _
  have kept : a.offEnd = (Hap.start s).offEnd := by
    rw [← admission_offEnd i r (Hap.start s), admits]
  have slots : a.slots = s.slots := congrArg (fun x : Hap => x.slots) kept
  have slot : a.slot i = s.slot i := congrArg (fun v : Vector Slot 10 => v[i]) slots
  have own : (admittedEnd i a).slot i = { s.slot i with state := .online, timer := none } := by
    rw [← slot]
    exact (congrArg (fun x : Hap => x.slots[i]) base).trans (setSlot_slot_self (h := a) _)
  have filter : (admittedEnd i a).filter i = s.filter i :=
    (congrArg (fun x : Hap => x.filters[i]) base).trans (congrArg (fun x : Hap => x.filters[i]) kept)
  have ops : (admittedEnd i a).ops = s.ops :=
    (congrArg (fun x : Hap => x.ops) base).trans (congrArg (fun x : Hap => x.ops) kept)
  have settled : (admittedEnd i a).settleDue = false := settleIfDue_settled _
  rw [row]
  rw [written, checkInResult_admitted result] at moved ⊢
  generalize named : admittedEnd i a = b at own filter ops settled moved
  obtain ⟨ends, slot', filter', target', memory, frame⟩ := slot_finish moved
  refine ⟨_, congrArg Host.Outcome.next ends, ?_, ?_, ?_, settled, ?_, ?_, ?_, slot'.trans own, filter'.trans filter, memory,
    (closing_ops _).trans ops, frame⟩
  case refine_5 =>
    rw [target']
    exact congrArg Target.lastResult (setTarget_target_self _)
  case refine_6 =>
    rw [target', named]
    exact congrArg Target.phase (setTarget_target_self _)
  all_goals
    rw [named]
    rfl

/-! ### What the end of the happening shows -/

theorem settleIfDue_generation (h : Hap) : (settleIfDue h).roster.generation = h.roster.generation := by
  have same := (moves_settleIfDue h).frame .flags rfl
  simp only [Part.same, Prod.mk.injEq] at same
  exact same.2

theorem overflowRecovery_generation (h : Hap) : (overflowRecovery h).roster.generation = h.roster.generation ∧
    (overflowRecovery h).dirty = h.dirty := by
  have recovered : ∀ (p : DPort) (g : Hap), (recoverPort p g).roster.generation = g.roster.generation ∧
      (recoverPort p g).dirty = g.dirty := fun p g => by
    by_cases marked : g.roster.marker p = true
    · obtain ⟨ev, entered, drain, same, -⟩ := recoverPort_shape p g marked
      rw [same]
      cases p <;> exact ⟨rfl, rfl⟩
    · rw [show recoverPort p g = g from if_neg marked]
      exact ⟨rfl, rfl⟩
  rw [overflowRecovery_eq]
  split
  · obtain ⟨one, dirty⟩ := recovered .d1 h
    obtain ⟨two, dirty'⟩ := recovered .d2 (recoverPort .d1 h)
    exact ⟨two.trans one, dirty'.trans dirty⟩
  · exact ⟨rfl, rfl⟩

/-- A changed roster's generation advances by one (R20). -/
theorem closing_generation (dirty : h.dirty = true) : (closing h).roster.generation = h.roster.generation + 1 := by
  obtain ⟨recovered, still⟩ := overflowRecovery_generation (settleIfDue h)
  have changed := still.trans (settleIfDue_dirty dirty)
  rw [closing_behind, behindRecovery_roster]
  rw [← settleIfDue_generation h, ← recovered]
  generalize overflowRecovery (settleIfDue h) = g at changed
  have reckoned : (recomputeFlags g).dirty = true ∧ (recomputeFlags g).roster.generation = g.roster.generation := by
    unfold recomputeFlags
    split
    · exact ⟨by rw [changed]; rfl, rfl⟩
    · exact ⟨changed, rfl⟩
  rw [advanceGeneration, if_pos reckoned.1]
  exact congrArg (· + 1) reckoned.2

namespace Admits

variable {res : SlotResult} (t : Admits i res s a h)
include t

theorem entries : (closing h).roster.entries = (admittedEnd i a).roster.entries :=
  (closing_settled t.settled).2.trans (congrArg Roster.entries t.roster)

theorem localEntry (j : SlotId) : (closing h).toState.localEntry j = (admittedEnd i a).localEntry j :=
  congrArg (findEntry (localKey j)) t.entries

theorem budgetEnd : (closing h).budget = (admittedEnd i a).budget := (closing_settled t.settled).1.trans t.budget

theorem slotGrant (j : SlotId) : (closing h).toState.slotGrant j = (admittedEnd i a).slotGrant j := by
  rw [State.slotGrant, State.slotGrant, t.localEntry]

theorem keys : (closing h).roster.keys = a.roster.keys ∧ (closing h).roster.joinCounter = a.roster.joinCounter := by
  have settled := (moves_settleIfDue (admittedSlot i a)).frame .keys rfl
  simp only [Part.same, Prod.mk.injEq] at settled
  obtain ⟨keys, counter⟩ := closing_keys h
  rw [t.roster] at keys counter
  exact ⟨keys.trans settled.1, counter.trans settled.2⟩

theorem generation (dirty : a.dirty = true) : (closing h).roster.generation = a.roster.generation + 1 := by
  rw [closing_generation (t.dirty.trans (settleIfDue_dirty (h := admittedSlot i a) dirty)), t.roster]
  exact congrArg (· + 1) (settleIfDue_generation (admittedSlot i a))

theorem holds {k : EvKind} {l : Locus} (notBlocked : k ≠ .grantBlocked) (notOverflow : k ≠ .rosterOverflow) :
    (closing h).ev.localHolds k l = a.ev.localHolds k l := by
  rw [closing_holds notBlocked notOverflow, t.ev]
  exact (spares_settleIfDue notBlocked (admittedSlot i a)).holds

theorem blocked : (closing h).ev.localHolds .grantBlocked rackLocus = (admittedEnd i a).ev.localHolds .grantBlocked rackLocus := by
  rw [closing_blocked t.settled, t.ev]

end Admits

/-! ### An entry that joins an empty waiting list (R95, R96) -/

/-- A change of an entry that leaves its granted units leaves their sum. -/
theorem grantedSum_updateEntry_same {k : Key} {f : Entry → Entry} {es : List Entry}
    (same : ∀ e ∈ es, e.key = k → (f e).grantedUnits = e.grantedUnits) : grantedSum (updateEntry k f es) = grantedSum es := by
  rw [grantedSum, grantedSum, updateEntry, List.map_map]
  refine congrArg List.sum (List.map_congr_left fun e mem => ?_)
  show (if e.key = k then f e else e).grantedUnits = e.grantedUnits
  split
  · next own => exact same e mem own
  · rfl

/-- An entry that waits alone is granted where its draw units fit. -/
theorem joined_alone {e : Entry} (found : b.localEntry i = some e)
    (free : ∀ x ∈ b.roster.entries, x.key = localKey i → x.grant ≠ .granted)
    (empty : b.budget.waiting = []) (roster : a.roster = (budgetJoin i b).roster) (budget : a.budget = (budgetJoin i b).budget)
    (due : a.settleDue = true) :
    if drawUnits e.draw ≤ b.available then
      (admittedEnd i a).localEntry i = some { e with grant := .granted } ∧ (admittedEnd i a).pwrLine i = true ∧
        (admittedEnd i a).budget.waiting = []
    else
      (admittedEnd i a).localEntry i = some { e with grant := .waiting } ∧ (admittedEnd i a).pwrLine i = b.pwrLine i ∧
        (admittedEnd i a).budget.waiting = [i] ∧ (admittedEnd i a).ev.localHolds .grantBlocked rackLocus = true := by
  have written : ∀ (g : Grant) (es : List Entry) (x : Entry), findEntry (localKey i) es = some x →
      findEntry (localKey i) (updateEntry (localKey i) (fun e => { e with grant := g }) es) = some { x with grant := g } := by
    intro g es x held
    have keep : ∀ y ∈ es, y.key = localKey i → ({ y with grant := g } : Entry).key = localKey i := fun _ _ key => key
    rw [findEntry_updateEntry keep, if_pos rfl, held]
    rfl
  have joined : budgetJoin i b = { setGrant i .waiting b with
      budget := { b.budget with waiting := [i] }, settleDue := true } := by
    have out : b.budget.waiting.contains i = false := by rw [empty]; rfl
    have list : (setGrant i .waiting b).budget.waiting ++ [i] = [i] := congrArg (· ++ [i]) empty
    unfold budgetJoin
    rw [out]
    simp only [Bool.false_eq_true, if_false, list]
    rfl
  have entry : findEntry (localKey i) (setGrant i .waiting b).roster.entries = some { e with grant := .waiting } :=
    written _ _ _ found
  have sum : grantedSum (setGrant i .waiting b).roster.entries = grantedSum b.roster.entries := by
    refine grantedSum_updateEntry_same fun x mem own => ?_
    have before : x.grantedUnits = 0 := grantedUnits_of_ne fun _ => free x mem own
    have after : ({ x with grant := .waiting } : Entry).grantedUnits = 0 := grantedUnits_of_ne fun _ => nofun
    rw [before, after]
  rw [joined] at roster budget
  have due' : (admittedSlot i a).settleDue = true := due
  have goes : admittedEnd i a = settle (admittedSlot i a) := if_pos due'
  generalize listed : admittedSlot i a = x at goes due'
  have roster' : x.roster = (setGrant i .waiting b).roster := by rw [← listed]; exact roster
  have budget' : x.budget = { b.budget with waiting := [i] } := by rw [← listed]; exact budget
  have head : x.waitingHead = some (i, drawUnits e.draw) := by
    have here : x.localEntry i = some { e with grant := .waiting } := by rw [State.localEntry, roster', entry]
    simp only [State.waitingHead, budget', here, Option.map_some]
  have room : x.available = b.available := by
    rw [State.available, State.available, roster', budget', sum]
  obtain ⟨ev, entered, drain, settled, blocked⟩ := settle_shape x
  have one : x.budget.waiting.length = 1 := by rw [budget']; rfl
  rw [one] at settled blocked
  rw [goes]
  by_cases fits : drawUnits e.draw ≤ b.available
  · have loop : grantLoop 1 x = grantHead i x := by
      simp only [grantLoop, head, room, if_pos fits]
    rw [if_pos fits, settled, loop]
    refine ⟨?_, ?_, ?_⟩
    · show findEntry (localKey i) (updateEntry (localKey i) (fun e => { e with grant := .granted }) x.roster.entries) = _
      rw [roster', written _ _ _ entry]
    · show (x.budget.pwr.set i true)[i] = true
      simp
    · show x.budget.waiting.tail = []
      rw [budget']
      rfl
  · have loop : grantLoop 1 x = x := by simp only [grantLoop, head, room, if_neg fits]
    rw [loop] at settled blocked
    rw [if_neg fits, settled]
    refine ⟨?_, ?_, ?_, ?_⟩
    · show findEntry (localKey i) x.roster.entries = _
      rw [roster', entry]
    · show x.budget.pwr[i] = b.budget.pwr[i]
      rw [budget']
    · show x.budget.waiting = [i]
      rw [budget']
    · refine blocked.trans ?_
      simp only [State.blocked, head, room]
      exact decide_eq_true (Nat.lt_of_not_le fits)

end

end Sys2Proof.Machine
end

section
/-! PROOF. A check-in that finds no entry, and one that finds the slot's own entry with its serial id (R8, R9, R11; O36). -/

namespace Sys2Proof.Machine

section
variable {h a b : Hap} {i : SlotId} {r : CheckInRec} {s : State}

/-! ### Additions (R8) -/

/-- The entry that a check-in record adds. -/
def CheckInRec.entry (r : CheckInRec) (i : SlotId) (conflict : Bool) (stamp : Word32) : Entry :=
  { key := localKey i, serial := r.serial, classCode := r.classCode, revision := r.revision, draw := r.draw, caps := r.caps,
    state := if conflict then .conflict else .online, reported := none, grant := .none, joinStamp := stamp, stale := false }

theorem admitAddition_claimed (room : h.roster.entries.length < rosterCapacity)
    (taken : claimed r.serial h.roster.entries = true) : admitAddition i r h =
      (beginCond .serialConflict (slotLocus i) (raiseLatched .moduleJoined (slotLocus i) r.classCode
        (addEntry (r.entry i true 0) h)), .conflict) := by
  have notFull : ¬ h.roster.full = true := by simpa [Roster.full] using room
  unfold admitAddition
  rw [if_neg notFull]
  simp only [taken, if_true]
  rfl

theorem admitAddition_free (room : h.roster.entries.length < rosterCapacity)
    (free : claimed r.serial h.roster.entries = false) : admitAddition i r h =
      (raiseLatched .moduleJoined (slotLocus i) r.classCode (budgetJoin i (addEntry (r.entry i false 0) h)), .accepted) := by
  have notFull : ¬ h.roster.full = true := by simpa [Roster.full] using room
  unfold admitAddition
  rw [if_neg notFull]
  simp only [free, Bool.false_eq_true, if_false]
  rfl

/-- The roster of an addition. -/
theorem added_roster (absent : h.localEntry i = none) (conflict : Bool) :
    (addEntry (r.entry i conflict 0) h).localEntry i = some (r.entry i conflict h.roster.nextStamp) ∧
      (addEntry (r.entry i conflict 0) h).roster.keys = insertBy keyLt (localKey i) h.roster.keys :=
  ⟨(findEntry_addEntry h (e := r.entry i conflict 0) absent _).trans (if_pos rfl), keys_insertBy _ _⟩

theorem budgetJoin_roster (i : SlotId) (h : Hap) : (budgetJoin i h).roster.keys = h.roster.keys ∧
    (budgetJoin i h).roster.joinCounter = h.roster.joinCounter ∧ (budgetJoin i h).roster.generation = h.roster.generation ∧
    (h.dirty = true → (budgetJoin i h).dirty = true) := by
  unfold budgetJoin
  split
  · exact ⟨rfl, rfl, rfl, id⟩
  · exact ⟨keys_updateEntry fun _ _ key => key, rfl, rfl, fun _ => rfl⟩

/-- A check-in into an empty place of the roster (O36, first clause). -/
theorem checkIn_adds {record : List Byte} (state : (s.slot i).state = .enabled) (formed : checkInRecOf record = some r)
    (absent : s.localEntry i = none) (room : s.roster.entries.length < 96) (empty : s.budget.waiting = [])
    (unpinned : (s.target i).pin = none) :
    ∃ t e, exec (.checkIn i record) s = .next t ∧ t.localEntry i = some e ∧
      e.serial = r.serial ∧ e.classCode = r.classCode ∧ e.revision = r.revision ∧ e.draw = r.draw ∧ e.caps = r.caps ∧
      e.reported = none ∧ e.joinStamp = s.roster.nextStamp ∧ t.roster.joinCounter = s.roster.nextStamp ∧
      t.roster.keys = insertBy keyLt (localKey i) s.roster.keys ∧ t.roster.generation = s.roster.generation + 1 ∧
      t.slot i = { s.slot i with state := .online, timer := none } ∧ t.filter i = s.filter i ∧
      (if ∃ x ∈ s.roster.entries, x.serial = r.serial ∧ x.state ≠ .conflict then
         e.state = .conflict ∧ e.grant = .none ∧ t.budget = s.budget ∧ (t.target i).lastResult = some .conflict ∧
           (t.target i).phase = .holding ([slotResultCode .conflict, 0] ++ be16 s.desc.generation) 0 ∧
           t.ev.localHolds .serialConflict (slotLocus i) = true
       else
         e.state = .online ∧ (t.target i).lastResult = some .accepted ∧
           (t.target i).phase = .holding ([slotResultCode .accepted, grantCode e.grant] ++ be16 s.desc.generation) 0 ∧
           if 2 ^ r.draw.val ≤ s.budget.units - grantedSum s.roster.entries then
             e.grant = .granted ∧ t.pwrLine i = true ∧ t.budget.waiting = []
           else e.grant = .waiting ∧ t.pwrLine i = s.pwrLine i ∧ t.budget.waiting = [i]) ∧
      t.host.memory = s.host.memory ∧ t.ops = s.ops ∧ State.slotFrame i s t := by
  have none : (Hap.start s).localEntry i = none := absent
  have admits : admission i r (Hap.start s) = admitAddition i r (Hap.start s) := by
    simp only [admission, none]
  obtain ⟨found, keys⟩ : (addEntry (r.entry i (claimed r.serial s.roster.entries) 0) (Hap.start s)).localEntry i =
      some (r.entry i (claimed r.serial s.roster.entries) s.roster.nextStamp) ∧
      (addEntry (r.entry i (claimed r.serial s.roster.entries) 0) (Hap.start s)).roster.keys =
        insertBy keyLt (localKey i) s.roster.keys := added_roster (h := Hap.start s) none _
  cases taken : claimed r.serial s.roster.entries with
  | true =>
    rw [taken] at found keys
    have claims : ∃ x ∈ s.roster.entries, x.serial = r.serial ∧ x.state ≠ .conflict := claimed_iff.mp taken
    obtain ⟨g, row, ended⟩ := checkIn_admitted (.inl state) formed unpinned
      (admits.trans (admitAddition_claimed (h := Hap.start s) room taken)) (.inr ⟨rfl, rfl⟩)
    obtain ⟨ev, entered, drain, begun⟩ := shape_of_offEv ((beginCond_offEv (raiseLatched .moduleJoined (slotLocus i) r.classCode
      (addEntry (r.entry i true 0) (Hap.start s))) .serialConflict (slotLocus i)).trans (raiseLatched_offEv ..))
    have holds : (beginCond .serialConflict (slotLocus i) (raiseLatched .moduleJoined (slotLocus i) r.classCode
      (addEntry (r.entry i true 0) (Hap.start s)))).ev.localHolds .serialConflict (slotLocus i) = true := beginCond_holds ..
    generalize beginCond .serialConflict (slotLocus i) (raiseLatched .moduleJoined (slotLocus i) r.classCode
      (addEntry (r.entry i true 0) (Hap.start s))) = a at ended begun holds
    have still : admittedEnd i a = admittedSlot i a := settleIfDue_still (by rw [begun]; rfl)
    have entry : (admittedEnd i a).localEntry i = some (r.entry i true s.roster.nextStamp) := by
      rw [still, begun]
      exact found
    have none_held : (admittedEnd i a).slotGrant i = .none := by rw [State.slotGrant, entry]; rfl
    have phase := ended.phase
    rw [none_held] at phase
    refine ⟨_, r.entry i true s.roster.nextStamp, row, (ended.localEntry i).trans entry, rfl, rfl, rfl, rfl, rfl, rfl, rfl,
      ended.keys.2.trans (by rw [begun]; rfl), ended.keys.1.trans (by rw [begun]; exact keys),
      (ended.generation (by rw [begun]; rfl)).trans (by rw [begun]; rfl), ended.slot, ended.filter, ?_, ended.memory, ended.ops,
      ended.frame⟩
    rw [if_pos claims]
    refine ⟨rfl, rfl, ended.budgetEnd.trans ?_, ended.result, phase, (ended.holds (k := .serialConflict) nofun nofun).trans holds⟩
    rw [still, begun]
    rfl
  | false =>
    rw [taken] at found keys
    have unclaimed : ¬ ∃ x ∈ s.roster.entries, x.serial = r.serial ∧ x.state ≠ .conflict := fun c => by
      rw [claimed_iff.mpr c] at taken
      cases taken
    obtain ⟨g, row, ended⟩ := checkIn_admitted (.inl state) formed unpinned
      (admits.trans (admitAddition_free (h := Hap.start s) room taken)) (.inl ⟨rfl, rfl⟩)
    obtain ⟨ev, entered, drain, raised⟩ := shape_of_offEv (raiseLatched_offEv (budgetJoin i (addEntry (r.entry i false 0)
      (Hap.start s))) .moduleJoined (slotLocus i) r.classCode)
    generalize raiseLatched .moduleJoined (slotLocus i) r.classCode (budgetJoin i (addEntry (r.entry i false 0)
      (Hap.start s))) = a at ended raised
    have absent' : localKey i ∉ s.roster.entries.map Entry.key := findEntry_none.mp absent
    have free : ∀ x ∈ (addEntry (r.entry i false 0) (Hap.start s)).roster.entries, x.key = localKey i → x.grant ≠ .granted := by
      intro x mem own
      rcases List.mem_cons.mp ((insertBy_perm _ _ _).mem_iff.mp mem) with rfl | old
      · nofun
      · exact absurd (List.mem_map_of_mem old) (own.symm ▸ absent')
    have sum : (addEntry (r.entry i false 0) (Hap.start s)).available = s.budget.units - grantedSum s.roster.entries := by
      rw [State.available]
      show s.budget.units - grantedSum (insertBy _ (r.entry i false s.roster.nextStamp) s.roster.entries) = _
      have own : (r.entry i false s.roster.nextStamp).grantedUnits = 0 := grantedUnits_of_ne fun _ => nofun
      rw [grantedSum_insertBy, own, Nat.zero_add]
    have waits : (addEntry (r.entry i false 0) (Hap.start s)).budget.waiting = [] := empty
    obtain ⟨joinKeys, counter, generation, dirty⟩ := budgetJoin_roster i (addEntry (r.entry i false 0) (Hap.start s))
    have due : (budgetJoin i (addEntry (r.entry i false 0) (Hap.start s))).settleDue = true := by
      unfold budgetJoin
      rw [waits]
      rfl
    have alone := joined_alone found free waits (a := a) (by rw [raised]) (by rw [raised]) (by rw [raised]; exact due)
    rw [sum] at alone
    have phase := ended.phase
    have keys' := ended.keys.1.trans ((by rw [raised] : a.roster.keys = _).trans (joinKeys.trans keys))
    have counter' := ended.keys.2.trans ((by rw [raised] : a.roster.joinCounter = _).trans counter)
    have generation' := (ended.generation ((by rw [raised] : a.dirty = _).trans (dirty rfl))).trans
      (congrArg (· + 1) ((by rw [raised] : a.roster.generation = _).trans generation))
    have line : (closing g).toState.pwrLine i = (admittedEnd i a).pwrLine i := by
      rw [State.pwrLine, State.pwrLine, ended.budgetEnd]
    by_cases fits : drawUnits (r.entry i false s.roster.nextStamp).draw ≤ s.budget.units - grantedSum s.roster.entries
    · rw [if_pos fits] at alone
      obtain ⟨entry, high, list⟩ := alone
      have grant : (admittedEnd i a).slotGrant i = .granted := by rw [State.slotGrant, entry]
      rw [grant] at phase
      refine ⟨_, _, row, (ended.localEntry i).trans entry, rfl, rfl, rfl, rfl, rfl, rfl, rfl, counter', keys', generation',
        ended.slot, ended.filter, ?_, ended.memory, ended.ops, ended.frame⟩
      rw [if_neg unclaimed, if_pos (show 2 ^ r.draw.val ≤ _ from fits)]
      exact ⟨rfl, ended.result, phase, rfl, line.trans high, (congrArg Budget.waiting ended.budgetEnd).trans list⟩
    · rw [if_neg fits] at alone
      obtain ⟨entry, same, list, -⟩ := alone
      have grant : (admittedEnd i a).slotGrant i = .waiting := by rw [State.slotGrant, entry]
      rw [grant] at phase
      refine ⟨_, _, row, (ended.localEntry i).trans entry, rfl, rfl, rfl, rfl, rfl, rfl, rfl, counter', keys', generation',
        ended.slot, ended.filter, ?_, ended.memory, ended.ops, ended.frame⟩
      rw [if_neg unclaimed, if_neg (show ¬ 2 ^ r.draw.val ≤ _ from fits)]
      exact ⟨rfl, ended.result, phase, rfl, line.trans same, (congrArg Budget.waiting ended.budgetEnd).trans list⟩

end

end Sys2Proof.Machine
end

section
/-! PROOF. A check-in that finds the slot's own entry with its serial id (R9, R11; O36, second clause). -/

namespace Sys2Proof.Machine

section
variable {g a b : Hap} {i : SlotId} {r : CheckInRec} {s : State} {o : Entry}

theorem localEntry_changeEntry {f : Entry → Entry} {h : Hap} (keep : ∀ e, (f e).key = e.key) (found : h.localEntry i = some o) :
    (changeEntry (localKey i) f h).localEntry i = some (f o) := by
  have held : findEntry (localKey i) h.roster.entries = some o := found
  show findEntry (localKey i) (updateEntry (localKey i) f h.roster.entries) = _
  rw [findEntry_updateEntry fun e _ own => (keep e).trans own, if_pos rfl, held]
  rfl

theorem keys_changeEntry {f : Entry → Entry} {k : Key} (keep : ∀ e, (f e).key = e.key) (h : Hap) :
    (changeEntry k f h).roster.keys = h.roster.keys := keys_updateEntry fun e _ own => (keep e).trans own

/-- The slot's own entry is the only one with its key. -/
theorem only_local (nodup : s.roster.keys.Nodup) (found : s.localEntry i = some o) {x : Entry} (mem : x ∈ s.roster.entries)
    (own : x.key = localKey i) : x = o :=
  Option.some.inj ((findEntry_of_mem nodup mem).symm.trans (own ▸ found))

/-- What a release leaves of the budget unit. -/
theorem budgetRelease_budget {h : Hap} (found : h.localEntry i = some o) (claims : o.grant ≠ .none) :
    (budgetRelease i h).roster.entries = updateEntry (localKey i) (fun e => { e with grant := .none }) h.roster.entries ∧
      (budgetRelease i h).roster.joinCounter = h.roster.joinCounter ∧
      (budgetRelease i h).budget.units = h.budget.units ∧
      (budgetRelease i h).budget.waiting =
        (if o.grant = .granted then h.budget.waiting else h.budget.waiting.filter fun j => decide (j ≠ i)) ∧
      (budgetRelease i h).pwrLine i = if o.grant = .granted then false else h.pwrLine i := by
  unfold budgetRelease
  simp only [found]
  cases grant : o.grant with
  | none => exact absurd grant claims
  | granted =>
    refine ⟨rfl, rfl, rfl, (if_pos rfl).symm, ?_⟩
    rw [if_pos rfl]
    show (h.budget.pwr.set i false)[i] = false
    simp
  | waiting => exact ⟨rfl, rfl, rfl, (if_neg nofun).symm, (if_neg nofun).symm⟩

/-- What the budget law says of a slot's entry when nobody else waits. -/
theorem law_alone (law : s.budgetLaw) (found : s.localEntry i = some o) (others : ∀ j ∈ s.budget.waiting, j = i) :
    (o.grant ≠ .waiting → s.budget.waiting = []) ∧ (o.grant ≠ .granted → s.pwrLine i = false) ∧
      (o.state = .returning ∨ o.state = .conflict → o.grant = .none) := by
  have law := budgetLaw_iff.mp law
  have grant : grantIn s.roster.entries i = o.grant := grantIn_some found
  obtain ⟨mem, own⟩ := findEntry_some found
  refine ⟨fun free => List.eq_nil_iff_forall_not_mem.mpr fun j waits => ?_, fun low => ?_, fun state => ?_⟩
  · obtain rfl := others j waits
    exact free (grant.symm.trans ((law.waits _).mp waits))
  · rw [Bool.eq_false_iff]
    exact fun high => low (grant.symm.trans ((law.lines i).mp high))
  · exact law.low o mem (isLocal_of_key own) state.symm

/-- An admission that takes the slot's entry out of its grant and lets it wait anew. -/
structure Rejoins (i : SlotId) (new : Entry) (free : Nat) (s : State) (a b : Hap) : Prop where
  shape : ∃ ev entered drain, a = { budgetJoin i b with ev := ev, entered := entered, drainDue := drain }
  keys : b.roster.keys = s.roster.keys
  counter : b.roster.joinCounter = s.roster.joinCounter
  found : b.localEntry i = some { new with state := .online, grant := .none }
  only : ∀ x ∈ b.roster.entries, x.key = localKey i → x.grant ≠ .granted
  empty : b.budget.waiting = []
  low : b.pwrLine i = false
  room : b.available = s.budget.units - free

/-- A RETURNING entry comes back (R9). -/
theorem rejoins_return (law : s.budgetLaw) (found : s.localEntry i = some o) (others : ∀ j ∈ s.budget.waiting, j = i)
    (returning : o.state = .returning) : Rejoins i (r.refresh o) (grantedSum s.roster.entries) s
      (admitReturn i r (Hap.start s)).1
      (changeEntry (localKey i) (fun e => { r.refresh e with state := .online, grant := .none }) (Hap.start s)) := by
  obtain ⟨waits, low, free⟩ := law_alone law found others
  have none := free (.inl returning)
  have keep : ∀ e : Entry, ({ r.refresh e with state := .online, grant := .none } : Entry).key = e.key := fun _ => rfl
  refine ⟨shape_of_offEv (raiseLatched_offEv ..), keys_changeEntry keep _, rfl,
    localEntry_changeEntry (h := Hap.start s) keep found, fun x mem own => ?_, waits (by rw [none]; nofun),
    low (by rw [none]; nofun), ?_⟩
  · obtain ⟨y, held, same⟩ := List.mem_map.mp mem
    by_cases mine : y.key = localKey i
    · rw [if_pos mine] at same
      subst same
      nofun
    · rw [if_neg mine] at same
      exact absurd (same ▸ own) mine
  · refine congrArg (s.budget.units - ·) (grantedSum_updateEntry_same fun x mem own => ?_)
    obtain rfl := only_local (budgetLaw_iff.mp law).keys found mem own
    have before : x.grantedUnits = 0 := grantedUnits_of_ne fun _ => by rw [none]; nofun
    rw [before]
    exact grantedUnits_of_ne fun _ => nofun

/-- An ONLINE entry that changes its draw class gives up what it holds (R11, R100). -/
theorem rejoins_redraw (law : s.budgetLaw) (found : s.localEntry i = some o) (others : ∀ j ∈ s.budget.waiting, j = i)
    (online : o.state = .online) (claims : o.grant ≠ .none) : Rejoins i (r.refresh o)
      (grantedSum s.roster.entries - if o.grant = .granted then 2 ^ o.draw.val else 0) s
      (budgetJoin i (changeEntry (localKey i) r.refresh (budgetRelease i (Hap.start s))))
      (changeEntry (localKey i) r.refresh (budgetRelease i (Hap.start s))) := by
  obtain ⟨waits, low, -⟩ := law_alone law found others
  have nodup := (budgetLaw_iff.mp law).keys
  have keep : ∀ e : Entry, (r.refresh e).key = e.key := fun _ => rfl
  obtain ⟨entries, counter, units, waiting, line⟩ := budgetRelease_budget (h := Hap.start s) found claims
  have left : (budgetRelease i (Hap.start s)).localEntry i = some { o with grant := .none } :=
    localEntry_budgetRelease (h := Hap.start s) found
  have keys : (budgetRelease i (Hap.start s)).roster.keys = s.roster.keys :=
    (congrArg (List.map Entry.key) entries).trans (keys_updateEntry fun _ _ own => own)
  have none : ∀ x ∈ (budgetRelease i (Hap.start s)).roster.entries, x.key = localKey i → x.grant = .none := fun x mem own => by
    have same := only_local (s := (budgetRelease i (Hap.start s)).toState) (keys.symm ▸ nodup) left mem own
    rw [same]
  have released : grantedSum (budgetRelease i (Hap.start s)).roster.entries =
      grantedSum s.roster.entries - if o.grant = .granted then 2 ^ o.draw.val else 0 := by
    have whole := grantedSum_updateEntry (f := fun e => { e with grant := .none }) nodup found
    have after : ({ o with grant := .none } : Entry).grantedUnits = 0 := grantedUnits_of_ne fun _ => nofun
    have here : o.isLocal = true := isLocal_of_key (findEntry_some found).2
    have before : o.grantedUnits = if o.grant = .granted then 2 ^ o.draw.val else 0 := by
      rw [Entry.grantedUnits, here]
      simp only [Bool.true_and, decide_eq_true_eq]
      rfl
    rw [after, before] at whole
    rw [entries]
    exact Nat.eq_sub_of_add_eq whole
  refine ⟨⟨_, _, _, rfl⟩, (keys_changeEntry keep _).trans keys, counter,
    (localEntry_changeEntry keep left).trans (congrArg some ?_), fun x mem own => ?_, waiting.trans ?_, line.trans ?_, ?_⟩
  · show { r.refresh o with grant := .none } = { r.refresh o with state := .online, grant := .none }
    rw [← online]
    rfl
  · obtain ⟨y, held, same⟩ := List.mem_map.mp mem
    by_cases mine : y.key = localKey i
    · rw [if_pos mine] at same
      have free := none y held mine
      subst same
      show y.grant ≠ .granted
      rw [free]
      nofun
    · rw [if_neg mine] at same
      exact absurd (same ▸ own) mine
  · split
    · next granted => exact waits (by rw [granted]; nofun)
    · exact List.filter_eq_nil_iff.mpr fun j mem apart => of_decide_eq_true apart (others j mem)
  · split
    · rfl
    · next held => exact low held
  · show (budgetRelease i (Hap.start s)).budget.units - grantedSum (updateEntry (localKey i) r.refresh
      (budgetRelease i (Hap.start s)).roster.entries) = _
    rw [units, ← released]
    refine congrArg (s.budget.units - ·) (grantedSum_updateEntry_same fun x mem own => ?_)
    have free := none x mem own
    have before : x.grantedUnits = 0 := grantedUnits_of_ne fun _ => by rw [free]; nofun
    have after : (r.refresh x).grantedUnits = 0 := grantedUnits_of_ne fun _ => by
      show x.grant ≠ .granted
      rw [free]
      nofun
    rw [before, after]

/-- An entry that joins the empty waiting list, with the end of the happening. -/
theorem Admits.joins {new : Entry} {free : Nat} (t : Admits i .accepted s a g) (rejoins : Rejoins i new free s a b) :
    ((closing g).toState.target i).phase = .holding ([slotResultCode .accepted,
        grantCode ((closing g).toState.slotGrant i)] ++ be16 s.desc.generation) 0 ∧
      if 2 ^ new.draw.val + free ≤ s.budget.units then
        (closing g).toState.localEntry i = some { new with state := .online, grant := .granted } ∧
          (closing g).toState.pwrLine i = true ∧ (closing g).budget.waiting = []
      else
        (closing g).toState.localEntry i = some { new with state := .online, grant := .waiting } ∧
          (closing g).toState.pwrLine i = false ∧ (closing g).budget.waiting = [i] ∧
          (closing g).ev.localHolds .grantBlocked rackLocus = true := by
  obtain ⟨⟨ev, entered, drain, raised⟩, -, -, found, only, empty, low, units⟩ := rejoins
  have due : (budgetJoin i b).settleDue = true := by
    unfold budgetJoin
    rw [empty]
    rfl
  have alone := joined_alone found only empty (a := a) (by rw [raised]) (by rw [raised]) (by rw [raised]; exact due)
  have line : (closing g).toState.pwrLine i = (admittedEnd i a).pwrLine i := by
    rw [State.pwrLine, State.pwrLine, t.budgetEnd]
  have positive : 0 < 2 ^ new.draw.val := Nat.pos_of_ne_zero (by simp)
  have room : drawUnits ({ new with state := .online, grant := .none } : Entry).draw ≤ b.available ↔
      2 ^ new.draw.val + free ≤ s.budget.units := by
    show 2 ^ new.draw.val ≤ b.available ↔ _
    rw [units]
    omega
  refine ⟨?_, ?_⟩
  · rw [t.slotGrant]
    exact t.phase
  · rw [t.localEntry, line, t.blocked, show (closing g).budget.waiting = _ from congrArg Budget.waiting t.budgetEnd]
    by_cases fits : 2 ^ new.draw.val + free ≤ s.budget.units
    · rw [if_pos (room.mpr fits)] at alone
      rw [if_pos fits]
      exact alone
    · rw [if_neg (fun c => fits (room.mp c)), low] at alone
      rw [if_neg fits]
      exact alone

/-- A refresh of the slot's own entry, by its state and its draw class (O36, second clause). -/
theorem checkIn_refreshes {record : List Byte} {new : Entry} (state : (s.slot i).state = .enabled ∨ (s.slot i).state = .online)
    (formed : checkInRecOf record = some r) (found : s.localEntry i = some o) (same : o.serial = r.serial) (law : s.budgetLaw)
    (others : ∀ j ∈ s.budget.waiting, j = i) (unpinned : (s.target i).pin = none)
    (named : new = { o with classCode := r.classCode, revision := r.revision, draw := r.draw, caps := r.caps })
    (stays : o.state ≠ .leaving) :
    ∃ t, exec (.checkIn i record) s = .next t ∧
      (if o.state = .conflict then
         t.localEntry i = some new ∧ t.budget = s.budget ∧ (t.target i).lastResult = some .conflict ∧
           (t.target i).phase = .holding ([slotResultCode .conflict, grantCode o.grant] ++ be16 s.desc.generation) 0 ∧
           t.ev.localHolds .serialConflict (slotLocus i) = true
       else
         (t.target i).lastResult = some .accepted ∧
           (t.target i).phase =
             .holding ([slotResultCode .accepted, grantCode (t.slotGrant i)] ++ be16 s.desc.generation) 0 ∧
           if o.state = .online ∧ (o.draw = r.draw ∨ o.grant = .none) then
             t.localEntry i = some new ∧ t.budget = s.budget
           else if 2 ^ r.draw.val + (grantedSum s.roster.entries - if o.grant = .granted then 2 ^ o.draw.val else 0) ≤
               s.budget.units then
             t.localEntry i = some { new with state := .online, grant := .granted } ∧ t.pwrLine i = true ∧
               t.budget.waiting = []
           else
             t.localEntry i = some { new with state := .online, grant := .waiting } ∧ t.pwrLine i = false ∧
               t.budget.waiting = [i] ∧ t.ev.localHolds .grantBlocked rackLocus = true) ∧
      t.roster.keys = s.roster.keys ∧ t.roster.joinCounter = s.roster.joinCounter ∧
      t.slot i = { s.slot i with state := .online, timer := none } ∧ t.filter i = s.filter i ∧
      t.host.memory = s.host.memory ∧ t.ops = s.ops ∧ State.slotFrame i s t := by
  have nodup : s.roster.keys.Nodup := (budgetLaw_iff.mp law).keys
  have held : (Hap.start s).localEntry i = some o := found
  obtain ⟨waits, low, free⟩ := law_alone law found others
  have renew : ∀ e : Entry, (r.refresh e).key = e.key := fun _ => rfl
  have fields : r.refresh o = new := named.symm
  have refreshed : o.state ≠ .returning ∧ admission i r (Hap.start s) = admitRefresh i o r (Hap.start s) ∨
      o.state = .returning ∧ admission i r (Hap.start s) = admitReturn i r (Hap.start s) := by
    cases st : o.state with
    | leaving => exact absurd st stays
    | returning => exact .inr ⟨rfl, by simp only [admission, held, st, same, if_true]⟩
    | online => exact .inl ⟨nofun, by simp only [admission, held, st, same, if_true]⟩
    | conflict => exact .inl ⟨nofun, by simp only [admission, held, st, same, if_true]⟩
  by_cases conflict : o.state = .conflict
  · have admits : admission i r (Hap.start s) = (beginCond .serialConflict (slotLocus i)
        (changeEntry (localKey i) r.refresh (Hap.start s)), .conflict) := by
      rcases refreshed with ⟨notReturning, goes⟩ | ⟨returning, -⟩
      · rw [goes, admitRefresh, if_pos conflict]
      · rw [conflict] at returning
        cases returning
    obtain ⟨g, row, t⟩ := checkIn_admitted state formed unpinned admits (.inr ⟨rfl, rfl⟩)
    obtain ⟨ev, entered, drain, begun⟩ := shape_of_offEv (beginCond_offEv (changeEntry (localKey i) r.refresh (Hap.start s))
      .serialConflict (slotLocus i))
    have holds : (beginCond .serialConflict (slotLocus i) (changeEntry (localKey i) r.refresh
      (Hap.start s))).ev.localHolds .serialConflict (slotLocus i) = true := beginCond_holds ..
    generalize beginCond .serialConflict (slotLocus i) (changeEntry (localKey i) r.refresh (Hap.start s)) = a at t begun holds
    have still : admittedEnd i a = admittedSlot i a := settleIfDue_still (by rw [begun]; rfl)
    have entry : (admittedEnd i a).localEntry i = some new := by
      rw [still, begun, ← fields]
      exact localEntry_changeEntry renew held
    have grant : (admittedEnd i a).slotGrant i = o.grant := by rw [State.slotGrant, entry, named]
    have phase := t.phase
    rw [grant] at phase
    refine ⟨_, row, ?_, t.keys.1.trans (by rw [begun]; exact keys_changeEntry renew (Hap.start s)),
      t.keys.2.trans (by rw [begun]; rfl), t.slot, t.filter, t.memory, t.ops, t.frame⟩
    rw [if_pos conflict]
    exact ⟨(t.localEntry i).trans entry, t.budgetEnd.trans (by rw [still, begun]; rfl), t.result, phase,
      (t.holds (k := .serialConflict) nofun nofun).trans holds⟩
  by_cases plain : o.state = .online ∧ (o.draw = r.draw ∨ o.grant = .none)
  · have admits : admission i r (Hap.start s) = (changeEntry (localKey i) r.refresh (Hap.start s), .accepted) := by
      rcases refreshed with ⟨notReturning, goes⟩ | ⟨returning, -⟩
      · have unchanged : ¬ (decide (o.draw ≠ r.draw) && decide (o.grant ≠ .none)) = true := by
          rw [Bool.and_eq_true, decide_eq_true_eq, decide_eq_true_eq]
          exact fun both => plain.2.elim both.1 both.2
        rw [goes, admitRefresh, if_neg conflict, if_neg unchanged]
      · rw [plain.1] at returning
        cases returning
    obtain ⟨g, row, t⟩ := checkIn_admitted state formed unpinned admits (.inl ⟨rfl, rfl⟩)
    have still : admittedEnd i (changeEntry (localKey i) r.refresh (Hap.start s)) =
      admittedSlot i (changeEntry (localKey i) r.refresh (Hap.start s)) := settleIfDue_still rfl
    have entry : (admittedEnd i (changeEntry (localKey i) r.refresh (Hap.start s))).localEntry i = some new := by
      rw [still, ← fields]
      exact localEntry_changeEntry renew held
    refine ⟨_, row, ?_, t.keys.1.trans (keys_changeEntry renew (Hap.start s)), t.keys.2, t.slot, t.filter, t.memory, t.ops,
      t.frame⟩
    rw [if_neg conflict, if_pos plain]
    refine ⟨t.result, ?_, (t.localEntry i).trans entry, t.budgetEnd.trans (by rw [still]; rfl)⟩
    rw [t.slotGrant]
    exact t.phase
  · obtain ⟨a, b, free, admits, rejoins, sum⟩ : ∃ a b free, admission i r (Hap.start s) = (a, .accepted) ∧
        Rejoins i (r.refresh o) free s a b ∧
        free = grantedSum s.roster.entries - if o.grant = .granted then 2 ^ o.draw.val else 0 := by
      rcases refreshed with ⟨notReturning, goes⟩ | ⟨returning, goes⟩
      · have online : o.state = .online := by
          cases st : o.state with
          | online => rfl
          | conflict => exact absurd st conflict
          | leaving => exact absurd st stays
          | returning => exact absurd st notReturning
        have changes := not_or.mp (not_and.mp plain online)
        have redraws : (decide (o.draw ≠ r.draw) && decide (o.grant ≠ .none)) = true := by
          rw [Bool.and_eq_true, decide_eq_true_eq, decide_eq_true_eq]
          exact changes
        refine ⟨_, _, _, goes.trans ?_, rejoins_redraw law found others online changes.2, rfl⟩
        rw [admitRefresh, if_neg conflict, if_pos redraws]
      · have none := free (.inl returning)
        refine ⟨_, _, _, goes, rejoins_return law found others returning, ?_⟩
        rw [if_neg (by rw [none]; nofun)]
        rfl
    obtain ⟨g, row, t⟩ := checkIn_admitted state formed unpinned admits (.inl ⟨rfl, rfl⟩)
    obtain ⟨phase, granted⟩ := t.joins rejoins
    obtain ⟨⟨ev, entered, drain, raised⟩, keys, counter, -⟩ := rejoins
    obtain ⟨joinKeys, joinCounter, -, -⟩ := budgetJoin_roster i b
    refine ⟨_, row, ?_, t.keys.1.trans ((by rw [raised] : a.roster.keys = _).trans (joinKeys.trans keys)),
      t.keys.2.trans ((by rw [raised] : a.roster.joinCounter = _).trans (joinCounter.trans counter)), t.slot, t.filter, t.memory,
      t.ops, t.frame⟩
    rw [if_neg conflict, if_neg plain]
    rw [sum, fields] at granted
    have draw : new.draw = r.draw := by rw [named]
    rw [← draw]
    exact ⟨t.result, phase, granted⟩

end

end Sys2Proof.Machine
end

section
/-! PROOF. A check-in with another serial id than the slot's entry (R10, R12, R14; O36, third clause). -/

namespace Sys2Proof.Machine

section
variable {h a m : Hap} {i : SlotId} {r : CheckInRec} {s : State} {o x : Entry} {k : EvKind} {l : Locus}

/-! ### Additions, whatever the roster holds -/

/-- What an addition makes of the roster and the events. -/
structure Adds (i : SlotId) (r : CheckInRec) (m a : Hap) : Prop where
  keys : a.roster.keys = insertBy keyLt (localKey i) m.roster.keys
  own : ∃ g, a.localEntry i = some { r.entry i (claimed r.serial m.roster.entries) m.roster.nextStamp with grant := g }
  others : ∀ k, k ≠ localKey i → findEntry k a.roster.entries = findEntry k m.roster.entries
  spares : ∀ k l, k ≠ .moduleJoined → k ≠ .serialConflict ∨ l ≠ slotLocus i → Spares k l 2 m a

theorem findEntry_budgetJoin {k : Key} (other : k ≠ localKey i) (h : Hap) :
    findEntry k (budgetJoin i h).roster.entries = findEntry k h.roster.entries := by
  unfold budgetJoin
  split
  · rfl
  · show findEntry k (updateEntry (localKey i) (fun e => { e with grant := .waiting }) h.roster.entries) = _
    have keep : ∀ e ∈ h.roster.entries, e.key = localKey i → ({ e with grant := .waiting } : Entry).key = localKey i :=
      fun _ _ own => own
    rw [findEntry_updateEntry keep, if_neg other]

/-- A slot's entry that joins keeps all but its grant. -/
theorem localEntry_budgetJoin {e : Entry} (found : h.localEntry i = some e) :
    ∃ g, (budgetJoin i h).localEntry i = some { e with grant := g } ∧ (i ∉ h.budget.waiting → g = .waiting) := by
  unfold budgetJoin
  split
  · next waits => exact ⟨e.grant, found, fun out => absurd (List.contains_iff_mem.mp waits) out⟩
  · exact ⟨.waiting, localEntry_changeEntry (fun _ => rfl) found, fun _ => rfl⟩

theorem admitAddition_adds (absent : m.localEntry i = none) (room : m.roster.entries.length < rosterCapacity) :
    ∃ a out, admitAddition i r m = (a, out) ∧ Adds i r m a ∧
      out = if claimed r.serial m.roster.entries = true then .conflict else .accepted := by
  obtain ⟨found, keys⟩ := added_roster (r := r) absent (claimed r.serial m.roster.entries)
  have beside : ∀ k, k ≠ localKey i → findEntry k (addEntry (r.entry i (claimed r.serial m.roster.entries) 0) m).roster.entries =
      findEntry k m.roster.entries := fun k other => 
    (findEntry_addEntry m (e := r.entry i (claimed r.serial m.roster.entries) 0) absent k).trans (if_neg other)
  cases taken : claimed r.serial m.roster.entries with
  | true =>
    rw [taken] at found keys beside
    obtain ⟨ev, entered, drain, begun⟩ := shape_of_offEv ((beginCond_offEv (raiseLatched .moduleJoined (slotLocus i) r.classCode
      (addEntry (r.entry i true 0) m)) .serialConflict (slotLocus i)).trans (raiseLatched_offEv ..))
    have spared : ∀ k l, k ≠ .moduleJoined → k ≠ .serialConflict ∨ l ≠ slotLocus i → Spares k l 2 m (beginCond .serialConflict
        (slotLocus i) (raiseLatched .moduleJoined (slotLocus i) r.classCode (addEntry (r.entry i true 0) m))) :=
      fun k l joined apart => by
        have added : Spares k l 0 m (addEntry (r.entry i true 0) m) := spares_of_ev rfl
        exact (added.trans ((spares_raiseLatched (.inl (Ne.symm joined)) _ _).trans
          (spares_beginCond (apart.imp Ne.symm Ne.symm) _))).mono (by omega)
    refine ⟨_, _, admitAddition_claimed room taken, ⟨?_, ?_, ?_, spared⟩, (if_pos rfl).symm⟩
    · rw [begun]
      exact keys
    · rw [begun, taken]
      exact ⟨.none, found⟩
    · rw [begun]
      exact beside
  | false =>
    rw [taken] at found keys beside
    obtain ⟨ev, entered, drain, raised⟩ := shape_of_offEv (raiseLatched_offEv (budgetJoin i (addEntry (r.entry i false 0) m))
      .moduleJoined (slotLocus i) r.classCode)
    have spared : ∀ k l, k ≠ .moduleJoined → Spares k l 2 m (raiseLatched .moduleJoined (slotLocus i) r.classCode
        (budgetJoin i (addEntry (r.entry i false 0) m))) := fun k l joined => by
      have added : Spares k l 0 m (budgetJoin i (addEntry (r.entry i false 0) m)) := spares_of_ev (budgetJoin_ev ..)
      exact (added.trans (spares_raiseLatched (.inl (Ne.symm joined)) _ _)).mono (by omega)
    refine ⟨_, _, admitAddition_free room taken, ⟨?_, ?_, ?_, fun k l joined _ => spared k l joined⟩, (if_neg nofun).symm⟩
    · rw [raised]
      exact (budgetJoin_roster i _).1.trans keys
    · obtain ⟨g, joined, -⟩ := localEntry_budgetJoin found
      rw [raised, taken]
      exact ⟨g, joined⟩
    · rw [raised]
      exact fun k other => (findEntry_budgetJoin other _).trans (beside k other)

/-! ### Settling keeps entries but for their grants -/

/-- An entry's grant alone may have changed, and then to GRANTED. -/
def grantsOnly (es es' : List Entry) : Prop :=
  ∀ k e, findEntry k es = some e → ∃ g, findEntry k es' = some { e with grant := g } ∧ (g = e.grant ∨ g = .granted)

theorem grantsOnly.trans {es es' es'' : List Entry} (first : grantsOnly es es') (second : grantsOnly es' es'') :
    grantsOnly es es'' := by
  intro k e found
  obtain ⟨g, found', one⟩ := first k e found
  obtain ⟨g', found'', two⟩ := second k _ found'
  refine ⟨g', found'', ?_⟩
  rcases two with rfl | rfl
  · exact one
  · exact .inr rfl

theorem grantLoop_grantsOnly : ∀ (n : Nat) (h : Hap), grantsOnly h.roster.entries (grantLoop n h).roster.entries
  | 0, _ => fun _ e found => ⟨e.grant, found, .inl rfl⟩
  | n + 1, h => by
    unfold grantLoop
    split
    · next i u _ =>
      split
      · refine grantsOnly.trans (fun k e found => ?_) (grantLoop_grantsOnly n (grantHead i h))
        show ∃ g, findEntry k (updateEntry (localKey i) (fun e => { e with grant := .granted }) h.roster.entries) = _ ∧ _
        have keep : ∀ e ∈ h.roster.entries, e.key = localKey i → ({ e with grant := .granted } : Entry).key = localKey i :=
          fun _ _ own => own
        rw [findEntry_updateEntry keep]
        by_cases own : k = localKey i
        · rw [if_pos own, ← own, found]
          exact ⟨.granted, rfl, .inr rfl⟩
        · rw [if_neg own, found]
          exact ⟨e.grant, rfl, .inl rfl⟩
      · exact fun _ e found => ⟨e.grant, found, .inl rfl⟩
    · exact fun _ e found => ⟨e.grant, found, .inl rfl⟩

theorem settleIfDue_grantsOnly (h : Hap) : grantsOnly h.roster.entries (settleIfDue h).roster.entries := by
  unfold settleIfDue
  split
  · obtain ⟨ev, entered, drain, settled, -⟩ := settle_shape h
    rw [settled]
    exact grantLoop_grantsOnly _ h
  · exact fun _ e found => ⟨e.grant, found, .inl rfl⟩

/-! ### The earliest joined of the entries in conflict (R14) -/

theorem earliestJoined_some (c : Word32) : ∀ es : List Entry, ∀ z, earliestJoined c es = some z →
    z ∈ es ∧ ∀ y ∈ es, stampAge c y ≤ stampAge c z
  | [], _, found => by cases found
  | e :: t, z, found => by
    unfold earliestJoined at found
    split at found
    · next none =>
      cases found
      refine ⟨List.mem_cons_self, fun y mem => ?_⟩
      rcases List.mem_cons.mp mem with rfl | later
      · exact Nat.le_refl _
      · cases t with
        | nil => cases later
        | cons w t =>
          unfold earliestJoined at none
          split at none
          · cases none
          · split at none <;> cases none
    · next w some =>
      obtain ⟨held, least⟩ := earliestJoined_some c t w some
      split at found
      · next le =>
        cases found
        refine ⟨List.mem_cons_self, fun y mem => ?_⟩
        rcases List.mem_cons.mp mem with rfl | later
        · exact Nat.le_refl _
        · exact (least y later).trans le
      · next gt =>
        cases found
        refine ⟨List.mem_cons_of_mem e held, fun y mem => ?_⟩
        rcases List.mem_cons.mp mem with rfl | later
        · exact Nat.le_of_lt (Nat.lt_of_not_le gt)
        · exact least y later

theorem earliestJoined_ne_none (c : Word32) (e : Entry) (t : List Entry) : earliestJoined c (e :: t) ≠ none := by
  unfold earliestJoined
  split
  · nofun
  · split <;> nofun

/-- An entry older than every other one is the earliest joined. -/
theorem earliestJoined_eq {c : Word32} {es : List Entry} (nodup : (es.map Entry.key).Nodup) (mem : x ∈ es)
    (older : ∀ y ∈ es, y.key ≠ x.key → stampAge c y < stampAge c x) : earliestJoined c es = some x := by
  cases found : earliestJoined c es with
  | none =>
    cases es with
    | nil => cases mem
    | cons e t => exact absurd found (earliestJoined_ne_none c e t)
  | some z =>
    obtain ⟨held, most⟩ := earliestJoined_some c es z found
    have same : z.key = x.key := by
      by_contra other
      exact absurd (older z held other) (Nat.not_lt.mpr (most x mem))
    rw [List.inj_on_of_nodup_map nodup held mem same]

end

end Sys2Proof.Machine
end

section
/-! PROOF. What the removal of a replaced entry makes of the rest of the roster (R12, R14; O36, third clause). -/

namespace Sys2Proof.Machine

section
variable {h d : Hap} {i : SlotId} {s : State} {o x : Entry} {serial : Serial}

/-! ### Entries that keep their keys, their join stamps and their serial ids -/

/-- Going from one list of entries to another, each keeps its key, its join stamp and its serial id; those of one serial
id alone may change their state. -/
def Kin (serial : Serial) (es es' : List Entry) : Prop :=
  ∃ f : Entry → Entry, es' = es.map f ∧ ∀ e ∈ es, (f e).key = e.key ∧ (f e).joinStamp = e.joinStamp ∧
    (f e).serial = e.serial ∧ (e.serial ≠ serial → (f e).state = e.state)

theorem Kin.refl (serial : Serial) (es : List Entry) : Kin serial es es :=
  ⟨id, (List.map_id es).symm, fun _ _ => ⟨rfl, rfl, rfl, fun _ => rfl⟩⟩

theorem Kin.trans {es es' es'' : List Entry} (one : Kin serial es es') (two : Kin serial es' es'') : Kin serial es es'' := by
  obtain ⟨f, rfl, first⟩ := one
  obtain ⟨g, rfl, second⟩ := two
  refine ⟨g ∘ f, List.map_map, fun e mem => ?_⟩
  obtain ⟨key, stamp, same, state⟩ := first e mem
  obtain ⟨key', stamp', same', state'⟩ := second (f e) (List.mem_map_of_mem mem)
  exact ⟨key'.trans key, stamp'.trans stamp, same'.trans same, fun other => (state' (same.symm ▸ other)).trans (state other)⟩

theorem kin_updateEntry {k : Key} {f : Entry → Entry} {es : List Entry}
    (each : ∀ e ∈ es, e.key = k → (f e).key = e.key ∧ (f e).joinStamp = e.joinStamp ∧ (f e).serial = e.serial ∧
      (e.serial ≠ serial → (f e).state = e.state)) : Kin serial es (updateEntry k f es) := by
  refine ⟨fun e => if e.key = k then f e else e, rfl, fun e mem => ?_⟩
  by_cases own : e.key = k
  · simp only [own, if_true]
    exact own ▸ each e mem own
  · simp only [own, if_false]
    exact ⟨trivial, trivial, trivial, fun _ => trivial⟩

/-- What such lists agree in. -/
theorem Kin.agrees {es es' : List Entry} (kin : Kin serial es es') :
    es'.map Entry.key = es.map Entry.key ∧ es'.map Entry.joinStamp = es.map Entry.joinStamp ∧
      ∀ other, other ≠ serial → (claimed other es' = true ↔ ∃ y ∈ es, y.serial = other ∧ y.state ≠ .conflict) := by
  obtain ⟨f, rfl, each⟩ := kin
  refine ⟨?_, ?_, fun other apart => ?_⟩
  · rw [List.map_map]
    exact List.map_congr_left fun e mem => (each e mem).1
  · rw [List.map_map]
    exact List.map_congr_left fun e mem => (each e mem).2.1
  · rw [claimed_iff]
    constructor
    · rintro ⟨y, mem, same, holds⟩
      obtain ⟨e, held, rfl⟩ := List.mem_map.mp mem
      obtain ⟨-, -, serial', state⟩ := each e held
      have own : e.serial = other := serial'.symm.trans same
      exact ⟨e, held, own, state (own ▸ apart) ▸ holds⟩
    · rintro ⟨e, held, own, holds⟩
      obtain ⟨-, -, serial', state⟩ := each e held
      exact ⟨f e, List.mem_map_of_mem held, serial'.trans own, (state (own ▸ apart)).symm ▸ holds⟩

/-! ### The removal (R12) -/

theorem filter_updateEntry {k : Key} {f : Entry → Entry} {es : List Entry} (keep : ∀ e, (f e).key = e.key) :
    (updateEntry k f es).filter (fun e => decide (e.key ≠ k)) = es.filter fun e => decide (e.key ≠ k) := by
  induction es with
  | nil => rfl
  | cons e t ih =>
    have cons : updateEntry k f (e :: t) = (if e.key = k then f e else e) :: updateEntry k f t := rfl
    rw [cons]
    by_cases own : e.key = k
    · have changed : (f e).key = k := (keep e).trans own
      simp only [own, if_true, List.filter_cons, changed, ne_eq, not_true_eq_false, decide_false, Bool.false_eq_true, if_false]
      exact ih
    · simp only [own, if_false, List.filter_cons, ne_eq, not_false_eq_true, decide_true, if_true]
      exact congrArg (e :: ·) ih

/-- The roster, the slots and the waiting list without a slot's own entry. -/
structure Dropped (i : SlotId) (o : Entry) (s : State) (d : Hap) : Prop where
  entries : d.roster.entries = s.roster.entries.filter fun e => decide (e.key ≠ o.key)
  counter : d.roster.joinCounter = s.roster.joinCounter
  slots : d.slots = s.slots
  waiting : ∀ j, j ≠ i → (j ∈ d.budget.waiting ↔ j ∈ s.budget.waiting)

theorem dropped_release (found : s.localEntry i = some o) :
    Dropped i o s (dropEntry o.key (budgetRelease i (Hap.start s))) := by
  have held : (Hap.start s).localEntry i = some o := found
  obtain ⟨-, own⟩ := findEntry_some found
  have without : (updateEntry (localKey i) (fun e => { e with grant := .none }) s.roster.entries).filter
      (fun e => decide (e.key ≠ o.key)) = s.roster.entries.filter fun e => decide (e.key ≠ o.key) := by
    rw [own]
    exact filter_updateEntry fun _ => rfl
  unfold budgetRelease
  rw [held]
  cases grant : o.grant with
  | none =>
    simp only [grant]
    exact ⟨rfl, rfl, rfl, fun _ _ => Iff.rfl⟩
  | granted =>
    simp only [grant]
    exact ⟨without, rfl, rfl, fun _ _ => Iff.rfl⟩
  | waiting =>
    simp only [grant]
    refine ⟨without, rfl, rfl, fun j other => ?_⟩
    show j ∈ s.budget.waiting.filter (fun j => decide (j ≠ i)) ↔ _
    rw [List.mem_filter, and_iff_left (decide_eq_true other)]

theorem localRemove_found (cause : Cause) (found : s.localEntry i = some o) : localRemove i cause (Hap.start s) =
    afterRemoval o (raiseLatched .moduleLeft (keyLocus o.key) (detailOf (causeCode cause))
      (dropEntry o.key (budgetRelease i (Hap.start s)))) := by
  have held : (Hap.start s).localEntry i = some o := found
  simp only [localRemove, held]

/-! ### Promotion (R14) -/

theorem kin_budgetJoin (serial : Serial) (j : SlotId) (h : Hap) : Kin serial h.roster.entries (budgetJoin j h).roster.entries := by
  unfold budgetJoin
  split
  · exact .refl ..
  · exact kin_updateEntry fun _ _ _ => ⟨rfl, rfl, rfl, fun _ => rfl⟩

/-- A promotion touches no entry of another serial id. -/
theorem kin_promote (nodup : h.roster.keys.Nodup) (serial : Serial) :
    Kin serial h.roster.entries (promote serial h).roster.entries := by
  have ended : ∀ (k : EvKind) (l : Locus) (g : Hap), (endCond k l g).roster.entries = g.roster.entries := fun k l g => by
    obtain ⟨ev, entered, drain, same⟩ := shape_of_offEv (endCond_offEv (h := g) k l)
    rw [same]
  unfold promote
  split
  · exact .refl ..
  · next e found =>
    obtain ⟨mem, both⟩ := List.mem_filter.mp (earliestJoined_some _ _ _ found).1
    rw [Bool.and_eq_true, decide_eq_true_eq] at both
    have own : ∀ y ∈ h.roster.entries, y.key = e.key → ¬ y.serial ≠ serial := fun y held key other => by
      rw [List.inj_on_of_nodup_map nodup held mem key] at other
      exact other both.2
    unfold promoteEntry
    split
    · rw [ended]
      exact kin_updateEntry fun y held key => ⟨rfl, rfl, rfl, fun other => absurd other (own y held key)⟩
    · split
      · rw [ended]
        have changed : Kin serial h.roster.entries (changeEntry e.key (fun x => { x with state := .online, grant := .none })
            h).roster.entries := kin_updateEntry fun y held key => ⟨rfl, rfl, rfl, fun other => absurd other (own y held key)⟩
        exact changed.trans (kin_budgetJoin ..)
      · rw [ended]
        exact kin_updateEntry fun y held key => ⟨rfl, rfl, rfl, fun other => absurd other (own y held key)⟩
      · rw [ended]
        exact kin_updateEntry fun y held key => ⟨rfl, rfl, rfl, fun other => absurd other (own y held key)⟩
      · rw [ended]
        exact kin_updateEntry fun y held key => ⟨rfl, rfl, rfl, fun other => absurd other (own y held key)⟩
      all_goals exact .refl ..

theorem kin_afterRemoval (nodup : h.roster.keys.Nodup) (o : Entry) :
    Kin o.serial h.roster.entries (afterRemoval o h).roster.entries := by
  have roster : (if o.inConflict then endCond .serialConflict (keyLocus o.key) h else h).roster = h.roster := by
    split
    · obtain ⟨ev, entered, drain, same⟩ := shape_of_offEv (endCond_offEv (h := h) .serialConflict (keyLocus o.key))
      rw [same]
    · rfl
  unfold afterRemoval
  simp only
  split
  · have kin := kin_promote (h := if o.inConflict then endCond .serialConflict (keyLocus o.key) h else h)
      (by rw [roster]; exact nodup) o.serial
    rwa [roster] at kin
  · rw [roster]
    exact .refl ..

/-- The earliest joined entry in conflict with a holder that has gone takes its place, and its SERIAL_CONFLICT ends. -/
theorem afterRemoval_promotes (holds : o.state ≠ .conflict) (nodup : d.roster.keys.Nodup) (mem : x ∈ d.roster.entries)
    (same : x.serial = o.serial) (conflict : x.inConflict = true)
    (older : ∀ y ∈ d.roster.entries, y.key ≠ x.key → y.serial = o.serial → y.inConflict = true →
      stampAge d.roster.joinCounter y < stampAge d.roster.joinCounter x)
    (ready : x.reported ≠ none ∨ x.reported = none ∧ x.key = localKey x.key.slot ∧ (d.slot x.key.slot).state = .online ∧
      x.key.slot ∉ d.budget.waiting) :
    (afterRemoval o d).ev.localHolds .serialConflict (keyLocus x.key) = false ∧
      ∃ y, findEntry x.key (afterRemoval o d).roster.entries = some y ∧ y.state = x.reported.getD .online ∧
        (x.reported = none → y.grant = .waiting) := by
  have plain : o.inConflict = false := by simp [Entry.inConflict, holds]
  have earliest : earliestJoined d.roster.joinCounter (d.roster.entries.filter fun e => e.inConflict && decide (e.serial = o.serial)) =
      some x := by
    refine earliestJoined_eq (List.Nodup.sublist (List.filter_sublist.map _) nodup)
      (List.mem_filter.mpr ⟨mem, by simp [conflict, same]⟩) fun y held other => ?_
    obtain ⟨held, both⟩ := List.mem_filter.mp held
    rw [Bool.and_eq_true, decide_eq_true_eq] at both
    exact older y held other both.2 both.1
  have promoted : afterRemoval o d = promoteEntry x d := by
    simp only [afterRemoval, plain, Bool.false_eq_true, if_false, isHolder_iff.mpr holds, if_true, promote, earliest]
  have ended : ∀ g : Hap, (endCond .serialConflict (keyLocus x.key) g).roster = g.roster := fun g => by
    obtain ⟨ev, entered, drain, shape⟩ := shape_of_offEv (endCond_offEv (h := g) .serialConflict (keyLocus x.key))
    rw [shape]
  have found : findEntry x.key d.roster.entries = some x := findEntry_of_mem nodup mem
  rw [promoted]
  unfold promoteEntry
  cases reported : x.reported with
  | some st =>
    refine ⟨endCond_not_holds .., ?_⟩
    rw [ended]
    have keep : ∀ e ∈ d.roster.entries, e.key = x.key → ({ e with state := st } : Entry).key = x.key := fun _ _ own => own
    refine ⟨{ x with state := st }, ?_, rfl, nofun⟩
    show findEntry x.key (updateEntry x.key (fun e => { e with state := st }) d.roster.entries) = _
    rw [findEntry_updateEntry keep, if_pos rfl, found]
    rfl
  | none =>
    obtain off | ⟨-, own, online, out⟩ := ready
    · exact absurd reported off
    simp only [online]
    refine ⟨endCond_not_holds .., ?_⟩
    rw [ended]
    have keep : ∀ e ∈ d.roster.entries, e.key = x.key → ({ e with state := .online, grant := .none } : Entry).key = x.key :=
      fun _ _ own => own
    have changed : (changeEntry x.key (fun e => { e with state := .online, grant := .none }) d).localEntry x.key.slot =
        some { x with state := .online, grant := .none } := by
      show findEntry (localKey x.key.slot) (updateEntry x.key (fun e => { e with state := .online, grant := .none })
        d.roster.entries) = _
      rw [← own, findEntry_updateEntry keep, if_pos rfl, found]
      rfl
    obtain ⟨g, joined, waits⟩ := localEntry_budgetJoin changed
    refine ⟨{ x with state := .online, grant := g }, ?_, rfl, fun _ => waits out⟩
    exact (congrArg (findEntry · _) own).trans joined

end

end Sys2Proof.Machine
end

section
/-! PROOF. A check-in in the place of another module (R10, R12, R14), and CHECK-IN admitted as a whole (O36). -/

namespace Sys2Proof.Machine

section
variable {i : SlotId} {r : CheckInRec} {s : State} {o x : Entry} {pr : Fin 4}

/-- Without the slot's own entry there is room for another. -/
theorem room_without {es : List Entry} (mem : o ∈ es) (few : es.length ≤ 96) :
    (es.filter fun e => decide (e.key ≠ o.key)).length < 96 := by
  have shorter : (es.filter fun e => decide (e.key ≠ o.key)).length < es.length :=
    List.length_filter_lt_length_iff_exists.mpr ⟨o, mem, by simp⟩
  omega

theorem keyLocus_ne {k : Key} (other : k ≠ localKey i) : keyLocus k ≠ slotLocus i := by
  intro same
  simp only [keyLocus, slotLocus, Locus.mk.injEq, Nat.add_right_cancel_iff, and_true] at same
  refine other ?_
  obtain ⟨path, slot⟩ := k
  exact congrArg₂ Key.mk same.1 (Fin.ext same.2)

/-! ### The removal of the replaced entry -/

/-- The slot's entry is taken out, and what the raised MODULE_LEFT leaves alone. -/
theorem replaced_dropped (found : s.localEntry i = some o) : ∃ d, localRemove i .replaced (Hap.start s) = afterRemoval o d ∧
    Dropped i o s d ∧ ∃ c : Hap, d = raise (latchedOcc .moduleLeft (slotLocus i) 5) c ∧ c.ev = s.ev := by
  obtain ⟨entries, counter, slots, waiting⟩ := dropped_release found
  obtain ⟨ev, entered, drain, raised⟩ := shape_of_offEv (raiseLatched_offEv (dropEntry o.key (budgetRelease i (Hap.start s)))
    .moduleLeft (keyLocus o.key) (detailOf (causeCode .replaced)))
  have locus : keyLocus o.key = slotLocus i := by rw [(findEntry_some found).2]; rfl
  refine ⟨_, localRemove_found .replaced found, ?_, dropEntry o.key (budgetRelease i (Hap.start s)), ?_,
    budgetRelease_ev i (Hap.start s)⟩
  · rw [raised]
    exact ⟨entries, counter, slots, waiting⟩
  · rw [locus]
    rfl

theorem dropped_nodup (nodup : s.roster.keys.Nodup) {d : Hap} (dropped : Dropped i o s d) : d.roster.keys.Nodup := by
  rw [Roster.keys, dropped.entries]
  exact nodup.sublist (List.filter_sublist.map _)

/-- The other entries stay, but that one of the removed entry's serial id may be promoted. -/
theorem kin_replaced (nodup : s.roster.keys.Nodup) (found : s.localEntry i = some o) :
    Kin o.serial (s.roster.entries.filter fun e => decide (e.key ≠ o.key)) (localRemove i .replaced (Hap.start s)).roster.entries ∧
      (localRemove i .replaced (Hap.start s)).roster.joinCounter = s.roster.joinCounter := by
  obtain ⟨d, removed, dropped, -⟩ := replaced_dropped found
  have kin := kin_afterRemoval (dropped_nodup nodup dropped) o
  have same := (moves_afterRemoval d o).frame .keys rfl
  simp only [Part.same, Prod.mk.injEq] at same
  rw [removed]
  exact ⟨dropped.entries ▸ kin, same.2.trans dropped.counter⟩

/-- MODULE_LEFT stands behind whatever spares it. -/
theorem replaced_left {h : Hap} {n : Nat} (found : s.localEntry i = some o)
    (takes : s.ev.takesNew pr .moduleLeft (slotLocus i))
    (spares : Spares .moduleLeft (slotLocus i) n (localRemove i .replaced (Hap.start s)) h) (room : s.ev.queue.length + 1 + n ≤ 32) :
    ∃ y ∈ h.ev.queue, y.kind = .moduleLeft ∧ y.locus = slotLocus i ∧ y.detail = 5 ∧ y.priority = pr := by
  obtain ⟨d, removed, -, c, raised, ev⟩ := replaced_dropped found
  have whole : Spares .moduleLeft (slotLocus i) (0 + n) d h :=
    Spares.trans (removed ▸ spares_afterRemoval (k := .moduleLeft) nofun o d) spares
  rw [raised] at whole
  obtain ⟨y, mem, kind, locus, -, priority, detail⟩ := raise_spared (o := latchedOcc .moduleLeft (slotLocus i) 5)
    (by rw [ev]; exact takes) whole (by rw [ev]; omega)
  exact ⟨y, mem, kind, locus, detail, priority⟩

/-- The earliest joined of the entries in conflict with the removed holder is promoted. -/
theorem replaced_promotes (law : s.budgetLaw) (found : s.localEntry i = some o) (holds : o.state ≠ .conflict)
    (mem : x ∈ s.roster.entries) (other : x.key ≠ o.key) (same : x.serial = o.serial) (conflict : x.inConflict = true)
    (older : ∀ y ∈ s.roster.entries, y.key ≠ o.key → y.key ≠ x.key → y.serial = o.serial → y.inConflict = true →
      stampAge s.roster.joinCounter y < stampAge s.roster.joinCounter x)
    (ready : x.reported ≠ none ∨ (s.slot x.key.slot).state = .online) :
    (localRemove i .replaced (Hap.start s)).ev.localHolds .serialConflict (keyLocus x.key) = false ∧
      ∃ y, findEntry x.key (localRemove i .replaced (Hap.start s)).roster.entries = some y ∧
        y.state = x.reported.getD .online ∧ (x.reported = none → y.grant = .waiting) := by
  have laws := budgetLaw_iff.mp law
  obtain ⟨d, removed, dropped, -⟩ := replaced_dropped found
  have kept : ∀ y, y ∈ d.roster.entries ↔ y ∈ s.roster.entries ∧ y.key ≠ o.key := fun y => by
    rw [dropped.entries, List.mem_filter, decide_eq_true_eq]
  rw [removed]
  refine afterRemoval_promotes holds (dropped_nodup laws.keys dropped) ((kept x).mpr ⟨mem, other⟩) same conflict
    (fun y held apart serial inConflict => ?_) ?_
  · obtain ⟨held, left⟩ := (kept y).mp held
    rw [dropped.counter]
    exact older y held left apart serial inConflict
  · cases reported : x.reported with
    | some st => exact .inl nofun
    | none =>
      obtain off | online := ready
      · exact absurd reported off
      have here : x.isLocal = true := (laws.locals x mem).mpr reported
      have own : x.key = localKey x.key.slot := by
        have path : x.key.path = [] := List.isEmpty_iff.mp here
        exact congrArg (Key.mk · x.key.slot) path
      have state : x.state = .conflict := by
        simp only [Entry.inConflict, reported, Bool.and_true, decide_eq_true_eq] at conflict
        exact conflict
      have grant : grantIn s.roster.entries x.key.slot = x.grant := grantIn_some (own ▸ findEntry_of_mem laws.keys mem)
      have none := laws.low x mem here (.inl state)
      have apart : x.key.slot ≠ i := fun eq => other (by rw [own, eq, (findEntry_some found).2])
      refine .inr ⟨rfl, own, ?_, fun waits => ?_⟩
      · rw [State.slot, dropped.slots]
        exact online
      · have waits := (laws.waits _).mp ((dropped.waiting _ apart).mp waits)
        rw [grant, none] at waits
        cases waits

/-- A check-in in the place of another module (O36, third clause). -/
theorem checkIn_replaces {record : List Byte} (state : (s.slot i).state = .enabled ∨ (s.slot i).state = .online)
    (formed : checkInRecOf record = some r) (found : s.localEntry i = some o) (differs : o.serial ≠ r.serial)
    (stays : o.state ≠ .leaving) (law : s.budgetLaw) (few : s.roster.entries.length ≤ 96) (unpinned : (s.target i).pin = none) :
    ∃ t e, exec (.checkIn i record) s = .next t ∧ t.localEntry i = some e ∧ r.fills e ∧
      e.joinStamp = ({ s.roster with entries := s.roster.entries.filter fun y => decide (y.key ≠ o.key) }).nextStamp ∧
      t.roster.keys = insertBy keyLt (localKey i) (s.roster.keys.filter fun k => decide (k ≠ localKey i)) ∧
      e.state = (if ∃ y ∈ s.roster.entries, y.key ≠ o.key ∧ y.serial = r.serial ∧ y.state ≠ .conflict then .conflict
                 else .online) ∧
      (t.target i).lastResult = some (if e.state = .conflict then .conflict else .accepted) ∧
      t.slot i = { s.slot i with state := .online, timer := none } ∧
      (s.ev.takesNew pr .moduleLeft (slotLocus i) → s.ev.queue.length + 6 ≤ 32 →
        ∃ y ∈ t.ev.queue, y.kind = .moduleLeft ∧ y.locus = slotLocus i ∧ y.detail = 5 ∧ y.priority = pr) ∧
      (o.state ≠ .conflict → x ∈ s.roster.entries → x.key ≠ o.key → x.serial = o.serial → x.inConflict = true →
        (∀ y ∈ s.roster.entries, y.key ≠ o.key → y.key ≠ x.key → y.serial = o.serial → y.inConflict = true →
          (s.roster.joinCounter - y.joinStamp).toNat < (s.roster.joinCounter - x.joinStamp).toNat) →
        x.reported ≠ none ∨ (s.slot x.key.slot).state = .online →
        t.ev.localHolds .serialConflict (keyLocus x.key) = false ∧
          ∃ y, findEntry x.key t.roster.entries = some y ∧ y.state = x.reported.getD .online ∧
            (x.reported = none → y.grant ≠ .none)) ∧
      t.host.memory = s.host.memory ∧ t.ops = s.ops ∧ State.slotFrame i s t := by
  have laws := budgetLaw_iff.mp law
  have held : (Hap.start s).localEntry i = some o := found
  obtain ⟨member, own⟩ := findEntry_some found
  have admits : admission i r (Hap.start s) = admitAddition i r (localRemove i .replaced (Hap.start s)) := by
    cases st : o.state with
    | leaving => exact absurd st stays
    | returning => simp only [admission, held, st, differs, if_false]
    | online => simp only [admission, held, st, differs, if_false]
    | conflict => simp only [admission, held, st, differs, if_false]
  -- the removal
  have gone : (localRemove i .replaced (Hap.start s)).localEntry i = none := localEntry_localRemove _ .replaced
  have keys : (localRemove i .replaced (Hap.start s)).roster.keys = s.roster.keys.filter fun k => decide (k ≠ localKey i) :=
    keys_localRemove _ .replaced
  obtain ⟨kin, counter⟩ := kin_replaced laws.keys found
  obtain ⟨sameKeys, stamps, claims⟩ := kin.agrees
  have left : ∀ (n : Nat) (h : Hap), Spares .moduleLeft (slotLocus i) n (localRemove i .replaced (Hap.start s)) h → _ → _ → _ :=
    fun n h spares takes => replaced_left (pr := pr) found takes spares
  have promotes := replaced_promotes (x := x) law found
  generalize localRemove i .replaced (Hap.start s) = m at admits gone keys counter kin sameKeys stamps claims left promotes
  have room : m.roster.entries.length < rosterCapacity := by
    have length := congrArg List.length sameKeys
    rw [List.length_map, List.length_map] at length
    rw [length]
    exact room_without member few
  have stamp : m.roster.nextStamp =
      ({ s.roster with entries := s.roster.entries.filter fun y => decide (y.key ≠ o.key) }).nextStamp := by
    rw [Roster.nextStamp, Roster.nextStamp, stamps, counter]
  have taken : claimed r.serial m.roster.entries = true ↔
      ∃ y ∈ s.roster.entries, y.key ≠ o.key ∧ y.serial = r.serial ∧ y.state ≠ .conflict := by
    rw [claims _ (Ne.symm differs)]
    simp only [List.mem_filter, decide_eq_true_eq, and_assoc]
  -- the addition
  obtain ⟨a, out, adds, added, result⟩ := admitAddition_adds (r := r) gone room
  obtain ⟨g, entry⟩ := added.own
  obtain ⟨h, row, t⟩ := checkIn_admitted (res := if claimed r.serial m.roster.entries = true then .conflict else .accepted)
    state formed unpinned (admits.trans adds) (by rw [result]; split <;> simp)
  have settled := settleIfDue_grantsOnly (admittedSlot i a)
  obtain ⟨g', entry', -⟩ := settled _ _ entry
  refine ⟨_, _, row, (t.localEntry i).trans entry', ⟨rfl, rfl, rfl, rfl, rfl⟩, stamp, ?_, ?_, ?_, t.slot, fun takes length => ?_,
    fun holds mem other same conflict older ready => ?_, t.memory, t.ops, t.frame⟩
  · rw [t.keys.1, added.keys, keys]
  · by_cases claim : claimed r.serial m.roster.entries = true
    · rw [if_pos (taken.mp claim)]
      simp only [CheckInRec.entry, claim, if_true]
    · rw [if_neg fun c => claim (taken.mpr c)]
      simp only [CheckInRec.entry, Bool.eq_false_iff.mpr claim, Bool.false_eq_true, if_false]
  · rw [t.result]
    cases claim : claimed r.serial m.roster.entries with
    | true => rfl
    | false => rfl
  · have joined := added.spares .moduleLeft (slotLocus i) nofun (.inl nofun)
    have granted : Spares .moduleLeft (slotLocus i) 1 a h :=
      ((spares_of_ev (h := a) (h' := admittedSlot i a) rfl).trans ((spares_settleIfDue (k := .moduleLeft) nofun (admittedSlot i a)).trans
        (spares_of_ev t.ev))).mono (by omega)
    have closed := spares_closing (k := .moduleLeft) (l := slotLocus i) nofun nofun h
    have ends : Spares .moduleLeft (slotLocus i) 5 m (closing h) := by
      refine (joined.trans (granted.trans closed)).mono ?_
      split <;> omega
    exact left 5 _ ends takes (by omega)
  · obtain ⟨ended, y, foundY, stateY, waits⟩ := promotes holds mem other same conflict older ready
    have apart : x.key ≠ localKey i := own ▸ other
    obtain ⟨gy, foundY', grants⟩ := settled _ _ ((added.others _ apart).trans foundY)
    refine ⟨?_, _, (congrArg (findEntry x.key) t.entries).trans foundY', stateY, fun free => ?_⟩
    · rw [t.holds (k := .serialConflict) nofun nofun, (added.spares .serialConflict _ nofun (.inr (keyLocus_ne apart))).holds]
      exact ended
    · show gy ≠ .none
      rcases grants with rfl | rfl
      · rw [waits free]
        nofun
      · nofun

end

/-- Settles O36. -/
theorem checkInAddsAnEntry : Obligations.CheckInAddsAnEntry := by
  unfold Obligations.CheckInAddsAnEntry
  exact ⟨fun _ _ _ _ state formed absent room empty unpinned => checkIn_adds state formed absent room empty unpinned,
    fun _ _ _ _ _ _ state formed found same law others unpinned named stays =>
      checkIn_refreshes state formed found same law others unpinned named stays,
    fun _ _ _ _ _ _ _ state formed found differs stays law few unpinned =>
      checkIn_replaces state formed found differs stays law few unpinned⟩

end Sys2Proof.Machine
end

section
/-! PROOF. The whole copy that a SWITCH publishes (R82, R85; O9). -/

namespace Sys2Proof.Machine

section
variable {m : Memory} {gen : Word16} {pages page offset : Nat} {c : Commit} {d : Desc}

theorem getD_map_range (f : Nat → Word16) (below : page < 8) : ((List.range 8).map f).getD page 0 = f page := by
  have here : page < ((List.range 8).map f).length := by rwa [List.length_map, List.length_range]
  rw [List.getD_eq_getElem _ _ here, List.getElem_map, List.getElem_range]

/-- A byte of the copy, told by its page and its place in it. -/
theorem read_copyImage (below : page < 8) (inside : offset < 128) : (copyImage m gen pages).read (pageAddr page offset) =
    if page < pages ∨ page = 0 then
      if offset < 126 then copyByte m gen page offset
      else if offset = 126 then (pageCrc m gen page).extractLsb' 8 8
      else (pageCrc m gen page).extractLsb' 0 8
    else 0xFF := by
  have size : pageAddr page offset < copySize := by
    unfold pageAddr copySize
    omega
  have place : (128 * page + offset) / 128 = page ∧ (128 * page + offset) % 128 = offset := by omega
  rw [copyImage, Memory.read_build _ size]
  simp only [imageByte, pageAddr, place.1, place.2, getD_map_range _ below, Bool.or_eq_true, decide_eq_true_eq]

/-- A page's bytes before its CRC. -/
theorem read_copyImage_data (below : page < 8) (held : page < pages ∨ page = 0) (data : offset < 126) :
    (copyImage m gen pages).read (pageAddr page offset) =
      if page = 0 ∧ offset = 0 then gen.extractLsb' 8 8
      else if page = 0 ∧ offset = 1 then gen.extractLsb' 0 8
      else m.read (pageAddr page offset) := by
  rw [read_copyImage below (by omega), if_pos held, if_pos data]
  simp only [copyByte, Bool.and_eq_true, decide_eq_true_eq]

/-- A page's CRC is that of its bytes. -/
theorem readAll_copyImage_crc (below : page < 8) (held : page < pages ∨ page = 0) :
    (copyImage m gen pages).readAll (pageAddr page 126) 2 =
      be16 (crc16 ((copyImage m gen pages).readAll (pageAddr page 0) 126)) := by
  have data : (copyImage m gen pages).readAll (pageAddr page 0) 126 = (List.range 126).map (copyByte m gen page) := by
    refine List.map_congr_left fun k mem => ?_
    have small : k < 126 := List.mem_range.mp mem
    have place : pageAddr page 0 + k = pageAddr page k := rfl
    rw [place, read_copyImage below (by omega), if_pos held, if_pos small]
  have high := read_copyImage (m := m) (gen := gen) (pages := pages) below (show 126 < 128 by omega)
  have low := read_copyImage (m := m) (gen := gen) (pages := pages) below (show 127 < 128 by omega)
  rw [if_pos held] at high low
  rw [data]
  show [(copyImage m gen pages).read (pageAddr page 126), (copyImage m gen pages).read (pageAddr page 127)] = _
  rw [high, low]
  rfl

theorem read_copyImage_beyond (below : page < 8) (beyond : pages ≤ page) (notFirst : page ≠ 0) (inside : offset < 128) :
    (copyImage m gen pages).read (pageAddr page offset) = 0xFF := by
  rw [read_copyImage below inside, if_neg (by omega)]

/-! ### The store with the copy published -/

theorem publish_live (c : Commit) (d : Desc) : (publish c d).live = c.target ∧ (publish c d).staging = d.staging ∧
    (publish c d).commit = d.commit ∧ (publish c d).bank c.target = copyImage d.staging c.newGen (headerPages d.staging) ∧
    (publish c d).bank c.target.other = d.bank c.target.other := by
  cases target : c.target <;> simp [publish, target, Desc.setBank, Desc.bank, Bank.other]

/-- The page count of the published bank is staging's. -/
theorem publish_pages (c : Commit) (d : Desc) : (publish c d).pages = headerPages d.staging := by
  obtain ⟨live, -, -, bank, -⟩ := publish_live c d
  have byte := read_copyImage_data (m := d.staging) (gen := c.newGen) (pages := headerPages d.staging) (page := 0)
    (offset := 2) (by omega) (.inr rfl) (by omega)
  rw [Desc.pages, Desc.liveBank, live, bank]
  exact congrArg BitVec.toNat byte

end

end Sys2Proof.Machine
end

section
/-! PROOF. What one slot's evaluation, and one slot's pulse, leave of the other slots and of the commit (R85 to R88; O9). -/

namespace Sys2Proof.Machine

section
variable {h h' h'' : Hap} {i j : SlotId} {k : Key} {o : Entry} {c : Commit}

/-! ### The other entries of the roster -/

/-- An entry that is not in conflict stays where another one's removal promotes. -/
theorem findEntry_afterRemoval (e : Entry) (nodup : h.roster.keys.Nodup)
    (locals : ∀ y ∈ h.roster.entries, y.reported = none → y.isLocal = true)
    (found : findEntry k h.roster.entries = some o) (calm : o.state ≠ .conflict) :
    findEntry k (afterRemoval e h).roster.entries = some o := by
  have ended : ∀ (k : EvKind) (l : Locus) (g : Hap), (endCond k l g).roster.entries = g.roster.entries := fun k l g => by
    obtain ⟨ev, entered, drain, same⟩ := shape_of_offEv (endCond_offEv (h := g) k l)
    rw [same]
  have promoted : ∀ g : Hap, g.roster.entries = h.roster.entries → findEntry k (promote e.serial g).roster.entries = some o :=
    fun g same => by
      rw [← same] at found locals
      unfold promote
      split
      · exact found
      · next x earliest =>
        obtain ⟨mem, both⟩ := List.mem_filter.mp (earliestJoined_some _ _ _ earliest).1
        have conflict : x.inConflict = true := (Bool.and_eq_true _ _ ▸ both).1
        have apart : k ≠ x.key := fun own => calm (by
          have keys : (g.roster.entries.map Entry.key).Nodup := by rw [same]; exact nodup
          rw [own, findEntry_of_mem keys mem] at found
          cases found
          exact inConflict_state conflict)
        have changed : ∀ f : Entry → Entry, (∀ y, (f y).key = y.key) →
            findEntry k (updateEntry x.key f g.roster.entries) = some o := fun f keep => by
          rw [findEntry_updateEntry fun y _ own => (keep y).trans own, if_neg apart, found]
        unfold promoteEntry
        split
        · rw [ended]
          exact changed _ fun _ => rfl
        · next reported =>
          have own : x.key = localKey x.key.slot := isLocal_iff.mp (locals x mem reported)
          split
          · rw [ended, findEntry_budgetJoin (own ▸ apart)]
            exact changed _ fun _ => rfl
          · rw [ended]
            exact changed _ fun _ => rfl
          · rw [ended]
            exact changed _ fun _ => rfl
          · rw [ended]
            exact changed _ fun _ => rfl
          all_goals exact found
  unfold afterRemoval
  simp only
  split
  · refine promoted _ ?_
    split
    · exact ended ..
    · rfl
  · split
    · rw [ended]
      exact found
    · exact found

/-- Going from one happening to another on account of slot `j`, no entry is added, and of the others those not in conflict
stay. -/
structure Passes (j : SlotId) (h h' : Hap) : Prop where
  keys : ∀ k ∈ h'.roster.keys, k ∈ h.roster.keys
  entry : h.toState.budgetLaw → ∀ k o, k ≠ localKey j → o.state ≠ .conflict →
    findEntry k h.roster.entries = some o → findEntry k h'.roster.entries = some o
  law : h.toState.budgetLaw → h'.toState.budgetLaw

theorem Passes.trans (a : Passes j h h') (b : Passes j h' h'') : Passes j h h'' :=
  ⟨fun k mem => a.keys k (b.keys k mem),
    fun law k o apart calm found => b.entry (a.law law) k o apart calm (a.entry law k o apart calm found), b.law ∘ a.law⟩

theorem passes_of_roster {L : Part → Bool} (m : Moves L h h') (same : h'.roster.entries = h.roster.entries) : Passes j h h' :=
  ⟨fun k mem => by rwa [Roster.keys, same] at mem, fun _ _ _ _ _ found => by rwa [same], m.law⟩

theorem findEntry_budgetRelease (apart : k ≠ localKey j) (h : Hap) :
    findEntry k (budgetRelease j h).roster.entries = findEntry k h.roster.entries := by
  have written : findEntry k (updateEntry (localKey j) (fun e => { e with grant := .none }) h.roster.entries) =
      findEntry k h.roster.entries := by
    have keep : ∀ e ∈ h.roster.entries, e.key = localKey j → ({ e with grant := .none } : Entry).key = localKey j :=
      fun _ _ own => own
    rw [findEntry_updateEntry keep, if_neg apart]
  unfold budgetRelease
  split
  · rfl
  · split
    · rfl
    · exact written
    · exact written

theorem passes_budgetRelease (j : SlotId) (h : Hap) : Passes j h (budgetRelease j h) :=
  ⟨fun k mem => by rwa [keys_of_calm (moves_budgetRelease _)] at mem,
    fun _ k _ apart _ found => (findEntry_budgetRelease apart h).trans found, (moves_budgetRelease h).law⟩

theorem passes_localRemove (j : SlotId) (cause : Cause) (h : Hap) : Passes j h (localRemove j cause h) := by
  refine ⟨fun k mem => ?_, fun law k o apart calm found => ?_, (moves_localRemove h cause).law⟩
  · rw [keys_localRemove] at mem
    exact List.mem_of_mem_filter mem
  · unfold localRemove
    split
    · exact found
    · next e held =>
      obtain ⟨ev, entered, drain, raised⟩ := shape_of_offEv (raiseLatched_offEv (dropEntry e.key (budgetRelease j h)) .moduleLeft
        (keyLocus e.key) (detailOf (causeCode cause)))
      have laws := budgetLaw_iff.mp ((passes_budgetRelease j h).law law)
      have kept : findEntry k (budgetRelease j h).roster.entries = some o := (findEntry_budgetRelease apart h).trans found
      have other : k ≠ e.key := (findEntry_some held).2 ▸ apart
      simp only
      rw [raised]
      refine findEntry_afterRemoval e (laws.keys.sublist (List.filter_sublist.map _))
        (fun y mem => (laws.locals y (List.mem_of_mem_filter mem)).mpr) ?_ calm
      exact findEntry_dropped.trans ((if_neg other).trans kept)

theorem endBurst_roster (j : SlotId) (h : Hap) : (endBurst j h).roster = h.roster := by
  obtain ⟨commit, ops, ev, entered, drain, same⟩ := endBurst_shape j h
  rw [same]
  rfl

theorem passes_shutSlot (j : SlotId) (cause : Cause) (h : Hap) : Passes j h (shutSlot j cause h) :=
  ((passes_of_roster (moves_endBurst h) (congrArg Roster.entries (endBurst_roster j h))).trans (passes_budgetRelease j _)).trans
    (passes_localRemove j cause _)

theorem passes_endEject (j : SlotId) (cause : Cause) (result : EjectResult) (h : Hap) : Passes j h (endEject j cause result h) := by
  obtain ⟨ev, entered, drain, same⟩ := endEject_shape j cause result h
  refine (passes_shutSlot j cause h).trans ⟨?_, ?_, ?_⟩
  all_goals rw [same]
  · exact fun _ mem => mem
  · exact fun _ _ _ _ _ found => found
  · exact id

theorem passes_reslotted (same : h.reslotted h') : Passes j h h' := by
  obtain ⟨slots, targets, rfl⟩ := same
  exact ⟨fun _ mem => mem, fun _ _ _ _ _ found => found, id⟩

theorem passes_evaluate (j : SlotId) (h : Hap) : Passes j h (evaluate j h) := by
  have idle : ∀ g : Hap, Passes j g (enterIdle j g) := fun g => passes_reslotted (enterIdle_spec j g).2.2.1
  have held : ∀ g : Hap, Passes j g (enterHeld j g) := fun g => passes_reslotted (enterHeld_spec j g).2.2.1
  unfold evaluate
  split
  · unfold idleRule
    cases (h.slot j).state with
    | idle => exact passes_reslotted ⟨h.slots, h.targets, rfl⟩
    | held | delaying => exact idle h
    | enabled | online => exact (passes_shutSlot ..).trans (idle _)
    | leaving => exact (passes_endEject ..).trans (idle _)
    | announcing =>
      exact ((passes_localRemove ..).trans (passes_of_roster (moves_slotLeft (i := j) _ j)
        (congrArg Roster.entries (slotLeft_keeps j _).2.2.2.1))).trans (idle _)
    | parked =>
      refine Passes.trans ?_ (idle _)
      obtain ⟨ev, entered, drain, same⟩ := shape_of_offEv (endCond_offEv (h := h) .slotParked (slotLocus j))
      rw [same]
      exact ⟨fun _ mem => mem, fun _ _ _ _ _ found => found, id⟩
  · split
    · exact passes_reslotted (openingRule_enters j h).2.2.1
    · unfold closingRule
      cases (h.slot j).state with
      | idle | delaying => exact held h
      | enabled | online => exact (passes_shutSlot ..).trans (held _)
      | leaving => exact (passes_endEject ..).trans (held _)
      | held | parked | announcing => exact passes_reslotted ⟨h.slots, h.targets, rfl⟩

theorem passes_switchGate (j : SlotId) (h : Hap) : Passes j h (switchGate h j) := by
  unfold switchGate
  split
  · exact passes_evaluate j h
  · exact passes_evaluate j h
  all_goals exact passes_reslotted ⟨h.slots, h.targets, rfl⟩

/-! ### The commit meanwhile -/

/-- The commit in COPYING stands, or it has ended and freed its operation. -/
def Stands (c : Commit) (h : Hap) : Prop :=
  (∃ d, h.desc.commit = some d ∧ d.op = c.op ∧ d.phase = .copying) ∨ h.desc.commit = none ∧ c.op ∉ h.ops.ids

theorem Stands.congr (st : Stands c h) (commit : h'.desc.commit = h.desc.commit) (ops : ∀ op ∈ h'.ops.ids, op ∈ h.ops.ids) :
    Stands c h' := by
  rw [Stands, commit]
  exact st.imp id fun ⟨ended, freed⟩ => ⟨ended, fun mem => freed (ops _ mem)⟩

theorem ids_release {t : OpTable} {op : Byte} : ∀ x, x ∈ (t.release op).ids → x ∈ t.ids ∧ x ≠ op := fun x mem => by
  obtain ⟨e, held, rfl⟩ := List.mem_map.mp mem
  obtain ⟨before, other⟩ := mem_release.mp held
  exact ⟨List.mem_map_of_mem before, other⟩

theorem endBurst_commit (st : ∀ d, h.desc.commit = some d → d.phase ≠ .draining) (j : SlotId) :
    (endBurst j h).desc = h.desc ∧ (endBurst j h).ops = h.ops := by
  have still : ∀ g : Hap, g.desc = h.desc → drainingCheck g = g := fun g same => by
    unfold drainingCheck
    rw [same]
    split
    · rfl
    · next d commit =>
      split
      · next draining => exact absurd draining (st d commit)
      all_goals rfl
  unfold endBurst
  split
  · rw [still (h.setTarget j _) rfl]
    exact ⟨rfl, rfl⟩
  · exact ⟨rfl, rfl⟩
  · exact ⟨rfl, rfl⟩

theorem Stands.notDraining (st : Stands c h) : ∀ d, h.desc.commit = some d → d.phase ≠ .draining := by
  rintro d commit draining
  rcases st with ⟨e, here, -, copying⟩ | ⟨ended, -⟩
  · rw [here] at commit
    cases commit
    rw [copying] at draining
    cases draining
  · rw [ended] at commit
    cases commit

theorem Stands.localRemove (st : Stands c h) (cause : Cause) : Stands c (localRemove j cause h) := by
  obtain ⟨-, -, -, desc, ops⟩ := localRemove_keeps j cause h
  exact st.congr (congrArg Desc.commit desc) (by rw [ops]; exact fun _ mem => mem)

theorem Stands.shutSlot (st : Stands c h) (cause : Cause) : Stands c (shutSlot j cause h) := by
  obtain ⟨desc, ops⟩ := endBurst_commit st.notDraining j
  have released := (moves_budgetRelease (i := j) (endBurst j h))
  have st' : Stands c (enDrop j h) :=
    st.congr (congrArg Desc.commit ((released.desc_eq rfl rfl).trans desc)) (by
      rw [show (enDrop j h).ops = h.ops from (released.frame .ops rfl).trans ops]
      exact fun _ mem => mem)
  exact st'.localRemove cause

theorem Stands.endEject (st : Stands c h) (cause : Cause) (result : EjectResult) : Stands c (endEject j cause result h) := by
  obtain ⟨ev, entered, drain, same⟩ := endEject_shape j cause result h
  rw [same]
  exact (st.shutSlot (j := j) cause).congr rfl fun op mem => (ids_release op mem).1

theorem Stands.slotLeft (st : Stands c h) : Stands c (slotLeft j h) := by
  unfold Machine.slotLeft
  rcases st with ⟨d, commit, op, copying⟩ | ⟨ended, freed⟩
  · rw [commit]
    simp only
    split
    · split
      · obtain ⟨ev, entered, drain, same⟩ := commitEnd_some (h := { h with
          desc := { h.desc with commit := some { d with selected := d.selected.filter fun x => decide (x ≠ j) } } }) d.newGen rfl
        rw [same]
        exact .inr ⟨rfl, fun mem => (ids_release _ mem).2 op.symm⟩
      · exact .inl ⟨_, rfl, op, copying⟩
    · exact .inl ⟨d, commit, op, copying⟩
  · rw [ended]
    exact .inr ⟨ended, freed⟩

theorem Stands.reslotted (st : Stands c h) (same : h.reslotted h') : Stands c h' := by
  obtain ⟨slots, targets, rfl⟩ := same
  exact st

theorem Stands.evaluate (st : Stands c h) : Stands c (evaluate j h) := by
  have idle : ∀ {g : Hap}, Stands c g → Stands c (enterIdle j g) := fun st => st.reslotted (enterIdle_spec j _).2.2.1
  have held : ∀ {g : Hap}, Stands c g → Stands c (enterHeld j g) := fun st => st.reslotted (enterHeld_spec j _).2.2.1
  unfold Machine.evaluate
  split
  · unfold idleRule
    cases (h.slot j).state with
    | idle => exact st
    | held | delaying => exact idle st
    | enabled | online => exact idle (st.shutSlot _)
    | leaving => exact idle (st.endEject ..)
    | announcing => exact idle (st.localRemove _).slotLeft
    | parked =>
      refine idle ?_
      obtain ⟨ev, entered, drain, same⟩ := shape_of_offEv (endCond_offEv (h := h) .slotParked (slotLocus j))
      rw [same]
      exact st
  · split
    · exact st.reslotted (openingRule_enters j h).2.2.1
    · unfold closingRule
      cases (h.slot j).state with
      | idle | delaying => exact held st
      | enabled | online => exact held (st.shutSlot _)
      | leaving => exact held (st.endEject ..)
      | held | parked | announcing => exact st

theorem Stands.switchGate (st : Stands c h) : Stands c (switchGate h j) := by
  unfold Machine.switchGate
  split
  · exact st.evaluate
  · exact st.evaluate
  all_goals exact st

/-! ### The generation last read -/

theorem evaluate_lastRead (j : SlotId) (h : Hap) :
    ((evaluate j h).slot j).lastRead = (h.slot j).lastRead ∨ ((evaluate j h).slot j).lastRead = 0 := by
  have held : ∀ g : Hap, g.slot j = h.slot j → ((enterHeld j g).slot j).lastRead = (h.slot j).lastRead := fun g same => by
    rw [enterHeld_slot, same]
  have enabled : ((enterEnabled j h).slot j).lastRead = (h.slot j).lastRead := by rw [enterEnabled_slot]
  have delaying : ((enterDelaying j h).slot j).lastRead = (h.slot j).lastRead := by
    unfold enterDelaying
    simp only
    split
    · exact enabled
    · rw [setSlot_slot_self]
  unfold evaluate
  split
  · by_cases busy : (h.slot j).state = .idle
    · rw [idleRule_idle busy]
      exact .inl rfl
    · obtain ⟨x, rule, -⟩ := idleRule_enters j h busy
      rw [rule, enterIdle_slot]
      exact .inr rfl
  · refine .inl ?_
    split
    · unfold openingRule
      cases (h.slot j).state with
      | idle =>
        simp only
        split
        · exact enabled
        · exact delaying
      | held => exact delaying
      | delaying | enabled | online | leaving | announcing | parked => rfl
    · unfold closingRule
      cases (h.slot j).state with
      | idle | delaying => exact held h rfl
      | enabled | online => exact held _ (shutSlot_keeps j .gate h).1
      | leaving => exact held _ (endEject_keeps j .gate .gate h).1
      | held | parked | announcing => rfl

end

end Sys2Proof.Machine
end

section
/-! PROOF. The gates and the pulses of a SWITCH, slot after slot (R85 to R88; O9). -/

namespace Sys2Proof.Machine

section
variable {h h' h'' : Hap} {i j : SlotId} {k : Key} {o : Entry} {c : Commit} {n : Nat}

/-! ### What the gates of all slots change -/

/-- What the steps of the slot sequencers change, the filters of the slots excepted. -/
def sequencerParts : Part → Bool
  | .queue | .localConds | .reported | .keys | .entries | .waiting | .commit | .ops | .slot _ | .target _ => true
  | _ => false

theorem Moves.sequenced (m : Moves (slotParts i) h h') (filter : h'.filter i = h.filter i) : Moves sequencerParts h h' := by
  refine ⟨fun x off => ?_, m.copies, m.sizes, m.law⟩
  cases x with
  | filter j =>
    by_cases own : j = i
    · subst own
      exact filter
    · exact m.frame (.filter j) (decide_eq_false own)
  | slot | target => cases off
  | _ => exact m.frame _ off

theorem moves_gate (j : SlotId) (h : Hap) : Moves sequencerParts h (switchGate h j) := by
  refine (moves_switchGate h j).sequenced ?_
  unfold switchGate
  split
  · exact (evaluate_spec j h).2.1.filter
  · exact (evaluate_spec j h).2.1.filter
  all_goals rfl

/-- What a slot, its target and its entry keep through what happens to other slots. -/
structure Beside (i : SlotId) (h h' : Hap) : Prop where
  slot : h'.slot i = h.slot i
  target : h'.target i = h.target i
  gone : h.localEntry i = none → h'.localEntry i = none
  entry : h.toState.budgetLaw → ∀ o, o.state ≠ .conflict → h.localEntry i = some o → h'.localEntry i = some o
  law : h.toState.budgetLaw → h'.toState.budgetLaw

theorem beside_gate (other : j ≠ i) (h : Hap) : Beside i h (switchGate h j) := by
  have m := moves_switchGate h j
  have passes := passes_switchGate j h
  refine ⟨m.frame (.slot i) (decide_eq_false (Ne.symm other)), m.frame (.target i) (decide_eq_false (Ne.symm other)),
    fun none => ?_, fun law o calm => passes.entry law _ o (fun same => other (localKey_inj.mp same).symm) calm, m.law⟩
  rw [localEntry_none_iff] at none ⊢
  exact fun mem => none (passes.keys _ mem)

theorem beside_gates : ∀ (l : List SlotId) (h : Hap), (∀ j ∈ l, j ≠ i) → Beside i h (l.foldl switchGate h)
  | [], _, _ => ⟨rfl, rfl, id, fun _ _ _ found => found, id⟩
  | j :: t, h, others => by
    have first := beside_gate (others j List.mem_cons_self) h
    have rest := beside_gates t (switchGate h j) fun x mem => others x (List.mem_cons_of_mem j mem)
    exact ⟨rest.slot.trans first.slot, rest.target.trans first.target, rest.gone ∘ first.gone,
      fun law o calm found => rest.entry (first.law law) o calm (first.entry law o calm found), rest.law ∘ first.law⟩

theorem stands_gates : ∀ (l : List SlotId) (h : Hap), Stands c h → Stands c (l.foldl switchGate h)
  | [], _, st => st
  | j :: t, h, st => stands_gates t (switchGate h j) st.switchGate

/-- A list that holds a slot once, cut at it. -/
theorem split_nodup {l : List SlotId} (nodup : l.Nodup) (mem : i ∈ l) :
    ∃ before after, l = before ++ i :: after ∧ (∀ j ∈ before, j ≠ i) ∧ ∀ j ∈ after, j ≠ i := by
  obtain ⟨before, after, rfl⟩ := List.append_of_mem mem
  have out := (List.nodup_cons.mp (List.nodup_middle.mp nodup)).1
  rw [List.mem_append, not_or] at out
  exact ⟨before, after, rfl, fun j held same => out.1 (same ▸ held), fun j held same => out.2 (same ▸ held)⟩

/-- One slot among those whose gates a SWITCH applies: what stands before its turn, and what after it. -/
theorem gates_at (i : SlotId) (h : Hap) : ∃ g, Beside i h g ∧ Moves sequencerParts h g ∧
    Beside i (switchGate g i) (allSlots.foldl switchGate h) := by
  obtain ⟨before, after, cut, first, last⟩ := split_nodup (List.nodup_finRange 10) (List.mem_finRange i)
  refine ⟨before.foldl switchGate h, beside_gates before h first, Moves.foldl (fun g j => moves_gate j g) before h, ?_⟩
  rw [allSlots, cut, List.foldl_append, List.foldl_cons]
  exact beside_gates after _ last

/-! ### Pulses (R87) -/

/-- A slot's entry when its pulse begins. -/
def Entry.pulsed (o : Entry) : Entry :=
  { o with state := if o.state = .online then .returning else o.state, grant := .none }

theorem enDrop_facts (notDraining : ∀ d, h.desc.commit = some d → d.phase ≠ .draining) :
    (enDrop i h).desc = h.desc ∧ (enDrop i h).slot i = h.slot i ∧ (enDrop i h).filter i = h.filter i ∧
      (enDrop i h).target i = (h.target i).unburst := by
  obtain ⟨desc, -⟩ := endBurst_commit notDraining i
  obtain ⟨commit, ops, ev, entered, drain, same⟩ := endBurst_shape i h
  have m := moves_budgetRelease (i := i) (endBurst i h)
  refine ⟨(m.desc_eq rfl rfl).trans desc, (m.frame (.slot i) rfl).trans ?_, (m.frame (.filter i) rfl).trans ?_,
    (m.frame (.target i) rfl).trans ?_⟩
  all_goals rw [same]
  · rfl
  · rfl
  · exact setTarget_target_self _

theorem findEntry_changeEntry {f : Entry → Entry} (keep : ∀ e, (f e).key = e.key) (apart : k ≠ localKey i) (h : Hap) :
    findEntry k (changeEntry (localKey i) f h).roster.entries = findEntry k h.roster.entries := by
  show findEntry k (updateEntry (localKey i) f h.roster.entries) = _
  rw [findEntry_updateEntry fun e _ own => (keep e).trans own, if_neg apart]

theorem findEntry_pulseEntry (apart : k ≠ localKey i) (h : Hap) :
    findEntry k (pulseEntry i h).roster.entries = findEntry k h.roster.entries := by
  unfold pulseEntry
  split
  · rfl
  · next e found =>
    split
    · rw [(findEntry_some found).2]
      exact (findEntry_changeEntry (f := fun x => { x with state := .returning }) (fun _ => rfl) apart _).trans
        (findEntry_budgetRelease apart h)
    all_goals rfl

theorem pulseEntry_own (i : SlotId) (h : Hap) :
    (pulseEntry i (budgetRelease i h)).localEntry i = (h.localEntry i).map Entry.pulsed := by
  cases found : h.localEntry i with
  | none =>
    have same : budgetRelease i h = h := by simp only [budgetRelease, found]
    rw [same, pulseEntry, found]
    exact found
  | some e =>
    have released := localEntry_budgetRelease (h := h) found
    unfold pulseEntry
    rw [released]
    simp only
    split
    · next online =>
      have again := localEntry_budgetRelease (h := budgetRelease i h) released
      rw [show e.key = localKey i from (findEntry_some found).2]
      refine (localEntry_changeEntry (f := fun x => { x with state := .returning }) (fun _ => rfl) again).trans ?_
      simp only [Entry.pulsed, Option.map_some, show e.state = .online from online, if_true]
    all_goals
      next state =>
      rw [released]
      simp only [Entry.pulsed, Option.map_some, show e.state = _ from state, reduceCtorEq, if_false]

/-- What the beginning of a pulse does to its slot, and what it leaves of the others (R87). -/
theorem startPulse_facts (notDraining : ∀ d, h.desc.commit = some d → d.phase ≠ .draining) (i : SlotId) :
    (startPulse i h).desc = h.desc ∧ (startPulse i h).filter i = h.filter i ∧
      (startPulse i h).slot i = { h.slot i with state := .announcing, timer := some (10 * h.rack.pulseWidth.toNat) } ∧
      (startPulse i h).target i = (h.target i).unburst ∧
      (startPulse i h).localEntry i = (h.localEntry i).map Entry.pulsed ∧
      ∀ j, j ≠ i → (startPulse i h).localEntry j = h.localEntry j := by
  obtain ⟨desc, slot, filter, target⟩ := enDrop_facts (i := i) notDraining
  have m := moves_pulseEntry (i := i) (enDrop i h)
  have rack : (pulseEntry i (enDrop i h)).rack = h.rack := (m.frame .rack rfl).trans ((moves_enDrop (i := i) h).frame .rack rfl)
  refine ⟨(m.desc_eq rfl rfl).trans desc, (m.frame (.filter i) rfl).trans filter, ?_, (m.frame (.target i) rfl).trans target,
    ?_, fun j other => ?_⟩
  · refine (setSlot_slot_self (h := pulseEntry i (enDrop i h)) _).trans ?_
    rw [rack, m.frame (.slot i) rfl, slot]
  · refine (pulseEntry_own i (endBurst i h)).trans ?_
    rw [State.localEntry, State.localEntry, endBurst_roster]
  · have apart : localKey j ≠ localKey i := fun same => other (localKey_inj.mp same)
    refine (findEntry_pulseEntry apart _).trans ((findEntry_budgetRelease apart _).trans ?_)
    rw [endBurst_roster]
    rfl

theorem moves_pulse (notDraining : ∀ d, h.desc.commit = some d → d.phase ≠ .draining) (i : SlotId) :
    Moves sequencerParts h (startPulse i h) := (moves_startPulse h).sequenced (startPulse_facts notDraining i).2.1

/-- The pulses of other slots. -/
theorem pulses_beside : ∀ (l : List SlotId) (h : Hap), (∀ d, h.desc.commit = some d → d.phase ≠ .draining) →
    (∀ j ∈ l, j ≠ i) →
      (l.foldl (fun h j => startPulse j h) h).slot i = h.slot i ∧ (l.foldl (fun h j => startPulse j h) h).target i = h.target i ∧
        (l.foldl (fun h j => startPulse j h) h).localEntry i = h.localEntry i
  | [], _, _, _ => ⟨rfl, rfl, rfl⟩
  | j :: t, h, notDraining, others => by
    have other := others j List.mem_cons_self
    have m := moves_startPulse (i := j) h
    obtain ⟨desc, -, -, -, -, beside⟩ := startPulse_facts notDraining j
    obtain ⟨slot, target, entry⟩ := pulses_beside t (startPulse j h) (by rw [desc]; exact notDraining) fun x mem =>
      others x (List.mem_cons_of_mem j mem)
    exact ⟨slot.trans (m.frame (.slot i) (decide_eq_false (Ne.symm other))),
      target.trans (m.frame (.target i) (decide_eq_false (Ne.symm other))), entry.trans (beside i (Ne.symm other))⟩

theorem pulses_moves : ∀ (l : List SlotId) (h : Hap), (∀ d, h.desc.commit = some d → d.phase ≠ .draining) →
    Moves sequencerParts h (l.foldl (fun h j => startPulse j h) h) ∧ (l.foldl (fun h j => startPulse j h) h).desc = h.desc
  | [], h, _ => ⟨Moves.refl _ h, rfl⟩
  | j :: t, h, notDraining => by
    have desc := (startPulse_facts notDraining j).1
    obtain ⟨moved, rest⟩ := pulses_moves t (startPulse j h) (by rw [desc]; exact notDraining)
    exact ⟨(moves_pulse notDraining j).trans moved, rest.trans desc⟩

/-- The pulse of one slot among those of the slots selected. -/
theorem pulses_own {l : List SlotId} (nodup : l.Nodup) (mem : i ∈ l)
    (notDraining : ∀ d, h.desc.commit = some d → d.phase ≠ .draining) :
    (l.foldl (fun h j => startPulse j h) h).slot i =
        { h.slot i with state := .announcing, timer := some (10 * h.rack.pulseWidth.toNat) } ∧
      (l.foldl (fun h j => startPulse j h) h).target i = (h.target i).unburst ∧
      (l.foldl (fun h j => startPulse j h) h).localEntry i = (h.localEntry i).map Entry.pulsed := by
  obtain ⟨before, after, rfl, first, last⟩ := split_nodup nodup mem
  rw [List.foldl_append, List.foldl_cons]
  obtain ⟨slot, target, entry⟩ := pulses_beside before h notDraining first
  obtain ⟨moved, desc⟩ := pulses_moves before h notDraining
  have rack := moved.frame .rack rfl
  generalize before.foldl (fun h j => startPulse j h) h = g at slot target entry desc rack
  have notDraining' : ∀ d, g.desc.commit = some d → d.phase ≠ .draining := by rw [desc]; exact notDraining
  obtain ⟨desc', -, slot', target', entry', -⟩ := startPulse_facts notDraining' i
  obtain ⟨slot'', target'', entry''⟩ := pulses_beside after (startPulse i g) (by rw [desc']; exact notDraining') last
  refine ⟨slot''.trans ?_, target''.trans ?_, entry''.trans ?_⟩
  · rw [slot', slot, show g.rack = h.rack from rack]
  · rw [target', target]
  · rw [entry', entry]

/-! ### Settling at the end of the happening -/

theorem grantLoop_apart : ∀ (n : Nat) (h : Hap), i ∉ h.budget.waiting → (grantLoop n h).localEntry i = h.localEntry i
  | 0, _, _ => rfl
  | n + 1, h, out => by
    unfold grantLoop
    split
    · next j u head =>
      have here : j ∈ h.budget.waiting := by
        unfold State.waitingHead at head
        split at head
        · cases head
        · next x t list =>
          rw [list]
          obtain ⟨e, -, same⟩ := Option.map_eq_some_iff.mp head
          cases same
          exact List.mem_cons_self
      have apart : localKey i ≠ localKey j := fun same => out (localKey_inj.mp same ▸ here)
      split
      · refine (grantLoop_apart n (grantHead j h) fun mem => out (List.mem_of_mem_tail mem)).trans ?_
        exact findEntry_changeEntry (f := fun e => { e with grant := .granted }) (fun _ => rfl) apart h
      · rfl
    · rfl

/-- A slot that does not wait keeps its entry as it is to the end of the happening. -/
theorem closing_localEntry (out : i ∉ h.budget.waiting) : (closing h).toState.localEntry i = h.localEntry i := by
  have again : closing h = closing (settleIfDue h) := by
    rw [closing_behind, closing_behind, settleIfDue_still (settleIfDue_settled h)]
  have settled : (settleIfDue h).localEntry i = h.localEntry i := by
    unfold settleIfDue
    split
    · obtain ⟨ev, entered, drain, same, -⟩ := settle_shape h
      rw [same]
      exact grantLoop_apart _ h out
    · rfl
  rw [again, ← settled]
  exact congrArg (findEntry (localKey i)) (closing_entries (settleIfDue_settled h))

end

end Sys2Proof.Machine
end

section
/-! PROOF. The SWITCH as a whole (O9). -/

namespace Sys2Proof.Machine

section
variable {s : State} {c : Commit} {h : Hap} {i : SlotId} {n : Nat}

/-! ### The steps of a SWITCH -/

/-- The start of a SWITCH: the copy is published. -/
def published (c : Commit) (s : State) : Hap := { Hap.start s with desc := publish c s.desc }

/-- A SWITCH with the gates applied. -/
@[irreducible] def gated (c : Commit) (s : State) : Hap := allSlots.foldl switchGate (published c s)

/-- A SWITCH with INFO sent. -/
def informed (c : Commit) (s : State) : Hap := switchInfo (gated c s)

/-- A SWITCH with the announcement begun, or the commit ended. -/
def switched (c : Commit) (s : State) : Hap := announce c (informed c s)

theorem copying_switches (commit : s.desc.commit = some c) (phase : c.phase = .copying) (timer : c.timer = some n) :
    exec .copyingTimerExpiry s = .next (finish (switched c s)) := by
  have expired : copyingExpired (Hap.start s) = switched c s := by
    have commit' : (Hap.start s).desc.commit = some c := commit
    rw [switched, informed, gated]
    simp only [copyingExpired, commit', phase, timer]
    rfl
  rw [← expired]
  rfl

/-! ### The gates -/

theorem gated_moves (c : Commit) (s : State) : Moves sequencerParts (published c s) (gated c s) := by
  rw [gated]
  exact Moves.foldl (fun g j => moves_gate j g) allSlots (published c s)

theorem gated_stands (commit : s.desc.commit = some c) (phase : c.phase = .copying) : Stands c (gated c s) := by
  rw [gated]
  exact stands_gates allSlots _ (.inl ⟨c, (publish_live c s.desc).2.2.1.trans commit, rfl, phase⟩)

theorem copies_eq {L : Part → Bool} {h h' : Hap} (m : Moves L h h') (free : L .copies = false) :
    h'.desc.staging = h.desc.staging ∧ h'.desc.live = h.desc.live ∧ h'.desc.liveBank = h.desc.liveBank ∧
      ∀ b, h'.desc.bank b = h.desc.bank b := by
  have same := m.frame .copies free
  simp only [Part.same, Prod.mk.injEq] at same
  obtain ⟨staging, bank0, bank1, live⟩ := same
  have banks : ∀ b, h'.desc.bank b = h.desc.bank b := fun b => by
    cases b
    · exact bank0
    · exact bank1
  exact ⟨staging, live, by rw [Desc.liveBank, Desc.liveBank, live, banks], banks⟩

theorem pages_eq {L : Part → Bool} {h h' : Hap} (m : Moves L h h') (free : L .copies = false) :
    h'.desc.pages = h.desc.pages := by
  rw [Desc.pages, Desc.pages, (copies_eq m free).2.2.1]

/-- The gate of a slot under DESCRIPTOR or PERMIT. -/
theorem gateOpen_paged (policy : (h.slot i).policy = .descriptor ∨ (h.slot i).policy = .permit) :
    h.idleCond i = decide ((h.filter i).state ≠ .present) ∧
      h.gateOpen i = decide ((h.filter i).state = .present ∧ 1 ≤ h.desc.pages ∧
        ((h.slot i).policy = .permit → (h.slot i).permit = true)) := by
  rcases policy with policy | policy
  · simp [State.idleCond, State.gateOpen, policy]
  · simp [State.idleCond, State.gateOpen, policy, Bool.and_assoc]

theorem switchGate_still {g : Hap} (policy : (g.slot i).policy = .auto ∨ (g.slot i).policy = .manual) : switchGate g i = g := by
  unfold switchGate
  rcases policy with policy | policy
  · rw [policy]
  · rw [policy]

theorem switchGate_evaluates {g : Hap} (policy : (g.slot i).policy = .descriptor ∨ (g.slot i).policy = .permit) :
    switchGate g i = evaluate i g := by
  unfold switchGate
  rcases policy with policy | policy
  · rw [policy]
  · rw [policy]

theorem policy_cases (p : Policy) : (p = .auto ∨ p = .manual) ∨ p = .descriptor ∨ p = .permit := by
  cases p <;> simp

/-- No slot that was in LEAVING comes to ENABLED or ONLINE by its gate. -/
theorem evaluated_leaving (idle gate manual noDelay : Bool) : SlotState.leaving.evaluated idle gate manual noDelay = .idle ∨
    SlotState.leaving.evaluated idle gate manual noDelay = .leaving ∨ SlotState.leaving.evaluated idle gate manual noDelay = .held := by
  cases idle
  · cases gate
    · exact .inr (.inr rfl)
    · exact .inr (.inl rfl)
  · exact .inl rfl

/-- A slot that has nothing to be told anew of a generation. -/
def Slot.untold (sl : Slot) (gen : Word16) : Prop :=
  sl.state ≠ .enabled ∧ sl.state ≠ .online ∨ sl.lastRead = 0 ∨ sl.lastRead = gen

theorem Slot.untold.reads {sl : Slot} {gen : Word16} (untold : sl.untold gen) :
    ((decide (sl.state = .enabled) || decide (sl.state = .online)) && decide (sl.lastRead ≠ 0) &&
      decide (sl.lastRead ≠ gen)) = false := by
  rcases untold with ⟨low, off⟩ | zero | same
  · rw [decide_eq_false low, decide_eq_false off]
    rfl
  · simp [zero]
  · simp [same]

theorem switchGate_unread {g : Hap} {gen : Word16}
    (what : (g.slot i).state = .leaving ∨ (g.slot i).lastRead = 0 ∨ (g.slot i).lastRead = gen) :
    ((switchGate g i).slot i).untold gen := by
  have before : (g.slot i).untold gen := what.imp (fun leaving => by rw [leaving]; exact ⟨nofun, nofun⟩) id
  have after : ((evaluate i g).slot i).untold gen := by
    rcases what with leaving | read
    · have state := (evaluate_spec i g).1
      rw [leaving] at state
      refine .inl ?_
      rw [state]
      rcases evaluated_leaving (g.idleCond i) (g.gateOpen i) (decide ((g.slot i).policy = .manual))
        (decide ((g.slot i).enableDelay = 0)) with e | e | e <;> rw [e] <;> exact ⟨nofun, nofun⟩
    · rcases evaluate_lastRead i g with same | zero
      · rw [Slot.untold, same]
        exact .inr read
      · exact .inr (.inl zero)
  unfold switchGate
  split
  · exact after
  · exact after
  all_goals exact before

/-- What the gates of a SWITCH make of one slot. -/
structure Gated (c : Commit) (i : SlotId) (s : State) (g : Hap) : Prop where
  unmoved : (s.slot i).policy = .auto ∨ (s.slot i).policy = .manual → g.slot i = s.slot i
  moved : (s.slot i).policy = .descriptor ∨ (s.slot i).policy = .permit →
    (g.slot i).state = (s.slot i).state.evaluated (decide ((s.filter i).state ≠ .present))
      (decide ((s.filter i).state = .present ∧ 1 ≤ headerPages s.desc.staging ∧
        ((s.slot i).policy = .permit → (s.slot i).permit = true))) false (decide ((s.slot i).enableDelay = 0))
  lost : s.enLine i = true → g.enLine i = false → g.localEntry i = none
  unread : (s.slot i).state = .leaving ∨ (s.slot i).lastRead = 0 ∨ (s.slot i).lastRead = c.newGen → g.reads c.newGen i = false
  stays : (s.slot i).state = .enabled ∨ (s.slot i).state = .online → 1 ≤ headerPages s.desc.staging →
    (s.slot i).policy = .auto ∨ (s.slot i).policy = .manual ∨
      (s.filter i).state = .present ∧ ((s.slot i).policy = .permit → (s.slot i).permit = true) →
    g.slot i = s.slot i ∧ (s.budgetLaw → ∀ o, o.state ≠ .conflict → s.localEntry i = some o → g.localEntry i = some o)

theorem gated_slot (c : Commit) (i : SlotId) (s : State) : Gated c i s (gated c s) := by
  obtain ⟨g, before, m, after⟩ := gates_at i (published c s)
  rw [← gated] at after
  have slot : g.slot i = s.slot i := before.slot
  have filter : g.filter i = s.filter i := m.frame (.filter i) rfl
  have pages : g.desc.pages = headerPages s.desc.staging := (pages_eq m rfl).trans (publish_pages c s.desc)
  have slot' : (gated c s).slot i = (switchGate g i).slot i := after.slot
  have unread : (s.slot i).state = .leaving ∨ (s.slot i).lastRead = 0 ∨ (s.slot i).lastRead = c.newGen →
      (gated c s).reads c.newGen i = false := fun what => by
    rw [← slot] at what
    rw [State.reads, slot']
    exact (switchGate_unread what).reads
  rcases policy_cases (s.slot i).policy with policy | policy
  · have still : switchGate g i = g := switchGate_still (by rw [slot]; exact policy)
    have whole : (gated c s).slot i = s.slot i := slot'.trans ((congrArg (fun x : Hap => x.slot i) still).trans slot)
    rw [still] at after
    refine ⟨fun _ => whole, fun other => ?_, fun en low => ?_, unread, fun _ _ _ => ⟨whole, fun law o calm found => ?_⟩⟩
    · rcases policy with p | p <;> rw [p] at other <;> rcases other with c | c <;> cases c
    · rw [State.enLine, whole] at low
      rw [State.enLine, low] at en
      cases en
    · exact after.entry (before.law law) o calm (before.entry law o calm found)
  · have paged : (g.slot i).policy = .descriptor ∨ (g.slot i).policy = .permit := by rw [slot]; exact policy
    have goes := switchGate_evaluates paged
    have notManual : decide ((g.slot i).policy = .manual) = false := by rcases paged with p | p <;> rw [p] <;> rfl
    obtain ⟨idle, gate⟩ := gateOpen_paged paged
    obtain ⟨state, -, keys⟩ := evaluate_spec i g
    rw [idle, gate, notManual, slot, filter, pages] at state
    have slot'' : (gated c s).slot i = (evaluate i g).slot i := by rw [slot', goes]
    refine ⟨fun other => ?_, fun _ => (congrArg Slot.state slot'').trans state, fun en low => ?_, unread,
      fun on some open_ => ?_⟩
    · rcases policy with p | p <;> rw [p] at other <;> rcases other with c | c <;> cases c
    · refine after.gone ?_
      rw [goes, localEntry_none_iff, keys (by rw [slot]; exact en) (by rw [← slot'']; exact low)]
      simp
    · have opens : (s.filter i).state = .present ∧ ((s.slot i).policy = .permit → (s.slot i).permit = true) := by
        rcases open_ with p | p | both
        · rcases policy with q | q <;> rw [q] at p <;> cases p
        · rcases policy with q | q <;> rw [q] at p <;> cases p
        · exact both
      have evaluates : evaluate i g = g := by
        have idles : ¬ g.idleCond i = true := by rw [idle, filter, decide_eq_true_eq]; exact fun away => away opens.1
        have gateOpens : g.gateOpen i = true := by
          rw [gate, filter, slot, pages, decide_eq_true_eq]
          exact ⟨opens.1, some, opens.2⟩
        rw [evaluate, if_neg idles, if_pos gateOpens]
        refine (openingRule_enters i g).2.2.2 ?_
        rw [slot]
        rcases on with on | on <;> rw [on] <;> rfl
      rw [goes, evaluates] at after
      exact ⟨after.slot.trans slot, fun law o calm found => after.entry (before.law law) o calm (before.entry law o calm found)⟩

end

end Sys2Proof.Machine
end

section
/-! PROOF. The announcement of a SWITCH, and the SWITCH as a whole (R85 to R88; O9). -/

namespace Sys2Proof.Machine

section
variable {s : State} {c : Commit} {h : Hap} {i : SlotId} {n : Nat}

/-! ### INFO (R86) -/

theorem informed_moves (c : Commit) (s : State) : Moves lateParts (gated c s) (informed c s) := moves_switchInfo _

theorem informed_desc (c : Commit) (s : State) : (informed c s).desc = (gated c s).desc := (informed_moves c s).desc_eq rfl rfl

theorem informed_localEntry (c : Commit) (i : SlotId) (s : State) : (informed c s).localEntry i = (gated c s).localEntry i := by
  have same := (informed_moves c s).frame .entries rfl
  simp only [Part.same, Prod.mk.injEq] at same
  rw [State.localEntry, State.localEntry, same.1]

theorem informed_stands (commit : s.desc.commit = some c) (phase : c.phase = .copying) : Stands c (informed c s) := by
  have ops : (informed c s).ops = (gated c s).ops := (informed_moves c s).frame .ops rfl
  refine (gated_stands commit phase).congr (congrArg Desc.commit (informed_desc c s)) ?_
  rw [ops]
  exact fun _ mem => mem

theorem informed_pages (c : Commit) (s : State) : (informed c s).desc.pages = headerPages s.desc.staging := by
  rw [informed_desc, pages_eq (gated_moves c s) rfl]
  exact publish_pages c s.desc

theorem mem_hand (t : LinkTx) (x : TxFrame) : x ∈ (t.hand x).frames := by
  cases cur : t.cur with
  | none => simp [LinkTx.hand, LinkTx.frames, cur]
  | some y => simp [LinkTx.hand, LinkTx.frames, cur]

theorem informed_info (branch : s.role = .branch) (active : s.u.state.active = true) :
    { msg := .info (headerRackId (gated c s).desc.liveBank) (headerRackClass (gated c s).desc.liveBank), resets := none } ∈
      (informed c s).u.tx.frames := by
  have role : (gated c s).role = .branch := ((gated_moves c s).frame .role rfl).trans branch
  have state : (gated c s).u.state = s.u.state := (gated_moves c s).frame .uState rfl
  have due : (decide ((gated c s).role = .branch) && (gated c s).u.state.active) = true := by
    rw [role, state, active]
    rfl
  rw [informed, switchInfo, if_pos due]
  exact mem_hand (gated c s).u.tx _

/-! ### The slots selected (R87) -/

theorem mem_selection (c : Commit) (i : SlotId) (s : State) : i ∈ (informed c s).selection c ↔
    c.reannounce = true ∧ 1 ≤ headerPages s.desc.staging ∧ (gated c s).reads c.newGen i = true := by
  have slot : (informed c s).slot i = (gated c s).slot i := (informed_moves c s).frame (.slot i) rfl
  have reads : (informed c s).reads c.newGen i = (gated c s).reads c.newGen i := by rw [State.reads, State.reads, slot]
  have here : i ∈ allSlots := List.mem_finRange i
  rw [State.selection, informed_pages, ← reads, ← and_assoc]
  by_cases announces : c.reannounce = true ∧ 1 ≤ headerPages s.desc.staging
  · rw [if_pos (by rw [announces.1, decide_eq_true announces.2]; rfl), List.mem_filter, and_iff_right here, and_iff_right announces]
  · rw [if_neg fun both => announces (by rw [Bool.and_eq_true, decide_eq_true_eq] at both; exact both)]
    exact iff_of_false List.not_mem_nil fun all => announces all.1

/-- The commit while it announces. -/
def announcedCommit (c : Commit) (h : Hap) : Commit := { c with phase := .announcing, timer := none, selected := h.selection c }

/-- The happening in which the pulses begin. -/
def announced (c : Commit) (h : Hap) : Hap := { h with desc := { h.desc with commit := some (announcedCommit c h) } }

theorem announced_notDraining (c : Commit) (h : Hap) : ∀ d, (announced c h).desc.commit = some d → d.phase ≠ .draining := by
  rintro d ⟨⟩
  nofun

theorem switched_ends (still : (informed c s).selection c = []) : switched c s = commitEnd c.newGen (informed c s) := by
  rw [switched, announce]
  simp only [still, List.isEmpty_nil, if_true]

theorem switched_announces (some : (informed c s).selection c ≠ []) : switched c s =
    ((informed c s).selection c).foldl (fun h j => startPulse j h) (announced c (informed c s)) := by
  have chosen : ((informed c s).selection c).isEmpty = false := by rwa [Bool.eq_false_iff, ne_eq, List.isEmpty_iff]
  rw [switched, announce]
  simp only [chosen, Bool.false_eq_true, if_false]
  rfl

theorem Stands.commitEnd (st : Stands c h) (d : Word16) : (commitEnd d h).desc.commit = none ∧ c.op ∉ (commitEnd d h).ops.ids := by
  rcases st with ⟨x, commit, op, -⟩ | ⟨ended, freed⟩
  · obtain ⟨ev, entered, drain, same⟩ := commitEnd_some d commit
    rw [same]
    exact ⟨rfl, fun mem => (ids_release _ mem).2 op.symm⟩
  · have still : Machine.commitEnd d h = h := by simp only [Machine.commitEnd, ended]
    rw [still]
    exact ⟨ended, freed⟩

theorem commitEnd_filter (d : Word16) (h : Hap) (i : SlotId) : (commitEnd d h).filter i = h.filter i ∧
    (commitEnd d h).slot i = h.slot i ∧ (commitEnd d h).localEntry i = h.localEntry i := by
  obtain ⟨commit, ops, ev, entered, drain, same⟩ := commitEnd_shape d h
  rw [same]
  exact ⟨rfl, rfl, rfl⟩

/-- What a SWITCH changes. -/
def switchParts (x : Part) : Bool := sequencerParts x || lateParts x

theorem switched_moves (c : Commit) (s : State) : Moves sequencerParts (informed c s) (switched c s) := by
  by_cases still : (informed c s).selection c = []
  · rw [switched_ends still]
    exact (moves_commitEnd (i := 0) _ _).sequenced (commitEnd_filter ..).1
  · rw [switched_announces still]
    have set : Moves sequencerParts (informed c s) (announced c (informed c s)) :=
      (moves_setCommit (i := 0) (informed c s) _).sequenced rfl
    exact set.trans (pulses_moves _ _ (announced_notDraining c _)).1

theorem whole_moves (c : Commit) (s : State) : Moves switchParts (published c s) (switched c s) := by
  have wide : ∀ {L : Part → Bool} {h h' : Hap}, (∀ x, L x = true → switchParts x = true) → Moves L h h' → Moves switchParts h h' :=
    fun sub m => m.mono sub
  have some : ∀ x, sequencerParts x = true → switchParts x = true := fun x yes => by rw [switchParts, yes]; rfl
  have late : ∀ x, lateParts x = true → switchParts x = true := fun x yes => by rw [switchParts, yes, Bool.or_true]
  exact ((wide some (gated_moves c s)).trans (wide late (informed_moves c s))).trans (wide some (switched_moves c s))

/-! ### The end of the happening -/

theorem switch_runs (commit : s.desc.commit = some c) (phase : c.phase = .copying) (timer : c.timer = some n) :
    exec .copyingTimerExpiry s = .next (closing (switched c s)).toState := by
  have noReset : (switched c s).resetDue = none := (whole_moves c s).frame .resetDue rfl
  rw [copying_switches commit phase timer, finish_eq noReset]

/-- The law at the end of a SWITCH. -/
theorem switch_law (law : s.budgetLaw) : (switched c s).toState.budgetLaw ∧ (closing (switched c s)).toState.budgetLaw := by
  have first : (switched c s).toState.budgetLaw := (whole_moves c s).law law
  exact ⟨first, (moves_closing _).law first⟩

/-- With nothing to announce the commit ends, and the slots stand as the gates left them. -/
theorem switch_ends (commit : s.desc.commit = some c) (phase : c.phase = .copying) (still : (informed c s).selection c = []) :
    (closing (switched c s)).desc.commit = none ∧ c.op ∉ (closing (switched c s)).ops.ids ∧
      ∀ i, (closing (switched c s)).slot i = (gated c s).slot i ∧
        ((gated c s).localEntry i = none → (closing (switched c s)).toState.localEntry i = none) := by
  obtain ⟨ended, freed⟩ := (informed_stands commit phase).commitEnd c.newGen
  rw [← switched_ends still] at ended freed
  refine ⟨by rw [closing_desc]; exact ended, by rw [closing_ops]; exact freed, fun i => ?_⟩
  obtain ⟨-, slot, entry⟩ := commitEnd_filter c.newGen (informed c s) i
  rw [← switched_ends still] at slot entry
  refine ⟨(closing_slot _ i).trans (slot.trans ((informed_moves c s).frame (.slot i) rfl)), fun gone => ?_⟩
  rw [← informed_localEntry, ← entry] at gone
  rw [localEntry_none_iff] at gone ⊢
  rwa [(closing_keys _).1]

/-- A slot that is selected begins its pulse. -/
theorem switch_pulses (mem : i ∈ (informed c s).selection c) :
    (closing (switched c s)).desc.commit = some (announcedCommit c (informed c s)) ∧
      (closing (switched c s)).slot i =
        { (gated c s).slot i with state := .announcing, timer := some (10 * s.rack.pulseWidth.toNat) } ∧
      ((closing (switched c s)).target i).pin = none ∧
      (switched c s).localEntry i = ((gated c s).localEntry i).map Entry.pulsed := by
  have some : (informed c s).selection c ≠ [] := List.ne_nil_of_mem mem
  have nodup : ((informed c s).selection c).Nodup := by
    unfold State.selection
    split
    · exact (List.nodup_finRange 10).filter _
    · exact List.nodup_nil
  obtain ⟨slot, target, entry⟩ := pulses_own nodup mem (announced_notDraining c (informed c s))
  obtain ⟨-, desc⟩ := pulses_moves ((informed c s).selection c) _ (announced_notDraining c (informed c s))
  rw [← switched_announces some] at slot target entry desc
  have rack : (announced c (informed c s)).rack = s.rack :=
    ((informed_moves c s).frame .rack rfl).trans ((gated_moves c s).frame .rack rfl)
  have before : (announced c (informed c s)).slot i = (gated c s).slot i := (informed_moves c s).frame (.slot i) rfl
  rw [rack, before] at slot
  refine ⟨by rw [closing_desc, desc]; rfl, (closing_slot _ i).trans slot, ?_, entry.trans ?_⟩
  · rw [closing_target, target]
    exact unburst_pin _
  · exact congrArg (Option.map Entry.pulsed) (informed_localEntry c i s)

end

end Sys2Proof.Machine
end

section
/-! PROOF. The SWITCH (O9): the store it publishes, and what it does to one slot. -/

namespace Sys2Proof.Machine

section
variable {s : State} {c : Commit} {i : SlotId} {n : Nat}

/-- With nothing to announce no slot is selected. -/
theorem selection_nil (quiet : c.reannounce = false ∨ headerPages s.desc.staging = 0) : (informed c s).selection c = [] := by
  refine List.eq_nil_iff_forall_not_mem.mpr fun i mem => ?_
  obtain ⟨announces, some, -⟩ := (mem_selection c i s).mp mem
  rcases quiet with off | zero
  · rw [off] at announces
    cases announces
  · rw [zero] at some
    cases some

/-- A part that neither a SWITCH nor the end of its happening touches. -/
theorem switch_same (c : Commit) (s : State) {x : Part} (alone : switchParts x = false) (still : endParts x = false) :
    x.same (published c s) (closing (switched c s)) :=
  Part.same_trans ((whole_moves c s).frame x alone) (closing_same still)

/-- The store that a SWITCH leaves, and what it does not touch (O9, first clause). -/
theorem switch_store (commit : s.desc.commit = some c) (phase : c.phase = .copying) (timer : c.timer = some n) :
    ∃ t, exec .copyingTimerExpiry s = .next t ∧ t.desc.live = c.target ∧ t.desc.staging = s.desc.staging ∧
       t.desc.bank c.target.other = s.desc.bank c.target.other ∧
       (∀ page, page < 8 → page < headerPages s.desc.staging ∨ page = 0 →
         (∀ offset, offset < 126 → (t.desc.bank c.target).read (pageAddr page offset) =
           if page = 0 ∧ offset = 0 then c.newGen.extractLsb' 8 8
           else if page = 0 ∧ offset = 1 then c.newGen.extractLsb' 0 8
           else s.desc.staging.read (pageAddr page offset)) ∧
         (t.desc.bank c.target).readAll (pageAddr page 126) 2 =
           be16 (crc16 ((t.desc.bank c.target).readAll (pageAddr page 0) 126))) ∧
       (∀ page, page < 8 → headerPages s.desc.staging ≤ page → page ≠ 0 → ∀ offset, offset < 128 →
         (t.desc.bank c.target).read (pageAddr page offset) = 0xFF) ∧
       (c.reannounce = false ∨ headerPages s.desc.staging = 0 →
         t.desc.commit = none ∧ c.op ∉ t.ops.ids ∧
           ∀ i, (s.slot i).policy = .auto ∨ (s.slot i).policy = .manual → t.slot i = s.slot i) ∧
       t.role = s.role ∧ t.rack = s.rack ∧ t.filters = s.filters ∧ t.host.memory = s.host.memory ∧
       t.host.buffer = s.host.buffer ∧ t.budget.units = s.budget.units ∧ t.rescan = s.rescan ∧ t.pending = s.pending := by
  obtain ⟨live, staging, -, target, other⟩ := publish_live c s.desc
  obtain ⟨staging', live', -, banks⟩ := copies_eq (whole_moves c s) rfl
  have bank : (switched c s).desc.bank c.target = copyImage s.desc.staging c.newGen (headerPages s.desc.staging) :=
    (banks _).trans target
  have filters : (closing (switched c s)).filters = s.filters := by
    refine Vector.ext fun j small => ?_
    exact switch_same c s (x := .filter ⟨j, small⟩) rfl rfl
  refine ⟨_, switch_runs commit phase timer, ?_, ?_, ?_, ?_, ?_, fun quiet => ?_, switch_same c s (x := .role) rfl rfl,
    switch_same c s (x := .rack) rfl rfl, filters, switch_same c s (x := .hostMemory) rfl rfl,
    switch_same c s (x := .hostBuffer) rfl rfl, switch_same c s (x := .units) rfl rfl, switch_same c s (x := .rescan) rfl rfl,
    switch_same c s (x := .pending) rfl rfl⟩
  · rw [closing_desc]
    exact live'.trans live
  · rw [closing_desc]
    exact staging'.trans staging
  · rw [closing_desc]
    exact (banks _).trans other
  · intro page below held
    rw [closing_desc, bank]
    exact ⟨fun offset data => read_copyImage_data below held data, readAll_copyImage_crc below held⟩
  · intro page below beyond notFirst offset inside
    rw [closing_desc, bank]
    exact read_copyImage_beyond below beyond notFirst inside
  · obtain ⟨ended, freed, slots⟩ := switch_ends commit phase (selection_nil quiet)
    exact ⟨ended, freed, fun i policy => (slots i).1.trans ((gated_slot c i s).unmoved policy)⟩

/-- A slot that is selected has its grant taken, and its PWR line falls. -/
theorem switch_takes (law : s.budgetLaw) (mem : i ∈ (informed c s).selection c) :
    (closing (switched c s)).toState.pwrLine i = false ∧
      (closing (switched c s)).toState.localEntry i = ((gated c s).localEntry i).map Entry.pulsed := by
  obtain ⟨-, -, -, entry⟩ := switch_pulses mem
  obtain ⟨before, after⟩ := switch_law (c := c) law
  have free : ∀ es : List Entry, findEntry (localKey i) es = ((gated c s).localEntry i).map Entry.pulsed →
      grantIn es i = .none := fun es found => by
    cases held : (gated c s).localEntry i with
    | none => exact grantIn_none (by rw [found, held]; rfl)
    | some o => exact grantIn_some (by rw [found, held]; rfl)
  have out : i ∉ (switched c s).budget.waiting := fun waits => by
    have waits := ((budgetLaw_iff.mp before).waits i).mp waits
    rw [free _ entry] at waits
    cases waits
  have kept := (closing_localEntry out).trans entry
  refine ⟨Bool.eq_false_iff.mpr fun high => ?_, kept⟩
  have granted := ((budgetLaw_iff.mp after).lines i).mp high
  rw [free _ kept] at granted
  cases granted

/-- What a SWITCH does to one slot (O9, second clause). -/
theorem switch_slot (i : SlotId) (commit : s.desc.commit = some c) (phase : c.phase = .copying) (timer : c.timer = some n) :
    ∃ t, exec .copyingTimerExpiry s = .next t ∧
      (c.reannounce = false ∨ headerPages s.desc.staging = 0 →
        (s.slot i).policy = .descriptor ∨ (s.slot i).policy = .permit →
        (t.slot i).state = (s.slot i).state.evaluated (decide ((s.filter i).state ≠ .present))
          (decide ((s.filter i).state = .present ∧ 1 ≤ headerPages s.desc.staging ∧
            ((s.slot i).policy = .permit → (s.slot i).permit = true))) false (decide ((s.slot i).enableDelay = 0)) ∧
        (s.enLine i = true → t.enLine i = false → t.localEntry i = none)) ∧
      (c.reannounce = true → 1 ≤ headerPages s.desc.staging → (s.slot i).state = .enabled ∨ (s.slot i).state = .online →
        (s.slot i).lastRead ≠ 0 → (s.slot i).lastRead ≠ c.newGen →
        (s.slot i).policy = .auto ∨ (s.slot i).policy = .manual ∨
          (s.filter i).state = .present ∧ ((s.slot i).policy = .permit → (s.slot i).permit = true) →
        t.slot i = { s.slot i with state := .announcing, timer := some (10 * s.rack.pulseWidth.toNat) } ∧
        t.enLine i = false ∧ (t.target i).pin = none ∧
        (∃ d, t.desc.commit = some d ∧ d.phase = .announcing ∧ d.op = c.op ∧ d.newGen = c.newGen ∧ i ∈ d.selected) ∧
        (s.budgetLaw → t.pwrLine i = false ∧
          ∀ o, s.localEntry i = some o → o.state = .online →
            t.localEntry i = some { o with state := .returning, grant := .none })) ∧
      ((s.slot i).state = .leaving ∨ (s.slot i).lastRead = 0 ∨ (s.slot i).lastRead = c.newGen →
        ∀ d, t.desc.commit = some d → i ∉ d.selected) ∧
      (s.role = .branch → s.u.state.active = true →
        { msg := .info (headerRackId t.desc.liveBank) (headerRackClass t.desc.liveBank), resets := none } ∈ t.u.tx.frames) := by
  have gates := gated_slot c i s
  refine ⟨_, switch_runs commit phase timer, fun quiet policy => ?_, fun announces some on read new open_ => ?_,
    fun what d stands mem => ?_, fun branch active => ?_⟩
  · obtain ⟨-, -, slots⟩ := switch_ends commit phase (selection_nil quiet)
    obtain ⟨slot, gone⟩ := slots i
    refine ⟨(congrArg Slot.state slot).trans (gates.moved policy), fun en low => gone (gates.lost en ?_)⟩
    rw [State.enLine, ← slot]
    exact low
  · obtain ⟨slot, entry⟩ := gates.stays on some open_
    have reads : (gated c s).reads c.newGen i = true := by
      rw [State.reads, slot, decide_eq_true read, decide_eq_true new]
      rcases on with on | on <;> rw [on] <;> rfl
    have mem := (mem_selection c i s).mpr ⟨announces, some, reads⟩
    obtain ⟨stands, pulse, pin, -⟩ := switch_pulses mem
    rw [slot] at pulse
    refine ⟨pulse, by rw [State.enLine, pulse]; rfl, pin, ⟨_, stands, rfl, rfl, rfl, mem⟩, fun law => ?_⟩
    obtain ⟨low, taken⟩ := switch_takes law mem
    refine ⟨low, fun o found online => ?_⟩
    rw [taken, entry law o (by rw [online]; nofun) found]
    simp only [Option.map_some, Entry.pulsed, online, if_true]
  · by_cases still : (informed c s).selection c = []
    · rw [(switch_ends commit phase still).1] at stands
      cases stands
    · obtain ⟨j, selected⟩ := List.exists_mem_of_ne_nil _ still
      rw [(switch_pulses selected).1] at stands
      cases stands
      obtain ⟨-, -, reads⟩ := (mem_selection c i s).mp mem
      rw [gates.unread what] at reads
      cases reads
  · have bank : (closing (switched c s)).desc.liveBank = (gated c s).desc.liveBank := by
      rw [closing_desc, (copies_eq (switched_moves c s) rfl).2.2.1, informed_desc]
    have out := (switched_moves c s).frame .uOut rfl
    simp only [Part.same, Prod.mk.injEq] at out
    have sent := informed_info branch active (c := c)
    rw [← out.1] at sent
    rw [bank]
    exact closing_within _ _ sent

end

/-- Settles O9. -/
theorem switchPublishesTheWholeCopy : Obligations.SwitchPublishesTheWholeCopy := by
  unfold Obligations.SwitchPublishesTheWholeCopy
  exact ⟨fun _ _ _ commit phase timer => switch_store commit phase timer,
    fun _ _ i _ commit phase timer => switch_slot i commit phase timer⟩

end Sys2Proof.Machine
end
